-- ==== Sys2Proof/Word.lean ====
section
/-! DEFINITION. The word types of the block: bytes, 48-bit register contents (R8), 64-bit words of host memory and device time (R7). -/

namespace Sys2Proof

/-- One byte of an operand, a tray or host memory. -/
abbrev Byte := BitVec 8

/-- A byte string, lowest address first. -/
abbrev Bytes := List Byte

/-- The significant bits [47:0] of a register (R8). -/
abbrev W48 := BitVec 48

/-- A 64-bit word: a register access, a mailbox word (R127), a result word (R83). -/
abbrev W64 := BitVec 64

/-- Device time: a 48-bit count of 10 ns ticks that wraps (R7). -/
abbrev DevTime := BitVec 48

end Sys2Proof
end

