-- ==== Sys2Proof/Syntax.lean ====
section
/-! DEFINITION. The commands of the block: one constructor per row of spec/opcode_table.json, in its order. An operand carries what the sender or the environment decides (a written value, fetched bytes, a measured condition); everything else a command needs stands in State. Ports, ring pairs and slices are named by the number through which they are reached: a host port from 0, a local ring pair or local slice of that port (R65). A task is named by its completion staging slot (R91). -/

namespace Sys2Proof

/-- A command of the block. -/
inductive Instr where
  /-- MAIN_POWER_GOOD (R451): One input has stayed at 9.0 V or more for 2 ms, so main power is good and the module soft-starts its rails. -/
  | mainPowerGood
  /-- PWROK_OUT_RISE (R451): The rails are up and PWROK_OUT rises, which enters WAKE and samples the HSPLIT straps. -/
  | pwrokOutRise (hsplit : Nat)
  /-- WAKE_OTP_LOADED (R428): Trims and OTP are loaded, and WAKE decodes the life-cycle word and progress words, either holding with a WAKE_FAULT or choosing TRANSIT. -/
  | wakeOtpLoaded
  /-- WAKE_SELF_TEST_END (R37): The power-on self-test of the control complexes ends in WAKE, and WAKE holds with NO_CONTROL_COMPLEX when neither complex passes. -/
  | wakeSelfTestEnd (aPass : Bool) (bPass : Bool)
  /-- FLASH_UNREADABLE (R37): WAKE finds that neither flash copy is readable and holds with WAKE_FAULT 0x04. -/
  | flashUnreadable
  /-- KEY_TREE_LOAD_COMPLETE (R34): The working image has been built from flash, and WAKE applies the SWK check and passes to SEED, ZEROIZED, ANALYSIS or SAFE_HALT. -/
  | keyTreeLoadComplete (swkBlock : Bytes) (dramBlocks : List Bytes) (badA : List Nat) (badB : List Nat) (stimulusFails : List Nat)
  /-- STARTUP_TEST_END (R342): A noise source finishes its 4,096-bit start-up test and becomes HEALTHY or EXCLUDED. -/
  | startupTestEnd (source : Nat) (run : Nat) (apt : Nat)
  /-- SEED_COMPLETE (R350): SEED has run known-answer tests and instantiated all eight DRBG instances, and the module enters SETUP, or SAFE_HALT when no source passed. -/
  | seedComplete (katFails : List Nat)
  /-- GLB_CTRL_HALT (R39): A write of GLB_CTRL.HALT = 1 enters SAFE_HALT with HALT_CAUSE 0x2. -/
  | glbCtrlHalt (port : Nat) (value : W64)
  /-- GLB_CTRL_QUIESCE (R41): A write of GLB_CTRL.QUIESCE = 1 stops fetching on every ring pair and enters QUIESCE, aborting big-number tasks when ABORT is 1. -/
  | glbCtrlQuiesce (port : Nat) (value : W64)
  /-- GLB_CTRL_RESUME (R42): A write of GLB_CTRL.RESUME = 1 with ENABLE = 1 returns a quiesced unit to service and resumes fetching from each ring's head. -/
  | glbCtrlResume (port : Nat) (value : W64)
  /-- GLB_CTRL_ENABLE (R43): A write of GLB_CTRL.ENABLE = 1 starts the global configuration-consistency check, or sets ENABLE at once in QUIESCE. -/
  | glbCtrlEnable (port : Nat) (value : W64)
  /-- GLB_CTRL_ENABLE_CLEAR (R39): A write of GLB_CTRL.ENABLE = 0 cancels a running check, enters QUIESCE from service, or makes QUIESCE pass to SETUP when drained. -/
  | glbCtrlEnableClear (port : Nat) (value : W64)
  /-- CONFIG_CHECK_END (R44): A global, port or slice configuration-consistency check ends, recording its reason code and either accepting the enable or raising event source 161. -/
  | configCheckEnd (kind : Nat) (port : Nat) (slice : Nat)
  /-- PORT_CTRL_ENABLE (R43): A write of PORT_CTRL.ENABLE = 1 requests the port check. -/
  | portCtrlEnable (port : Nat) (value : W64)
  /-- PORT_CTRL_ENABLE_CLEAR (R102): A write of PORT_CTRL.ENABLE = 0 stops fetching on the port and drains its tasks, aborting big-number tasks when ABORT is 1. -/
  | portCtrlEnableClear (port : Nat) (value : W64)
  /-- SLC_CTRL_ENABLE (R43): A write of SLC_CTRL.ENABLE = 1 requests the slice check. -/
  | slcCtrlEnable (port : Nat) (slice : Nat) (value : W64)
  /-- SLC_CTRL_ENABLE_CLEAR (R123): A write of SLC_CTRL.ENABLE = 0 stops fetching on the slice and drains its tasks, aborting big-number tasks when ABORT is 1. -/
  | slcCtrlEnableClear (port : Nat) (slice : Nat) (value : W64)
  /-- RING_CTRL_ENABLE (R78): A write of RING_CTRL.ENABLE = 1 is recorded, or is dropped and counted while the owning slice is enabled. -/
  | ringCtrlEnable (port : Nat) (ring : Nat) (value : W64)
  /-- RING_CTRL_ENABLE_CLEAR (R103): A write of RING_CTRL.ENABLE = 0 stops fetching on the ring pair and discards its completions, aborting big-number tasks when ABORT is 1. -/
  | ringCtrlEnableClear (port : Nat) (ring : Nat) (value : W64)
  /-- REGISTER_WRITE (R12): A write to a register with no behaviour of its own is applied to its writable fields, or is refused, counted and reported on event source 64. -/
  | registerWrite (port : Nat) (space : Nat) (offset : Nat) (value : W64)
  /-- ADDRESS_LO_WRITE (R13): A write to the *_LO half of an address pair applies it together with the held *_HI value. -/
  | addressLoWrite (port : Nat) (offset : Nat) (value : W64)
  /-- MISALIGNED_ACCESS (R9): An access that is not an aligned 64-bit access reads zero or is dropped, increments GLB_HOST_ACCESS_ERR and raises event source 64. -/
  | misalignedAccess (port : Nat) (bar : Nat) (offset : Nat) (write : Bool)
  /-- POISONED_WRITE (R60): A poisoned or ECRC-failing write arriving in a BAR is dropped and reported through AER. -/
  | poisonedWrite (port : Nat) (bar : Nat) (offset : Nat) (ecrc : Bool)
  /-- PORT_SPLIT_WRITE (R68): A write to PORT_SPLIT_SLC_n or PORT_SPLIT_RING_n resets the SLC, RING and MBX registers of every slice or ring pair whose owning port it changes. -/
  | portSplitWrite (port : Nat) (target : Nat) (rings : Bool) (value : W64)
  /-- PERST_ASSERT (R63): An assertion of PERSTn_N resets host port n alone, stopping its DMA, aborting its big-number tasks and discarding its completions. -/
  | perstAssert (port : Nat)
  /-- FUNCTION_LEVEL_RESET (R63): A function-level reset resets the host port alone, as R63 lays down. -/
  | functionLevelReset (port : Nat)
  /-- D3HOT_TO_D0 (R63): A return from D3hot to D0 resets the host port alone, as R63 lays down. -/
  | d3hotToD0 (port : Nat)
  /-- PERST_RELEASE (R62): Release of PERSTn_N after PWROK_OUT and a stable REFCLKn lets port n leave reset and train its link. -/
  | perstRelease (port : Nat)
  /-- LINK_UP (R62): The port's link reaches L0, it answers configuration requests and its early BAR0 registers become readable. -/
  | linkUp (port : Nat) (speed : Nat) (width : Nat)
  /-- READ_COMPLETION_TIMEOUT (R60): A read issued by the module reaches its completion timeout and is treated as a transport error. -/
  | readCompletionTimeout (tid : Nat)
  /-- TAG_CTRL_COMMIT (R75): A write of TAG_CTRL.COMMIT = 1 decrements WRITES_LEFT and starts writing the staged tag to both flash copies. -/
  | tagCtrlCommit (port : Nat) (value : W64)
  /-- TAG_CTRL_DISCARD (R74): A write of TAG_CTRL.DISCARD = 1 reloads the staged tag from the committed tag. -/
  | tagCtrlDiscard (port : Nat) (value : W64)
  /-- TAG_COMMIT_END (R75): A tag commit ends within 25 ms and BUSY clears. -/
  | tagCommitEnd
  /-- TAIL_DOORBELL (R87): A write to the submission tail doorbell is accepted as the new T or puts the port into PORT_FAULT. -/
  | tailDoorbell (port : Nat) (ring : Nat) (value : W64)
  /-- HEAD_DOORBELL (R87): A write to the completion head doorbell is accepted as the new C or puts the port into PORT_FAULT. -/
  | headDoorbell (port : Nat) (ring : Nat) (value : W64)
  /-- ADMISSION_RESERVE (R91): The admission unit, taking ports and ring pairs in turn, reserves a record, staging slot, destination credits and quota unit together and issues the entry fetch. -/
  | admissionReserve
  /-- ENTRY_FETCH_COMPLETE (R149): A fetched submission entry arrives and is checked, matched to its recipe or operation, given D and a sequence number, and its system requests are issued. -/
  | entryFetchComplete (tid : Nat) (data : Bytes) (outcome : Nat)
  /-- KEY_RESOLUTION_COMPLETE (R247): A key resolution ends, setting the KEY0 or KEY1 flag or ending the task early with its status. -/
  | keyResolutionComplete (tid : Nat) (second : Bool)
  /-- OPERAND_READ_COMPLETE (R157): The source operand has arrived and sets the SRC flag, or a refused piece or transport error ends the task with WINDOW_VIOLATION. -/
  | operandReadComplete (tid : Nat) (data : Bytes) (refusedPages : List Nat) (badPages : List Nat) (ecrcPages : List Nat)
  /-- RANDOM_REQUEST_SERVE (R346): A DRBG instance serves a random request with one Generate call, reseeding first when due, and sets the RANDOM flag. -/
  | randomRequestServe (tid : Nat) (mismatch : Bool)
  /-- PREFETCH_FILL (R161): A class selector fills an engine's empty prefetch slot with the highest-ranked ready step among the eight clusters' heaps. -/
  | prefetchFill (cls : Nat) (engine : Nat)
  /-- STEP_COMPLETE (R186): An engine completes a step, and its outcome sets flags, records a verdict or ends the task early; the engine then starts its prefetched step. -/
  | stepComplete (tid : Nat) (step : Nat) (checkFails : Bool)
  /-- DESTINATION_PIECE_WRITE (R118): A staged destination piece is checked against the windows and written to host memory when its port's link accepts it, releasing credits when it is the last. -/
  | destinationPieceWrite (tid : Nat) (refusedPages : List Nat)
  /-- COMPLETION_WRITE (R85): A glazed completion entry is written to its ring when space exists, or discarded, releasing its staging slot and quota unit and updating drain states. -/
  | completionWrite (port : Nat) (ring : Nat) (refused : Bool)
  /-- COAL_TIME_EXPIRE (R98): COAL_TIME µs pass since an armed ring pair was armed, and it sends its interrupt message. -/
  | coalTimeExpire (port : Nat) (ring : Nat)
  /-- LIBRARY_COMMIT_WRITE (R176): A glazed recipe registration or retirement is written to both flash copies and its completion is staged. -/
  | libraryCommitWrite
  /-- DSP_CLASS_DISABLE (R169): A write of DSP_CLASS_CTRL_c.ENABLE = 0 refuses new tasks needing class c and, for BN with ABORT, aborts tasks holding big-number steps. -/
  | dspClassDisable (port : Nat) (cls : Nat) (value : W64)
  /-- DSP_CLASS_ENABLE (R169): A write of DSP_CLASS_CTRL_c.ENABLE = 1 restores admission of the class at once and clears DRAINED. -/
  | dspClassEnable (port : Nat) (cls : Nat) (value : W64)
  /-- ABORT_ZEROING_END (R336): An aborted task's core, trays and work area are zeroed, its staged pieces are covered by zero pieces and it completes with ABORTED. -/
  | abortZeroingEnd (tid : Nat)
  /-- RCP_REGISTER (R188): The ADMIN operation registers a recipe image in a slot after its fifteen registration tests. -/
  | rcpRegister (tid : Nat)
  /-- RCP_RETIRE (R173): The ADMIN operation retires a recipe slot to RETIRING or EMPTY. -/
  | rcpRetire (tid : Nat)
  /-- RCP_READ (R175): The ADMIN operation writes a slot's image and digest and reports its state. -/
  | rcpRead (tid : Nat)
  /-- MOVE (R182): A TRAY step copies LEN bytes from A to D. -/
  | move (tid : Nat) (step : Nat)
  /-- XOR (R182): A TRAY step writes the XOR of A and B to D. -/
  | xor (tid : Nat) (step : Nat)
  /-- FILL (R182): A TRAY step fills D with the ARG byte. -/
  | fill (tid : Nat) (step : Nat)
  /-- COMPARE (R182): A TRAY step tests A and B for equality. -/
  | compare (tid : Nat) (step : Nat)
  /-- PACK (R182): A TRAY step packs ASCII digits into packed BCD. -/
  | pack (tid : Nat) (step : Nat)
  /-- UNPACK (R182): A TRAY step unpacks packed BCD into ASCII digits. -/
  | unpack (tid : Nat) (step : Nat)
  /-- DECIMALIZE (R182): A TRAY step maps nibbles through a decimalization table into a digit string. -/
  | decimalize (tid : Nat) (step : Nat)
  /-- ENCRYPT (R297): A CIPHER step enciphers data under a DATA key in the selected mode. -/
  | encrypt (tid : Nat) (step : Nat)
  /-- DECRYPT (R297): A CIPHER step deciphers data under a DATA key in the selected mode. -/
  | decrypt (tid : Nat) (step : Nat)
  /-- MAC_GEN (R216): A CIPHER step computes an ISO 9797-1 or CMAC MAC. -/
  | macGen (tid : Nat) (step : Nat)
  /-- MAC_VERIFY (R218): A CIPHER step computes a MAC and compares it with the MAC at B. -/
  | macVerify (tid : Nat) (step : Nat)
  /-- KCV (R219): A CIPHER step writes a 3-byte key check value. -/
  | kcv (tid : Nat) (step : Nat)
  /-- PIN_TRANSLATE (R207): A CIPHER step deciphers a PIN block under one key and enciphers it under another, checking its output. -/
  | pinTranslate (tid : Nat) (step : Nat)
  /-- PIN_DECRYPT (R209): A CIPHER step writes the PIN record of a PIN block. -/
  | pinDecrypt (tid : Nat) (step : Nat)
  /-- PIN_ENCRYPT (R203): A CIPHER step enciphers a PIN record into a PIN block and checks it. -/
  | pinEncrypt (tid : Nat) (step : Nat)
  /-- PIN_VERIFY_OFFSET (R212): A CIPHER step verifies a PIN by the decimalization offset method. -/
  | pinVerifyOffset (tid : Nat) (step : Nat)
  /-- PIN_VERIFY_PVV (R213): A CIPHER step verifies a PIN against a reference PVV. -/
  | pinVerifyPvv (tid : Nat) (step : Nat)
  /-- PIN_OFFSET_GEN (R212): A CIPHER step writes the PIN offset of a PIN. -/
  | pinOffsetGen (tid : Nat) (step : Nat)
  /-- PVV_GEN (R213): A CIPHER step writes the PVV of a PIN. -/
  | pvvGen (tid : Nat) (step : Nat)
  /-- CVV_GEN (R215): A CIPHER step computes a card verification value. -/
  | cvvGen (tid : Nat) (step : Nat)
  /-- CVV_VERIFY (R215): A CIPHER step computes a card verification value and compares it with B. -/
  | cvvVerify (tid : Nat) (step : Nat)
  /-- DUKPT_TDEA_DERIVE (R220): A CIPHER step derives a TDEA DUKPT working key into a KEY tray. -/
  | dukptTdeaDerive (tid : Nat) (step : Nat)
  /-- DUKPT_AES_DERIVE (R225): A CIPHER step derives an AES DUKPT working key into a KEY tray. -/
  | dukptAesDerive (tid : Nat) (step : Nat)
  /-- EMV_MK_DERIVE (R227): A CIPHER step derives a card master key from the IMK, PAN and PSN. -/
  | emvMkDerive (tid : Nat) (step : Nat)
  /-- EMV_SK_DERIVE (R228): A CIPHER step derives a session key from the card master key and ATC. -/
  | emvSkDerive (tid : Nat) (step : Nat)
  /-- ARQC_VERIFY (R229): A CIPHER step recomputes an ARQC and compares it. -/
  | arqcVerify (tid : Nat) (step : Nat)
  /-- ARPC_GEN (R230): A CIPHER step generates an ARPC. -/
  | arpcGen (tid : Nat) (step : Nat)
  /-- KEYBLOCK_WRAP (R234): A CIPHER step wraps a key into an X9.143 key block. -/
  | keyblockWrap (tid : Nat) (step : Nat)
  /-- KEYBLOCK_UNWRAP (R235): A CIPHER step unwraps an X9.143 key block into a KEY tray after its checks. -/
  | keyblockUnwrap (tid : Nat) (step : Nat)
  /-- HASH (R182): A HASH step writes a digest. -/
  | hash (tid : Nat) (step : Nat)
  /-- HMAC (R182): A HASH step writes an HMAC. -/
  | hmac (tid : Nat) (step : Nat)
  /-- KDF (R480): A HASH step derives a key by SP 800-108 with HMAC-SHA-256 into a KEY tray. -/
  | kdf (tid : Nat) (step : Nat)
  /-- SIGN (R323): A BN step signs a digest and checks the signature before release. -/
  | sign (tid : Nat) (step : Nat)
  /-- SIG_VERIFY (R323): A BN step verifies a signature. -/
  | sigVerify (tid : Nat) (step : Nat)
  /-- AGREE (R324): A BN step agrees a key with a peer and writes SHA-256 of Z to a KEY tray. -/
  | agree (tid : Nat) (step : Nat)
  /-- RESOLVE (R247): A KEYRES step resolves a handle into a HANDLE tray. -/
  | resolve (tid : Nat) (step : Nat)
  /-- RESOLVE_SET (R262): A KEYRES step resolves a key-set member selected by a Sieve result. -/
  | resolveSet (tid : Nat) (step : Nat)
  /-- LOOKUP (R360): A SIEVE step looks up a PAN in the route cache or the banks and checks the result's domain. -/
  | lookup (tid : Nat) (step : Nat) (cacheBad : Bool) (parity : List (List Nat))
  /-- EMIT (R192): An EMIT step hands its bytes to destination staging at its offset. -/
  | emit (tid : Nat) (step : Nat)
  /-- KT_CREATE (R252): The ADMIN operation creates a derived or wrapped node under a parent. -/
  | ktCreate (tid : Nat)
  /-- KT_GENERATE (R252): The ADMIN operation generates a node, with a pairwise check for key pairs. -/
  | ktGenerate (tid : Nat) (failedCores : List Nat)
  /-- KT_IMPORT (R265): The ADMIN operation imports an L4 node from a key block or a public key. -/
  | ktImport (tid : Nat)
  /-- KT_VOID (R253): The ADMIN operation voids an L3 or L4 node and starts the sweep of its descendants. -/
  | ktVoid (tid : Nat)
  /-- KT_ROLL (R254): The ADMIN operation creates a replacement sibling and voids the old node in one epoch. -/
  | ktRoll (tid : Nat) (failedCores : List Nat)
  /-- KT_EXPORT (R265): The ADMIN operation exports an L4 node as a key block. -/
  | ktExport (tid : Nat)
  /-- KT_INFO (R267): The ADMIN operation writes a node's 64-byte description and public key. -/
  | ktInfo (tid : Nat)
  /-- KT_PROVENANCE (R263): The ADMIN operation issues a signed provenance statement for a LIVE LOCAL node. -/
  | ktProvenance (tid : Nat)
  /-- KT_CHAIN (R264): The ADMIN operation writes the vendor certificate chain of the attestation key. -/
  | ktChain (tid : Nat)
  /-- KT_SET_WRITE (R262): The ADMIN operation replaces a whole key set in one commit. -/
  | ktSetWrite (tid : Nat)
  /-- KT_ROOT_GENERATE (R252): The sensitive ADMIN operation generates a domain root under the domain quorum. -/
  | ktRootGenerate (tid : Nat)
  /-- KT_ROOT_IMPORT (R285): The sensitive ADMIN operation creates a domain root from a COMPLETE component session. -/
  | ktRootImport (tid : Nat)
  /-- KT_ROOT_VOID (R253): The sensitive ADMIN operation voids a domain root. -/
  | ktRootVoid (tid : Nat)
  /-- KEY_TREE_COMMIT_WRITE (R259): A glazed key-tree commit is written to every usable flash copy and its completion is staged or its waiting resolution released. -/
  | keyTreeCommitWrite
  /-- JOURNAL_COMPACTION_END (R241): Compaction of both flash copies ends and the other region comes into use. -/
  | journalCompactionEnd
  /-- SWEEP_END (R254): The sweep of a voided node's descendants ends and event source 112 is raised. -/
  | sweepEnd
  /-- KTR_LOW_MARK_WRITE (R270): A write to KTR_LOW_MARK sets the threshold and raises event source 113 when it makes the low condition true. -/
  | ktrLowMarkWrite (port : Nat) (value : W64)
  /-- CU_CHALLENGE (R275): The CUSTODY operation issues a 256-bit challenge with its expiry. -/
  | cuChallenge (tid : Nat)
  /-- CU_AUTHORIZE (R278): The CUSTODY operation checks an authorization token and holds it in the store. -/
  | cuAuthorize (tid : Nat)
  /-- CU_WITHDRAW (R278): The CUSTODY operation discards every token held for a digest. -/
  | cuWithdraw (tid : Nat)
  /-- CU_ENROLL (R272): The CUSTODY operation enrolls a custodian key with its POSSESSION token. -/
  | cuEnroll (tid : Nat)
  /-- CU_REMOVE (R272): The CUSTODY operation removes a custodian. -/
  | cuRemove (tid : Nat)
  /-- CU_QUORUM (R272): The CUSTODY operation changes a group's quorum. -/
  | cuQuorum (tid : Nat)
  /-- CU_TRANSPORT (R283): The CUSTODY operation writes the signed transport statement. -/
  | cuTransport (tid : Nat)
  /-- CU_COMPONENT_BEGIN (R285): The CUSTODY operation opens a key-component session. -/
  | cuComponentBegin (tid : Nat)
  /-- CU_COMPONENT (R285): The CUSTODY operation checks and XORs one component envelope into a session, committing the key at the last component. -/
  | cuComponent (tid : Nat)
  /-- CU_COMPONENT_CANCEL (R285): The CUSTODY operation erases a component session. -/
  | cuComponentCancel (tid : Nat)
  /-- CU_RELEASE (R51): The sensitive CUSTODY operation releases the unit from SAFE_HALT by running the recovery sequence. -/
  | cuRelease (tid : Nat)
  /-- CU_RECOMMISSION (R288): The sensitive CUSTODY operation recommissions a ZEROIZED unit. -/
  | cuRecommission (tid : Nat)
  /-- CU_DOMAIN_RESET (R273): The sensitive CUSTODY operation empties a domain group whose root is not LIVE. -/
  | cuDomainReset (tid : Nat)
  /-- RECOVERY_SEQUENCE_END (R51): The recovery sequence's self-test, entropy start-up and rebuild end, and the unit enters SETUP or ANALYSIS or stays halted. -/
  | recoverySequenceEnd (aPass : Bool) (bPass : Bool) (swkBlock : Bytes) (dramBlocks : List Bytes) (badA : List Nat) (badB : List Nat)
  /-- FL_AUTHORITY (R289): The sensitive CUSTODY operation enrolls the fleet identifier and authority key. -/
  | flAuthority (tid : Nat)
  /-- FL_MEMBER (R289): The sensitive CUSTODY operation installs the unit's member certificate. -/
  | flMember (tid : Nat)
  /-- FL_EXPORT (R290): The sensitive CUSTODY operation writes a transfer blob of a root or branch for a fleet member. -/
  | flExport (tid : Nat)
  /-- FL_IMPORT (R292): The sensitive CUSTODY operation checks a transfer blob and places the node. -/
  | flImport (tid : Nat)
  /-- CHALLENGE_EXPIRE (R275): A challenge reaches its 600 s expiry and it and the tokens naming it are dropped. -/
  | challengeExpire (challenge : Nat)
  /-- COMPONENT_SESSION_EXPIRE (R285): A component session reaches its 600 s expiry and is erased with its accumulator, raising event source 133. -/
  | componentSessionExpire (session : Nat)
  /-- CPATH_REQUEST (R287): A whole CPATH REQUEST frame arrives and is served, answered from the stored response, or rejected. -/
  | cpathRequest (frame : Bytes)
  /-- CPATH_RESPONSE (R287): The glazed outcome of a CPATH request is sent as a RESPONSE frame. -/
  | cpathResponse
  /-- CPATH_FRAME_TIMEOUT (R286): More than 1 ms passes between bytes of a CPATH frame and the frame is discarded. -/
  | cpathFrameTimeout
  /-- BK_ENCRYPT (R301): The BULK operation enciphers a message in segment steps. -/
  | bkEncrypt (tid : Nat)
  /-- BK_DECRYPT (R301): The BULK operation deciphers a message in segment steps. -/
  | bkDecrypt (tid : Nat)
  /-- BK_GCM_SEAL (R301): The BULK operation seals AAD and plaintext with AES-GCM. -/
  | bkGcmSeal (tid : Nat)
  /-- BK_GCM_OPEN (R306): The BULK operation opens AES-GCM with held output, or in two passes above 65,536 bytes. -/
  | bkGcmOpen (tid : Nat)
  /-- BK_MAC_GEN (R301): The BULK operation computes a MAC over a message. -/
  | bkMacGen (tid : Nat)
  /-- BK_MAC_VERIFY (R301): The BULK operation verifies a MAC over a message. -/
  | bkMacVerify (tid : Nat)
  /-- BK_HASH (R301): The BULK operation hashes a message. -/
  | bkHash (tid : Nat)
  /-- BK_HMAC_GEN (R301): The BULK operation computes an HMAC over a message. -/
  | bkHmacGen (tid : Nat)
  /-- BK_HMAC_VERIFY (R301): The BULK operation verifies an HMAC over a message. -/
  | bkHmacVerify (tid : Nat)
  /-- PK_SIGN (R320): The PK_DIRECT operation signs a message or digest. -/
  | pkSign (tid : Nat)
  /-- PK_VERIFY (R320): The PK_DIRECT operation verifies a signature. -/
  | pkVerify (tid : Nat)
  /-- PK_AGREE (R324): The PK_DIRECT operation computes a shared value Z with a peer key. -/
  | pkAgree (tid : Nat)
  /-- PK_KEM_DECAP (R325): The PK_DIRECT operation decapsulates an ML-KEM-768 ciphertext. -/
  | pkKemDecap (tid : Nat)
  /-- PK_KEM_ENCAP (R325): The PK_DIRECT operation encapsulates to an ML-KEM-768 key. -/
  | pkKemEncap (tid : Nat)
  /-- PK_MODEXP (R320): The PK_DIRECT operation computes a modular exponentiation. -/
  | pkModexp (tid : Nat)
  /-- PK_MODMUL (R320): The PK_DIRECT operation computes a modular multiplication. -/
  | pkModmul (tid : Nat)
  /-- CHECK_PHASE_END (R329): A BN step's 2,160-handshake check phase ends and the step continues or is rejected with the lowest failing operand and kind. -/
  | checkPhaseEnd (tid : Nat) (step : Nat)
  /-- PRIME_SEARCH_UNIT_END (R327): An idle core ends a search unit of at most 4 µs and may add a probable prime to the reserve. -/
  | primeSearchUnitEnd (core : Nat) (entry : Nat) (found : Option Nat)
  /-- PKE_RSA_GEN_WRITE (R338): A write to PKE_RSA_GEN_i.MOD_BITS sets the size and discards the primes held for the previous size, or is dropped when invalid. -/
  | pkeRsaGenWrite (port : Nat) (entry : Nat) (value : W64)
  /-- SV_OPEN (R368): The ADMIN operation opens the Sieve staging image, empty or copied. -/
  | svOpen (tid : Nat)
  /-- SV_WRITE (R370): The ADMIN operation applies records to the staging image after checking them all. -/
  | svWrite (tid : Nat)
  /-- SV_COMMIT (R371): The ADMIN operation checks the image, writes it to flash and starts loading the twin bank. -/
  | svCommit (tid : Nat)
  /-- SV_ABORT (R368): The ADMIN operation discards the staging image and raises event source 99. -/
  | svAbort (tid : Nat)
  /-- SV_READ (R368): The ADMIN operation returns records of the current table. -/
  | svRead (tid : Nat)
  /-- SIEVE_BANK_LOAD_END (R371): A bank finishes loading the new generation; after the twin load it swaps primary and generation and stages the commit's completion. -/
  | sieveBankLoadEnd
  /-- SIEVE_SEARCHES_DRAINED (R371): Every search begun on the former primary has ended and that bank starts loading the new generation. -/
  | sieveSearchesDrained
  /-- HEALTH_TEST_FAIL (R341): A raw bit reaches a health-test cutoff and its source becomes EXCLUDED, stopping the DRBGs when it was the last. -/
  | healthTestFail (source : Nat) (proportion : Bool)
  /-- SEED_RELEASE (R345): A conditioned seed enters its half's pool once the following 1,024 bits have passed, serving any request waiting on a reseed. -/
  | seedRelease (source : Nat) (block : Bytes)
  /-- ENT_CTRL_RETEST (R343): A write of ENT_CTRL.RETEST bit n puts an EXCLUDED source back into TESTING, or is dropped and counted. -/
  | entCtrlRetest (port : Nat) (value : W64)
  /-- GLAZE_EPOCH_END (R380): Device time reaches a multiple of 400 ticks and the holder sends the epoch's record over the Glaze link. -/
  | glazeEpochEnd
  /-- GLAZE_ACK (R376): The standby's acknowledgment is presented, the epoch is glazed and the lease is renewed. -/
  | glazeAck
  /-- GLAZE_RESEND (R382): 1.0 µs after an epoch end without acknowledgment, the record is sent again and RETRIES is incremented. -/
  | glazeResend
  /-- GLAZE_LINK_CHECK (R382): 2.0 µs after an epoch end without acknowledgment, the arbiter reads both health reports and revokes or goes simplex. -/
  | glazeLinkCheck
  /-- LEASE_LAPSE (R375): The Lozenge lease expires without renewal and the former holder is fenced. -/
  | leaseLapse
  /-- HEALTH_REPORT_BAD (R377): A complex's health report turns bad and, for the holder, the lease is revoked at once. -/
  | healthReportBad (complex : Nat)
  /-- LOZENGE_GRANT (R379): After flush and discard the arbiter grants the Lozenge to the STANDBY complex, or the unit proceeds without a holder. -/
  | lozengeGrant
  /-- TAKEOVER_END (R385): The new holder finishes adopting its mirror, replaying the log, rewriting completions and re-dispatching tasks, and raises event source 1. -/
  | takeoverEnd
  /-- COMPLEX_SELF_TEST_END (R390): A restored complex ends its power-on self-test and begins SYNCING, or becomes UNUSABLE. -/
  | complexSelfTestEnd (complex : Nat) (pass : Bool)
  /-- STATE_COPY_END (R390): The copy of control state to a restored complex completes and it becomes STANDBY, raising event source 3. -/
  | stateCopyEnd
  /-- STATE_COPY_TIMEOUT (R390): A state copy has not completed 10 ms after it began and fails, making the complex UNUSABLE. -/
  | stateCopyTimeout
  /-- ENGINE_STALL (R392): An engine completes no handshake for 5,000 ticks, is marked unusable and its steps return to their heaps. -/
  | engineStall (cls : Nat) (engine : Nat)
  /-- DUAL_RAIL_INVALID (R21): Completion detection sees code 11 on a dual-rail pair and the engine is marked unusable with its step re-dispatched. -/
  | dualRailInvalid (cls : Nat) (engine : Nat)
  /-- CRUMB_START (R396): The continuity unit starts the next Crumb test of its round on an engine or memory slice. -/
  | crumbStart
  /-- CRUMB_END (R399): A Crumb test ends and its target rejoins service, or is replaced on failure with event source 8. -/
  | crumbEnd (slot : Nat) (fails : Bool)
  /-- PATROL_SCRUB_PASS (R394): A patrol-scrub pass over DRAM ends and may find a device failure, raising event source 15. -/
  | patrolScrubPass (corrections : List Nat)
  /-- FLASH_COPY_UNREADABLE (R394): A read error or tag failure confined to one flash copy takes that copy out of use and raises event source 10. -/
  | flashCopyUnreadable (copy : Nat)
  /-- FLASH_RESYNC_END (R394): A restored flash copy finishes resynchronizing and event source 11 is raised. -/
  | flashResyncEnd (copy : Nat)
  /-- POWER_PHASE_SHED (R394): A power phase fails its current-share or temperature check and is shed, raising event source 14. -/
  | powerPhaseShed
  /-- CN_FW_STAGE (R400): The CUSTODY operation verifies a signed firmware image and writes it into the inactive slot. -/
  | cnFwStage (tid : Nat)
  /-- CN_FW_ACTIVATE (R47): The sensitive CUSTODY operation starts firmware activation and enters UPDATE. -/
  | cnFwActivate (tid : Nat)
  /-- CN_HANDOVER (R400): The CUSTODY operation surrenders the Lozenge to the standby once its epoch is glazed. -/
  | cnHandover (tid : Nat)
  /-- UPDATE_SELF_TEST_END (R47): A complex ends its self-test on the new image, leading to a handover, the return to SERVE, or a revert with UPDATE_REVERTED. -/
  | updateSelfTestEnd (pass : Bool)
  /-- VIN_STATE_CHANGE (R447): An input's condition holds for its filter time and its state changes. -/
  | vinStateChange (input : Nat) (millivolts : Int)
  /-- VIN_RESTORE (R394): An input has stayed in range for 100 ms and carries load again, raising event source 13. -/
  | vinRestore (input : Nat)
  /-- BOTH_INPUTS_LOST (R449): Neither input carries load, fetching stops and the hold-up sequence glazes the epoch and flushes reservations. -/
  | bothInputsLost
  /-- HOLDUP_FLUSH_END (R449): Reservations and glazed commits are in both flash copies and PWR_HOLDUP is updated. -/
  | holdupFlushEnd (microseconds : Nat)
  /-- RETAIN_ENTER (R449): The battery domain takes over, rails switch off, PWROK_OUT falls, links go down and the mode is RETAIN. -/
  | retainEnter
  /-- ALARM_DETECT (R403): An alarm source's condition holds for its filter time, it joins or opens an alarm group and its response starts. -/
  | alarmDetect (source : Nat) (seconds : Nat) (input : Nat)
  /-- ALARM_GROUP_CLOSE (R410): An alarm group closes, changes the mode once, is written to the alarm log and raises its events. -/
  | alarmGroupClose
  /-- ERASE_END (R411): The ERASE sequence ends with the SWK, DRAM key and volatile secrets destroyed. -/
  | eraseEnd
  /-- ALARM_REARM (R412): A detector's condition has been absent for its filter time and it re-arms. -/
  | alarmRearm (source : Nat)
  /-- MONITOR_STIMULUS (R406): A monitor channel's stimulus test ends, detecting MON_TEST when the channel fails to detect. -/
  | monitorStimulus (source : Nat) (channel : Nat) (detected : Bool)
  /-- RETAIN_STIMULUS (R406): Every 60 s in RETAIN the battery-domain channels are stimulated and failures are logged as source 28. -/
  | retainStimulus (failing : List Nat) (seconds : Nat)
  /-- RETENTION_PROTECT_RESTORE (R417): VBAT has stayed at or above 2.50 V for 1 s and RETENTION_UNPROTECTED clears. -/
  | retentionProtectRestore
  /-- TM_CONFIGURE (R414): The sensitive CUSTODY operation measures the loops and commits a new alarm configuration. -/
  | tmConfigure (tid : Nat) (ohms : List Nat)
  /-- TM_LOG_READ (R418): The CUSTODY operation writes alarm-log entries from a group number onward. -/
  | tmLogRead (tid : Nat)
  /-- INJ_CTRL_GO (R420): A write of INJ_CTRL.GO = 1 drives the detector selected by INJ_SEL. -/
  | injCtrlGo (port : Nat) (value : W64)
  /-- INJECTION_END (R420): An injection ends, INJ_RESULT records the outcome and event source 62 is raised. -/
  | injectionEnd (fired : Bool) (latency : Nat)
  /-- LC_REQUEST (R434): The CUSTODY operation checks a signed life-cycle request and, when accepted, drains work and enters TRANSIT. -/
  | lcRequest (tid : Nat)
  /-- TRANSIT_STEP_END (R436): A step of the transition sequence ends and its progress mark is burnt, passing to WAKE after CLOSED. -/
  | transitStepEnd (outcome : Nat) (burnt : Nat)
  /-- EVC_CLAIM (R140): A read of EVC_CLAIM takes the highest-ranked deliverable source, makes it active and raises the running level. -/
  | evcClaim (port : Nat)
  /-- EVC_EOI (R142): A write to EVC_EOI ends an active source and restores the running level, or counts a stray end. -/
  | evcEoi (port : Nat) (value : W64)
  /-- EVC_PEND_WRITE (R134): A write of 1 to an EVC_PEND bit clears that source's pending bit. -/
  | evcPendWrite (port : Nat) (index : Nat) (value : W64)
  /-- EVC_ENABLE_WRITE (R144): A write to EVC_ENABLE enables or masks sources and may make a level signaling. -/
  | evcEnableWrite (port : Nat) (index : Nat) (value : W64)
  /-- EVC_PRIO_WRITE (R143): A write to EVC_PRIO changes source levels for later claims and may make a level signaling. -/
  | evcPrioWrite (port : Nat) (index : Nat) (value : W64)
  /-- EVC_HOLD_WRITE (R145): A write to EVC_HOLD stops message delivery, or clears HOLD and makes the highest deliverable level signal. -/
  | evcHoldWrite (port : Nat) (value : W64)
  /-- EVC_MASK_SETTLE (R144): 250 ns after a masking write, a claim can no longer return the masked source. -/
  | evcMaskSettle (port : Nat) (source : Nat)
  /-- MSIX_MESSAGE_SEND (R139): A requested MSI-X message is sent once MSI-X is enabled, the vector unmasked and the link in L0. -/
  | msixMessageSend (port : Nat) (vector : Nat)
  /-- MAILBOX_WORD_WRITE (R127): A write to words 0 to 6 of an outbound mailbox slot stores the word, or is dropped and counted when the slot is full. -/
  | mailboxWordWrite (port : Nat) (manager : Bool) (slice : Nat) (slot : Nat) (word : Nat) (value : W64)
  /-- MAILBOX_POST (R127): A write to the post word of an empty outbound slot makes it full and notifies the other side. -/
  | mailboxPost (port : Nat) (manager : Bool) (slice : Nat) (slot : Nat) (value : W64)
  /-- MAILBOX_RELEASE (R127): A write to the post word of a full inbound slot zeroes and empties it and notifies the other side. -/
  | mailboxRelease (port : Nat) (manager : Bool) (slice : Nat) (slot : Nat) (value : W64)
  /-- SLC_MBX_STAT_CLEAR (R129): A write of 1 to SLC_MBX_STAT.POSTED or RELEASED clears it and may lower the slice's mailbox summary level. -/
  | slcMbxStatClear (port : Nat) (slice : Nat) (value : W64)
  /-- SLC_VIOL_INFO_CLEAR (R119): A write of 1 to SLC_VIOL_INFO.VALID clears the precise capture and re-arms it. -/
  | slcViolInfoClear (port : Nat) (slice : Nat) (value : W64)
  /-- SLC_NOTICE_CLEAR (R120): A write of 1 to SLC_NOTICE.VALID clears the posted notice, its count and page. -/
  | slcNoticeClear (port : Nat) (slice : Nat) (value : W64)
  /-- SLC_WIN_SEL_WRITE (R112): A write to SLC_WIN_SEL selects a window entry and discards a held unapplied base _HI value. -/
  | slcWinSelWrite (port : Nat) (slice : Nat) (value : W64)
  /-- BYPASS (R440): The debug port instruction selects the 1-bit bypass register. -/
  | bypass (code : Nat)
  /-- IDCODE (R440): The debug port instruction selects the 32-bit identification register. -/
  | idcode
  /-- SAMPLE (R441): The debug port instruction samples the boundary register, except in FIELDED. -/
  | sample (boundary : Nat)
  /-- EXTEST (R441): The debug port instruction drives the boundary register, except in FIELDED. -/
  | extest (boundary : Nat)
  /-- DBG_ADDR (R440): The debug port instruction loads the 48-bit internal access address. -/
  | dbgAddr (address : W64)
  /-- DBG_ACCESS (R442): The debug port instruction reads or writes the word at DBG_ADDR, refusing locked regions and counting violations. -/
  | dbgAccess (write : Bool) (data : W64)
  /-- VIN_A (R461): The SMBus command returns the voltage of VIN_A. -/
  | vinA (word : Bool) (pec : Bool)
  /-- VIN_B (R461): The SMBus command returns the voltage of VIN_B. -/
  | vinB (word : Bool) (pec : Bool)
  /-- IIN (R461): The SMBus command returns the total input current. -/
  | iin (word : Bool) (pec : Bool)
  /-- PIN (R461): The SMBus command returns the input power. -/
  | pin (word : Bool) (pec : Bool)
  /-- TEMP (R461): The SMBus command returns the lid temperature. -/
  | temp (word : Bool) (pec : Bool)
  /-- VBAT (R461): The SMBus command returns the cell voltage. -/
  | vbat (word : Bool) (pec : Bool)
  /-- STATUS (R461): The SMBus command returns the mode, REDUCED, pin states and usable phases. -/
  | status (word : Bool) (pec : Bool)
  /-- INPUTS (R461): The SMBus command returns the states of both inputs. -/
  | inputs (word : Bool) (pec : Bool)
  /-- SMBUS_OTHER_COMMAND (R461): An SMBus read to an unlisted command code is acknowledged and returns 0xFF per byte. -/
  | smbusOtherCommand (code : Nat) (word : Bool) (pec : Bool)
  /-- SMBUS_WRITE (R461): An SMBus write has its command byte acknowledged and every data byte refused with NACK. -/
  | smbusWrite (code : Nat) (data : Bytes)
  /-- SMBUS_CLOCK_LOW_TIMEOUT (R461): The SMBus clock stays low for 25 to 35 ms and the target releases the bus. -/
  | smbusClockLowTimeout
  /-- TELEMETRY_REFRESH (R461): Each millisecond the telemetry values are refreshed as averages over the preceding 1 ms. -/
  | telemetryRefresh (vin : List Nat) (current : List Nat) (power : Nat) (temp : Int) (vbat : Nat) (pace : List Nat) (ohms : List Nat)
  /-- REFCLK_STABLE (R62): REFCLKn has been stable for 100 µs after PWROK_OUT, so a port whose PERSTn_N is already high leaves reset and trains, and a port held in detect by a REFCLK DEGRADE may train again. -/
  | refclkStable (port : Nat)
  /-- PORT_RESET_END (R63): A port reset ends within 1 ms of its arrival, the port is ready for configuration, and each level source of the port whose level is high latches pending again (R147). -/
  | portResetEnd (port : Nat)
  /-- ATS_INVALIDATION_REQUEST (R58): An ATS invalidation request arrives on a port and is completed once every transfer that used an invalidated translation has been issued. -/
  | atsInvalidationRequest (port : Nat) (pasid : Nat) (page : Nat)
  /-- LINK_LEAVES_L0 (R135): A port's link leaves L0 for L1, an L1 substate or link recovery, so edges are caught by asynchronous latches and MSI-X requests are held. -/
  | linkLeavesL0 (port : Nat)
  /-- D3HOT_ENTRY (R135): The host places the port's function in D3hot, and event edges are caught by asynchronous latches until the return to D0. -/
  | d3hotEntry (port : Nat)
  /-- TEST_LOGIC_RESET_EXIT (R445): The debug TAP leaves Test-Logic-Reset on a DBG_CK edge, setting LCS_DEBUG.ATTACHED and, the first time since WAKE outside FIELDED, raising event source 165. -/
  | testLogicResetExit
  /-- BATTERY_DOMAIN_LOSS (R417): The cell is removed or fails while main power is absent, the battery domain stops, and the SWK, battery log and group counter are lost. -/
  | batteryDomainLoss
deriving DecidableEq, Repr

end Sys2Proof
end

