-- ==== Sys2Proof/Config.lean ====
section
/-! DEFINITION. What the variant fixes (R1, R17), and the free values: opaque constants that stand for values and functions the spec names without giving them. -/

namespace Sys2Proof

/-- The three variants (R1). -/
inductive Variant where
  /-- PFD-9648-X. -/
  | x
  /-- PFD-9648-M. -/
  | m
  /-- PFD-9648-B. -/
  | b
deriving DecidableEq, Repr

namespace Config

/-- Chooses by variant. -/
def pick {α : Type} (v : Variant) (a b c : α) : α :=
  match v with
  | .x => a
  | .m => b
  | .b => c

/-- Ports the variant can create (R1). -/
def hostPorts (v : Variant) : Nat := pick v 4 2 1
/-- Ring pairs of the unit (R1). -/
def ringPairs (v : Variant) : Nat := pick v 4096 1024 256
/-- Slices of the unit (R1). -/
def slices (v : Variant) : Nat := pick v 1024 256 64
/-- Operations in flight, staging slots and records of the unit (R1, R91). -/
def inflight (v : Variant) : Nat := pick v 65536 32768 16384
/-- Hot contexts of the unit (R1); each of the four resolvers holds a quarter (R249). -/
def hotContexts (v : Variant) : Nat := pick v 65536 65536 16384
/-- Key-tree nodes (R1, R238). -/
def nodes (v : Variant) : Nat := pick v 16777216 16777216 4194304
/-- Sieve entries per bank, and key sets (R1, R262). -/
def sieveEntries (v : Variant) : Nat := pick v 262144 65536 0
/-- DRAM in units of 4 GiB (R1, R73). -/
def dram4 (v : Variant) : Nat := pick v 16 8 4
/-- Lattice mode present (R1). -/
def lattice (v : Variant) : Bool := pick v true false false
/-- Sieve present (R1). -/
def sieve (v : Variant) : Bool := pick v true true false
/-- CPATH present (R1). -/
def cpath (v : Variant) : Bool := pick v true true false
/-- Device ID (R57). -/
def deviceId (v : Variant) : Nat := pick v 0x9648 0x9649 0x964A
/-- Vendor ID (R57). -/
def vendorId : Nat := 0x1F3C
/-- Class code: encryption controller, other (R57). -/
def classCode : Nat := 0x108000
/-- Variant code of GLB_CAP0 (R73). -/
def variantCode (v : Variant) : Nat := pick v 0 1 2
/-- Reset value of DSP_BN_LONG_POOL.COUNT (R172). -/
def longPool (v : Variant) : Nat := pick v 8 4 2
/-- Bytes of one journal region (R241). -/
def journalRegion (v : Variant) : Nat := pick v (128 * 2 ^ 30) (128 * 2 ^ 30) (32 * 2 ^ 30)

/-- Usable units of an engine class in half A and in half B (R17): class 1 CIPHER, 2 HASH, 3 BN, 4 KEYRES, 5 SIEVE. -/
def perHalf (v : Variant) (cls : Nat) : Nat :=
  match cls with
  | 1 => pick v 16 8 4
  | 2 => 8
  | 3 => pick v 32 16 8
  | 4 => 2
  | 5 => pick v 1 1 0
  | _ => 0

/-- Spares of a class in a half (R17). -/
def sparesIn (v : Variant) (cls half : Nat) : Nat :=
  match cls with
  | 1 => if half = 0 then 1 else pick v 1 1 0
  | 2 => 1
  | 3 => pick v 2 1 1
  | _ => 0

/-- First engine number of half B: R296 for lanes, R314 for cores, two resolvers (R249) and one lookup unit a half otherwise. -/
def halfBase (v : Variant) (cls : Nat) : Nat :=
  match cls with
  | 1 => 17
  | 2 => 9
  | 3 => pick v 34 17 9
  | 4 => 2
  | 5 => 1
  | _ => 0

/-- The effective split of the straps (R61): 0 one port, 1 two ports, 2 four ports. -/
def effectiveSplit (v : Variant) (hsplit : Nat) : Nat :=
  match hsplit, v with
  | 1, .x => 1
  | 1, .m => 1
  | 2, .x => 2
  | 2, .m => 1
  | _, _ => 0

/-- Free value: whether a claim inside the 250 ns of R144 still returns the masked source; indexed by the state's counter of free values. -/
opaque maskRace : Nat → Bool

/-- Free value: the check value by which WAKE recognises an SWK (R428); the spec gives it no form. -/
opaque swkCheck : Bytes → Bytes

/-- The record integrity key that the Fondant derives from an SWK (R238, R241): the spec gives no derivation (free value, log entry 27). -/
opaque recordKey : Bytes → Bytes

/-- Free value: the private scalar of the unit attestation key, derived from L0 by a derivation the spec does not give (R238, R264). -/
opaque attestationSecret : Bytes → Bytes

/-- Free value: the private scalar of the unit transport key, derived from L0 (R283). -/
opaque transportSecret : Bytes → Bytes

/-- Free value: the vendor certificate chain of an attestation key, DER, leaf first (R264, R265). -/
opaque vendorChain : Bytes → Bytes

/-- Free value: the additional data of a nonce that the Fondant uses for a statement or blob it signs, and of an ephemeral key it draws; indexed by the state's counter of free values. -/
opaque fondantRandom : Nat → Bytes

/-- Free value: whether a firmware image has the right header and length; the spec gives the image no layout (R400). -/
opaque firmwareFormatOk : Bytes → Bool

/-- Free value: the version in a firmware image's header, major, minor and patch as in GLB_ID (R400, R401). -/
opaque firmwareVersion : Bytes → BitVec 24

/-- Free value: whether a firmware image's Ndepevex signature verifies (R47, R400). -/
opaque firmwareSignatureOk : Bytes → Bool

/-- Free value: whether a firmware image's header asks for the floor to be raised (R400). -/
opaque firmwareRaisesFloor : Bytes → Bool

/-- Free value: the key or secret of n bytes that a generation takes from its 64 drawn bytes, where R327 names no selection; cut to n bytes. -/
opaque drawnSecret : Bytes → Nat → Bytes

/-- Free value: the hash selector (0 SHA-256, 1 SHA-384, 2 SHA-512) with which RFC 6979 forms the nonce of a scheme-7 signature over a digest of n bytes; R323 names the scheme without its hash. -/
opaque rfc6979Hash : Nat → Nat

/-- Free value: the expansion of a 32-byte seed into a PSS salt of n bytes (R326 says expanded and no more). -/
opaque pssSalt : Bytes → Nat → Bytes

/-- Free value: whether PK_VERIFY of scheme RSA raw accepts a signature below n (public key, signature). R323 gives it LEN 0, so that no message stands in the source to compare it with. -/
opaque rsaRawValid : Bytes → Bytes → Bool

/-- Free value: the locked region an internal debug address lies in (R441); the spec gives the regions no addresses. -/
opaque debugRegion : BitVec 48 → Nat

/-- Free value: the position of a Sieve bank at which an injected parity error strikes (R419 names the bank alone); indexed by the state's counter of free values. -/
opaque injectedEntry : Nat → Nat

/-- Free value: what an internal word that no debug write has changed reads as; indexed by the state's counter of free values and the address. -/
opaque debugWord : Nat → BitVec 48 → BitVec 48

/-- Free value: a word of the AER header log (R55 names header logging and gives no layout): the kind of the error, its address, the word. -/
opaque aerHeader : Nat → Nat → Nat → BitVec 32

end Config

end Sys2Proof
end

