-- ==== Sys2Proof/Machine/Bits.lean ====
section
/-! DEFINITION. Bit fields, byte order, byte strings, sparse tables and the half-range comparison of R7: the helpers that every other file of the machine uses. -/

namespace Sys2Proof.Machine

/-- Field [hi:lo] of a number (bit 0 is the least significant, R6). -/
def bits (hi lo : Nat) (w : Nat) : Nat := (w >>> lo) % 2 ^ (hi + 1 - lo)

/-- Bit i of a number. -/
def bit (i : Nat) (w : Nat) : Bool := w.testBit i

/-- 1 for true, 0 for false. -/
def b2n (b : Bool) : Nat := if b then 1 else 0

/-- A register word from a number, bits above 47 dropped (R8). -/
def w48 (n : Nat) : W48 := BitVec.ofNat 48 n

/-- A result word from a number. -/
def w64 (n : Nat) : W64 := BitVec.ofNat 64 n

/-- A number placed at bit lo. -/
def at_ (lo n : Nat) : Nat := n <<< lo

/-- A byte from a number. -/
def byte (n : Nat) : Byte := BitVec.ofNat 8 n

/-- n zero bytes. -/
def zeros (n : Nat) : Bytes := List.replicate n 0

/-- Little-endian number of a byte string (R6). -/
def leNat : Bytes → Nat
  | [] => 0
  | b :: bs => b.toNat + 256 * leNat bs

/-- Big-endian number of a byte string. -/
def beNat (bs : Bytes) : Nat := bs.foldl (fun a b => a * 256 + b.toNat) 0

/-- The low n bytes of a number, little-endian. -/
def leBytes : Nat → Nat → Bytes
  | 0, _ => []
  | n + 1, v => byte v :: leBytes n (v / 256)

/-- The low n bytes of a number, big-endian. -/
def beBytes (n v : Nat) : Bytes := (leBytes n v).reverse

/-- n bytes of a string from offset o; bytes past the end read as zero. -/
def cut (o n : Nat) (bs : Bytes) : Bytes :=
  let t := (bs.drop o).take n
  t ++ zeros (n - t.length)

/-- Byte o of a string, zero past the end. -/
def byteAt (o : Nat) (bs : Bytes) : Nat := (bs.getD o 0).toNat

/-- The string with the bytes v written over it from offset o; bytes that would run past the end are dropped. -/
def patch (o : Nat) (v bs : Bytes) : Bytes :=
  (bs.take o ++ v ++ bs.drop (o + v.length)).take bs.length

/-- Bytewise exclusive or of the common length. -/
def xorB (a b : Bytes) : Bytes := List.zipWith (· ^^^ ·) a b

/-- The string cut into pieces of n bytes, the last one possibly shorter; fuel bounds the pieces. -/
def chunksF : Nat → Nat → Bytes → List Bytes
  | 0, _, _ => []
  | _ + 1, _, [] => []
  | f + 1, n, b :: bs => (b :: bs).take n :: chunksF f n ((b :: bs).drop n)

/-- The string cut into pieces of n bytes. -/
def chunks (n : Nat) (bs : Bytes) : List Bytes := chunksF bs.length n bs

/-- Whether every byte of the string is zero. -/
def allZero (bs : Bytes) : Bool := bs.all (· == 0)

/-- Nibble i of a string, nibble 0 the high nibble of byte 0 (R201). -/
def nib (i : Nat) (bs : Bytes) : Nat :=
  let b := byteAt (i / 2) bs
  if i % 2 = 0 then b / 16 else b % 16

/-- The first n nibbles of a string. -/
def nibs (n : Nat) (bs : Bytes) : List Nat := (List.range n).map (nib · bs)

/-- A byte string packed from nibbles, the first one in the high nibble; an odd count is padded with p. -/
def packNibs (p : Nat) : List Nat → Bytes
  | [] => []
  | [a] => [byte (a * 16 + p)]
  | a :: b :: r => byte (a * 16 + b) :: packNibs p r

/-- Digits packed as a digit string: left-justified, an odd count padded with one F nibble (R196). -/
def digitString (ds : List Nat) : Bytes := packNibs 15 ds

/-- The least number of pieces of n that cover m. -/
def ceilDiv (m n : Nat) : Nat := (m + n - 1) / n

/-- A count that saturates at the largest value of n bits. -/
def sat (n v : Nat) : Nat := min v (2 ^ n - 1)

/-- x applied n times to a start value. -/
def iter {α : Type} (f : α → α) : Nat → α → α
  | 0, a => a
  | n + 1, a => iter f n (f a)

/-- Time t is later than u under the half-range rule (R7). -/
def later (t u : DevTime) : Bool :=
  let d := (t - u).toNat
  decide (1 ≤ d) && decide (d < 2 ^ 47)

/-- Time t is at or after u: u is not later than t. -/
def reached (t u : DevTime) : Bool := t == u || later t u

/-- Two numbers compared by the half-range rule of R7 applied to 48 bits (R150). -/
def earlierSeq (a b : Nat) : Bool := later (w48 b) (w48 a)

/-- A sparse table: pairs of key and value, keys strictly rising. -/
abbrev Table (α : Type) := List (Nat × α)

/-- The entry of a key. -/
def Table.find {α : Type} (k : Nat) : Table α → Option α
  | [] => none
  | (j, v) :: t => if j = k then some v else if k < j then none else Table.find k t

/-- The entry of a key, or the value an unlisted key has. -/
def Table.findD {α : Type} (k : Nat) (d : α) (t : Table α) : α := (Table.find k t).getD d

/-- Puts a value at a key, keeping the keys rising. -/
def Table.put {α : Type} (k : Nat) (v : α) : Table α → Table α
  | [] => [(k, v)]
  | (j, w) :: t =>
    if j = k then (k, v) :: t
    else if k < j then (k, v) :: (j, w) :: t
    else (j, w) :: Table.put k v t

/-- Removes a key. -/
def Table.del {α : Type} (k : Nat) (t : Table α) : Table α := t.filter (fun p => p.1 != k)

/-- Puts a value that differs from the default d of an unlisted key, and removes the key otherwise: the canonical form. -/
def Table.putD {α : Type} [DecidableEq α] (k : Nat) (v d : α) (t : Table α) : Table α :=
  if v = d then Table.del k t else Table.put k v t

/-- Changes the entry of a key if there is one. -/
def Table.upd {α : Type} (k : Nat) (f : α → α) : Table α → Table α
  | [] => []
  | (j, v) :: t => if j = k then (j, f v) :: t else (j, v) :: Table.upd k f t

/-- The values of a table in key order. -/
def Table.vals {α : Type} (t : Table α) : List α := t.map (·.2)

/-- The least number below n that is no key of the table. -/
def Table.freeKey {α : Type} (n : Nat) (t : Table α) : Option Nat :=
  (List.range (min n (t.length + 1))).find? (fun k => (Table.find k t).isNone)

/-- The keys of a table rise strictly. -/
def Table.wf {α : Type} (t : Table α) : Bool :=
  match t with
  | [] => true
  | [_] => true
  | (a, _) :: (b, w) :: r => decide (a < b) && Table.wf ((b, w) :: r)

/-- Changes element i of a list if there is one. -/
def upd {α : Type} (i : Nat) (f : α → α) (l : List α) : List α := l.modify i f

/-- The numbers below n whose bit is set. -/
def setBits (n w : Nat) : List Nat := (List.range n).filter (w.testBit ·)

/-- Bits of a number. -/
def bitLen (v : Nat) : Nat := if v = 0 then 0 else Nat.log2 v + 1

end Sys2Proof.Machine
end

