-- ==== Sys2Proof/Machine/Hash.lean ====
section
/-! DEFINITION. The hashes of R296 and R227 (FIPS 180-4, FIPS 202), HMAC (FIPS 198-1) and the KDF of R480. The spec names the standards and does not restate them (PRESUMED). -/

namespace Sys2Proof.Machine

/-- Word i of w bits of a packed table. -/
def tabWord (w t i : Nat) : Nat := (t >>> (w * i)) % 2 ^ w

/-- Rotation right of a w-bit number. -/
def rotR (w n v : Nat) : Nat := (v >>> n ||| v <<< (w - n)) % 2 ^ w
/-- Rotation left of a w-bit number. -/
def rotL (w n v : Nat) : Nat := rotR w (w - n) v

/-- Round constants of SHA-256. -/
def sha256K : Nat := 0xc67178f2bef9a3f7a4506ceb90befffa8cc7020884c8781478a5636f748f82ee682e6ff35b9cca4f4ed8aa4a391c0cb334b0bcb52748774c1e376c0819a4c116106aa070f40e3585d6990624d192e819c76c51a3c24b8b70a81a664ba2bfe8a192722c8581c2c92e766a0abb650a735453380d134d2c6dfc2e1b213827b70a851429296706ca6351d5a79147c6e00bf3bf597fc7b00327c8a831c66d983e515276f988da5cb0a9dc4a7484aa2de92c6f240ca1cc0fc19dc6efbe4786e49b69c1c19bf1749bdc06a780deb1fe72be5d74550c7dc3243185be12835b01d807aa98ab1c5ed5923f82a459f111f13956c25be9b5dba5b5c0fbcf71374491428a2f98
/-- Round constants of SHA-384 and SHA-512. -/
def sha512K : Nat := 0x6c44198c4a4758175fcb6fab3ad6faec597f299cfc657e2a4cc5d4becb3e42b6431d67c49c100d4c3c9ebe0a15c9bebc32caab7b40c7249328db77f523047d841b710b35131c471b113f9804bef90dae0a637dc5a2c898a606f067aa72176fbaf57d4f7fee6ed178eada7dd6cde0eb1ed186b8c721c0c207ca273eceea26619cc67178f2e372532bbef9a3f7b2c67915a4506cebde82bde990befffa23631e288cc702081a6439ec84c87814a1f0ab7278a5636f43172f60748f82ee5defb2fc682e6ff3d6b2b8a35b9cca4f7763e3734ed8aa4ae3418acb391c0cb3c5c95a6334b0bcb5e19b48a82748774cdf8eeb991e376c085141ab5319a4c116b8d2d0c8106aa07032bbd1b8f40e35855771202ad69906245565a910d192e819d6ef5218c76c51a30654be30c24b8b70d0f89791a81a664bbc423001a2bfe8a14cf1036492722c851482353b81c2c92e47edaee6766a0abb3c77b2a8650a73548baf63de53380d139d95b3df4d2c6dfc5ac42aed2e1b21385c26c92627b70a8546d22ffc142929670a0e6e7006ca6351e003826fd5a79147930aa725c6e00bf33da88fc2bf597fc7beef0ee4b00327c898fb213fa831c66d2db43210983e5152ee66dfab76f988da831153b55cb0a9dcbd41fbd44a7484aa6ea6e4832de92c6f592b0275240ca1cc77ac9c650fc19dc68b8cd5b5efbe4786384f25e3e49b69c19ef14ad2c19bf174cf6926949bdc06a725c7123580deb1fe3b1696b172be5d74f27b896f550c7dc3d5ffb4e2243185be4ee4b28c12835b0145706fbed807aa98a3030242ab1c5ed5da6d8118923f82a4af194f9b59f111f1b605d0193956c25bf348b538e9b5dba58189dbbcb5c0fbcfec4d3b2f7137449123ef65cd428a2f98d728ae22

/-- Padding of the SHA family: 0x80, zeros, and the bit length in the last lb bytes of a block of bb bytes. -/
def shaPad (bb lb : Nat) (m : Bytes) : Bytes :=
  let z := (2 * bb - 1 - lb - m.length % bb) % bb
  m ++ [0x80] ++ zeros z ++ beBytes lb (8 * m.length)

/-- What differs between the 32-bit and the 64-bit members: word width, the rotations, round constants and rounds. -/
structure ShaFam where
  w : Nat
  rounds : Nat
  k : Nat
  s0 : Nat × Nat × Nat
  s1 : Nat × Nat × Nat
  b0 : Nat × Nat × Nat
  b1 : Nat × Nat × Nat
deriving DecidableEq, Repr

/-- SHA-256. -/
def sha32 : ShaFam := { w := 32, rounds := 64, k := sha256K, s0 := (7, 18, 3), s1 := (17, 19, 10), b0 := (2, 13, 22), b1 := (6, 11, 25) }
/-- SHA-384 and SHA-512. -/
def sha64 : ShaFam := { w := 64, rounds := 80, k := sha512K, s0 := (1, 8, 7), s1 := (19, 61, 6), b0 := (28, 34, 39), b1 := (14, 18, 41) }

/-- A small sigma: two rotations and a shift. -/
def shaSmall (w : Nat) (r : Nat × Nat × Nat) (x : Nat) : Nat := rotR w r.1 x ^^^ rotR w r.2.1 x ^^^ (x >>> r.2.2)
/-- A large sigma: three rotations. -/
def shaLarge (w : Nat) (r : Nat × Nat × Nat) (x : Nat) : Nat := rotR w r.1 x ^^^ rotR w r.2.1 x ^^^ rotR w r.2.2 x

/-- Message schedule: the words, newest first. -/
def shaSched (f : ShaFam) : Nat → List Nat → List Nat
  | 0, ws => ws
  | n + 1, ws =>
    let x := (shaSmall f.w f.s1 (ws.getD 1 0) + ws.getD 6 0 + shaSmall f.w f.s0 (ws.getD 14 0) + ws.getD 15 0) % 2 ^ f.w
    shaSched f n (x :: ws)

/-- The eight working variables. -/
structure Sha8 where
  a : Nat
  b : Nat
  c : Nat
  d : Nat
  e : Nat
  f : Nat
  g : Nat
  h : Nat
deriving DecidableEq, Repr

/-- One round. -/
def shaRound (f : ShaFam) (s : Sha8) (kw : Nat) : Sha8 :=
  let ch := (s.e &&& s.f) ^^^ ((2 ^ f.w - 1 - s.e) &&& s.g)
  let mj := (s.a &&& s.b) ^^^ (s.a &&& s.c) ^^^ (s.b &&& s.c)
  let t1 := s.h + shaLarge f.w f.b1 s.e + ch + kw
  let t2 := shaLarge f.w f.b0 s.a + mj
  { a := (t1 + t2) % 2 ^ f.w, b := s.a, c := s.b, d := s.c, e := (s.d + t1) % 2 ^ f.w, f := s.e, g := s.f, h := s.g }

/-- The compression of one block into a chaining value. -/
def shaBlock (f : ShaFam) (h : Sha8) (blk : Bytes) : Sha8 :=
  let ws := (shaSched f (f.rounds - 16) ((chunks (f.w / 8) blk).map beNat).reverse).reverse
  let r := ((List.range f.rounds).zip ws).foldl (fun s x => shaRound f s (tabWord f.w f.k x.1 + x.2)) h
  let m := 2 ^ f.w
  { a := (h.a + r.a) % m, b := (h.b + r.b) % m, c := (h.c + r.c) % m, d := (h.d + r.d) % m,
     e := (h.e + r.e) % m, f := (h.f + r.f) % m, g := (h.g + r.g) % m, h := (h.h + r.h) % m }

/-- A starting value from a packed table. -/
def shaInit (w t : Nat) : Sha8 :=
  { a := tabWord w t 0, b := tabWord w t 1, c := tabWord w t 2, d := tabWord w t 3,
     e := tabWord w t 4, f := tabWord w t 5, g := tabWord w t 6, h := tabWord w t 7 }

/-- The bytes of a chaining value. -/
def shaOut (w : Nat) (s : Sha8) : Bytes := ([s.a, s.b, s.c, s.d, s.e, s.f, s.g, s.h].map (beBytes (w / 8))).flatten

/-- A member of the family on a message, from a packed starting value. -/
def shaRun (f : ShaFam) (init : Nat) (m : Bytes) : Bytes :=
  shaOut f.w ((chunks (2 * f.w) (shaPad (2 * f.w) (f.w / 4) m)).foldl (shaBlock f) (shaInit f.w init))

/-- A chaining value from its bytes. -/
def shaIn (w : Nat) (b : Bytes) : Sha8 :=
  let g (i : Nat) : Nat := beNat (cut (i * (w / 8)) (w / 8) b)
  { a := g 0, b := g 1, c := g 2, d := g 3, e := g 4, f := g 5, g := g 6, h := g 7 }

/-- Starting value of SHA-256, packed. -/
def sha256Init : Nat := 0x5be0cd191f83d9ab9b05688c510e527fa54ff53a3c6ef372bb67ae856a09e667
/-- Starting value of SHA-512, packed. -/
def sha512Init : Nat := 0x5be0cd19137e21791f83d9abfb41bd6b9b05688c2b3e6c1f510e527fade682d1a54ff53a5f1d36f13c6ef372fe94f82bbb67ae8584caa73b6a09e667f3bcc908
/-- Starting value of SHA-384, packed. -/
def sha384Init : Nat := 0x47b5481dbefa4fa4db0c2e0d64f98fa78eb44a876858151167332667ffc00b31152fecd8f70e59399159015a3070dd17629a292a367cd507cbbb9d5dc1059ed8
/-- SHA-256. -/
def sha256 (m : Bytes) : Bytes := shaRun sha32 sha256Init m
/-- SHA-512. -/
def sha512 (m : Bytes) : Bytes := shaRun sha64 sha512Init m
/-- SHA-384. -/
def sha384 (m : Bytes) : Bytes := (shaRun sha64 sha384Init m).take 48

/-- One round of SHA-1: state a to e, round number and schedule word. -/
def sha1Round (s : Nat × Nat × Nat × Nat × Nat) (x : Nat × Nat) : Nat × Nat × Nat × Nat × Nat :=
  let (a, b, c, d, e) := s
  let ch := (b &&& c) ||| ((2 ^ 32 - 1 - b) &&& d)
  let par := b ^^^ c ^^^ d
  let mj := (b &&& c) ||| (b &&& d) ||| (c &&& d)
  let fk := if x.1 < 20 then ch + 0x5A827999 else if x.1 < 40 then par + 0x6ED9EBA1
    else if x.1 < 60 then mj + 0x8F1BBCDC else par + 0xCA62C1D6
  ((rotL 32 5 a + fk + e + x.2) % 2 ^ 32, a, rotL 32 30 b, c, d)

/-- SHA-1 schedule, newest word first. -/
def sha1Sched : Nat → List Nat → List Nat
  | 0, ws => ws
  | n + 1, ws => sha1Sched n (rotL 32 1 (ws.getD 2 0 ^^^ ws.getD 7 0 ^^^ ws.getD 13 0 ^^^ ws.getD 15 0) :: ws)

/-- SHA-1 compression of one block. -/
def sha1Block (h : Nat × Nat × Nat × Nat × Nat) (blk : Bytes) : Nat × Nat × Nat × Nat × Nat :=
  let ws := (sha1Sched 64 ((chunks 4 blk).map beNat).reverse).reverse
  let (a, b, c, d, e) := ((List.range 80).zip ws).foldl sha1Round h
  let m := 2 ^ 32
  ((h.1 + a) % m, (h.2.1 + b) % m, (h.2.2.1 + c) % m, (h.2.2.2.1 + d) % m, (h.2.2.2.2 + e) % m)

/-- SHA-1, which serves R227 alone. -/
def sha1 (m : Bytes) : Bytes :=
  let (a, b, c, d, e) := (chunks 64 (shaPad 64 8 m)).foldl sha1Block (0x67452301, 0xEFCDAB89, 0x98BADCFE, 0x10325476, 0xC3D2E1F0)
  ([a, b, c, d, e].map (beBytes 4)).flatten

/-- Round constants of Keccak-f[1600], 64 bits each. -/
def keccakRC : Nat := 0x8000000080008008000000008000000180000000000080808000000080008081800000008000000a000000000000800a8000000000000080800000000000800280000000000080038000000000008089800000000000008b000000008000808b000000008000000a00000000800080090000000000000088000000000000008a800000000000800980000000800080810000000080000001000000000000808b8000000080008000800000000000808a00000000000080820000000000000001
/-- Rotation of lane (x, y) at byte x + 5y. -/
def keccakRot : Nat := 0xe383d021208150f2d2927192b0a031437062c241b1c3e0100

/-- One round of Keccak-f[1600] on 25 lanes, lane (x, y) at x + 5y. -/
def keccakRound (a : List Nat) (rc : Nat) : List Nat :=
  let g (l : List Nat) (i : Nat) : Nat := l.getD i 0
  let c := (List.range 5).map (fun x => g a x ^^^ g a (x + 5) ^^^ g a (x + 10) ^^^ g a (x + 15) ^^^ g a (x + 20))
  let d := (List.range 5).map (fun x => g c ((x + 4) % 5) ^^^ rotL 64 1 (g c ((x + 1) % 5)))
  let b := (List.range 25).map (fun i =>
    let x := i % 5
    let y := i / 5
    let sx := (x + 3 * y) % 5
    let j := sx + 5 * x
    let r := tabWord 8 keccakRot j
    let v := g a j ^^^ g d sx
    if r = 0 then v else rotL 64 r v)
  let e := (List.range 25).map (fun i =>
    let y := 5 * (i / 5)
    g b i ^^^ ((2 ^ 64 - 1 - g b (y + (i + 1) % 5)) &&& g b (y + (i + 2) % 5)))
  (g e 0 ^^^ rc) :: e.drop 1

/-- Keccak-f[1600] on 200 bytes. -/
def keccakF (s : Bytes) : Bytes :=
  (((List.range 24).foldl (fun a i => keccakRound a (tabWord 64 keccakRC i)) ((chunks 8 s).map leNat)).map (leBytes 8)).flatten

/-- SHA3-256. -/
def sha3_256 (m : Bytes) : Bytes :=
  let p := m ++ [0x06] ++ zeros (135 - m.length % 136)
  let p := patch (p.length - 1) [p.getD (p.length - 1) 0 ||| 0x80] p
  ((chunks 136 p).foldl (fun s b => keccakF (xorB s (b ++ zeros 64))) (zeros 200)).take 32

/-- The hash of HASH and HMAC codes (R182): 0 SHA-256, 1 SHA-384, 2 SHA-512, 3 SHA3-256. -/
def hashOf (sel : Nat) (m : Bytes) : Bytes :=
  match sel with
  | 0 => sha256 m
  | 1 => sha384 m
  | 2 => sha512 m
  | _ => sha3_256 m

/-- Digest bytes of a hash. -/
def hashLen (sel : Nat) : Nat :=
  match sel with
  | 1 => 48
  | 2 => 64
  | _ => 32

/-- Block bytes of a hash. -/
def hashBlock (sel : Nat) : Nat :=
  match sel with
  | 0 => 64
  | 1 => 128
  | 2 => 128
  | _ => 136

/-! ### Hashing in parts (R304) -/

/-- The chaining value a hash starts from. -/
def hashStart (sel : Nat) : Bytes :=
  match sel with
  | 0 => shaOut 32 (shaInit 32 sha256Init)
  | 1 => shaOut 64 (shaInit 64 sha384Init)
  | 2 => shaOut 64 (shaInit 64 sha512Init)
  | _ => zeros 200

/-- Whole blocks go into a chaining value. -/
def hashAbsorb (sel : Nat) (st data : Bytes) : Bytes :=
  match sel with
  | 0 => shaOut 32 ((chunks 64 data).foldl (shaBlock sha32) (shaIn 32 st))
  | 1 => shaOut 64 ((chunks 128 data).foldl (shaBlock sha64) (shaIn 64 st))
  | 2 => shaOut 64 ((chunks 128 data).foldl (shaBlock sha64) (shaIn 64 st))
  | _ => (chunks 136 data).foldl (fun s b => keccakF (xorB s (b ++ zeros 64))) st

/-- A hash in progress is its chaining value with the bytes that do not yet fill a block after it. -/
def hashPart (sel : Nat) (chain data : Bytes) : Bytes :=
  let n := (hashStart sel).length
  let rest := chain.drop n ++ data
  let k := rest.length / hashBlock sel * hashBlock sel
  hashAbsorb sel (chain.take n) (rest.take k) ++ rest.drop k

/-- The last bytes of a message of so many bytes, padded to whole blocks. -/
def hashPad (sel total : Nat) (rest : Bytes) : Bytes :=
  let bb := hashBlock sel
  if sel ≤ 2 then
    let lb := bb / 8
    rest ++ [0x80] ++ zeros ((2 * bb - 1 - lb - total % bb) % bb) ++ beBytes lb (8 * total)
  else
    let p := rest ++ [0x06] ++ zeros (135 - total % 136)
    patch (p.length - 1) [p.getD (p.length - 1) 0 ||| 0x80] p

/-- The digest of a hash in progress over so many bytes. -/
def hashFinish (sel total : Nat) (chain : Bytes) : Bytes :=
  let n := (hashStart sel).length
  (hashAbsorb sel (chain.take n) (hashPad sel total (chain.drop n))).take (hashLen sel)

/-- The key of an HMAC filled to a block. -/
def hmacKey (sel : Nat) (key : Bytes) : Bytes :=
  let b := hashBlock sel
  let k := if key.length > b then hashOf sel key else key
  k ++ zeros (b - k.length)

/-- HMAC. -/
def hmacOf (sel : Nat) (key m : Bytes) : Bytes :=
  let k := hmacKey sel key
  hashOf sel (k.map (· ^^^ 0x5C) ++ hashOf sel (k.map (· ^^^ 0x36) ++ m))

/-- An HMAC in progress starts with its inner key block. -/
def hmacStart (sel : Nat) (key : Bytes) : Bytes := hashPart sel (hashStart sel) ((hmacKey sel key).map (· ^^^ 0x36))

/-- The value of an HMAC in progress over so many message bytes. -/
def hmacFinish (sel total : Nat) (key chain : Bytes) : Bytes :=
  hashOf sel ((hmacKey sel key).map (· ^^^ 0x5C) ++ hashFinish sel (hashBlock sel + total) chain)

/-- The KDF of R480: the leftmost bytes for a usage and an algorithm, before odd parity. -/
def kdf108 (key a : Bytes) (usage alg lbits : Nat) : Bytes :=
  let k (i : Nat) : Bytes := hmacOf 0 key ([byte i] ++ a ++ [byte usage, byte alg] ++ beBytes 2 lbits)
  (k 1 ++ k 2).take (lbits / 8)

end Sys2Proof.Machine
end

