-- ==== Sys2Proof/Machine/Curves.lean ====
section
/-! DEFINITION. Modular arithmetic, the Weierstrass curves, X25519 and Ed25519, ECDSA and the RSA encodings (FIPS 186-5, SEC 1, RFC 5639, RFC 6979, RFC 7748, RFC 8017, RFC 8032). The spec names the standards and does not restate them (PRESUMED). -/

namespace Sys2Proof.Machine

/-- b to the power e modulo m, bit by bit from the top. -/
def powModF : Nat → Nat → Nat → Nat → Nat → Nat
  | 0, _, _, _, acc => acc
  | i + 1, b, e, m, acc =>
    let s := acc * acc % m
    powModF i b e m (if e.testBit i then s * b % m else s)

/-- b to the power e modulo m. -/
def powMod (b e m : Nat) : Nat := powModF (bitLen e) b e m (1 % m)

/-- Inverse modulo a prime. -/
def invMod (a p : Nat) : Nat := powMod (a % p) (p - 2) p

/-- Subtraction modulo p. -/
def subMod (a b p : Nat) : Nat := (a + p - b % p) % p

/-- The extended Euclidean algorithm, fuel bounding its steps: the inverse of a modulo m. -/
def egcdF : Nat → Nat → Nat → Int → Int → Int
  | 0, _, _, s, _ => s
  | _ + 1, _, 0, s, _ => s
  | f + 1, a, b + 1, s, t => egcdF f (b + 1) (a % (b + 1)) t (s - (a / (b + 1) : Nat) * t)

/-- Inverse of a modulo m for coprime numbers. -/
def invCoprime (a m : Nat) : Nat := ((egcdF (2 * bitLen m + 2) (a % m) m 1 0) % (m : Int)).toNat

/-! ### Weierstrass curves -/

/-- A curve: algorithm code of R240, field, coefficients, order, generator. -/
structure Curve where
  alg : Nat
  p : Nat
  a : Nat
  b : Nat
  n : Nat
  gx : Nat
  gy : Nat
deriving DecidableEq, Repr

/-- P-256. -/
def p256 : Curve :=
  { alg := 0x11
    p := 0xffffffff00000001000000000000000000000000ffffffffffffffffffffffff
    a := 0xffffffff00000001000000000000000000000000fffffffffffffffffffffffc
    b := 0x5ac635d8aa3a93e7b3ebbd55769886bc651d06b0cc53b0f63bce3c3e27d2604b
    n := 0xffffffff00000000ffffffffffffffffbce6faada7179e84f3b9cac2fc632551
    gx := 0x6b17d1f2e12c4247f8bce6e563a440f277037d812deb33a0f4a13945d898c296
    gy := 0x4fe342e2fe1a7f9b8ee7eb4a7c0f9e162bce33576b315ececbb6406837bf51f5 }

/-- P-384. -/
def p384 : Curve :=
  { alg := 0x12
    p := 0xfffffffffffffffffffffffffffffffffffffffffffffffffffffffffffffffeffffffff0000000000000000ffffffff
    a := 0xfffffffffffffffffffffffffffffffffffffffffffffffffffffffffffffffeffffffff0000000000000000fffffffc
    b := 0xb3312fa7e23ee7e4988e056be3f82d19181d9c6efe8141120314088f5013875ac656398d8a2ed19d2a85c8edd3ec2aef
    n := 0xffffffffffffffffffffffffffffffffffffffffffffffffc7634d81f4372ddf581a0db248b0a77aecec196accc52973
    gx := 0xaa87ca22be8b05378eb1c71ef320ad746e1d3b628ba79b9859f741e082542a385502f25dbf55296c3a545e3872760ab7
    gy := 0x3617de4a96262c6f5d9e98bf9292dc29f8f41dbd289a147ce9da3113b5f0b8c00a60b1ce1d7e819d7a431d7c90ea0e5f }

/-- P-521. -/
def p521 : Curve :=
  { alg := 0x13
    p := 2 ^ 521 - 1
    a := 2 ^ 521 - 4
    b := 0x0051953eb9618e1c9a1f929a21a0b68540eea2da725b99b315f3b8b489918ef109e156193951ec7e937b1652c0bd3bb1bf073573df883d2c34f1ef451fd46b503f00
    n := 0x01fffffffffffffffffffffffffffffffffffffffffffffffffffffffffffffffffa51868783bf2f966b7fcc0148f709a5d03bb5c9b8899c47aebb6fb71e91386409
    gx := 0x00c6858e06b70404e9cd9e3ecb662395b4429c648139053fb521f828af606b4d3dbaa14b5e77efe75928fe1dc127a2ffa8de3348b3c1856a429bf97e7e31c2e5bd66
    gy := 0x011839296a789a3bc0045c8a5fb42c7d1bd998f54449579b446817afbd17273e662c97ee72995ef42640c550b9013fad0761353c7086a272c24088be94769fd16650 }

/-- brainpoolP256r1. -/
def bp256 : Curve :=
  { alg := 0x14
    p := 0xA9FB57DBA1EEA9BC3E660A909D838D726E3BF623D52620282013481D1F6E5377
    a := 0x7D5A0975FC2C3057EEF67530417AFFE7FB8055C126DC5C6CE94A4B44F330B5D9
    b := 0x26DC5C6CE94A4B44F330B5D9BBD77CBF958416295CF7E1CE6BCCDC18FF8C07B6
    n := 0xA9FB57DBA1EEA9BC3E660A909D838D718C397AA3B561A6F7901E0E82974856A7
    gx := 0x8BD2AEB9CB7E57CB2C4B482FFC81B7AFB9DE27E1E3BD23C23A4453BD9ACE3262
    gy := 0x547EF835C3DAC4FD97F8461A14611DC9C27745132DED8E545C1D54C72F046997 }

/-- brainpoolP384r1. -/
def bp384 : Curve :=
  { alg := 0x15
    p := 0x8CB91E82A3386D280F5D6F7E50E641DF152F7109ED5456B412B1DA197FB71123ACD3A729901D1A71874700133107EC53
    a := 0x7BC382C63D8C150C3C72080ACE05AFA0C2BEA28E4FB22787139165EFBA91F90F8AA5814A503AD4EB04A8C7DD22CE2826
    b := 0x04A8C7DD22CE28268B39B55416F0447C2FB77DE107DCD2A62E880EA53EEB62D57CB4390295DBC9943AB78696FA504C11
    n := 0x8CB91E82A3386D280F5D6F7E50E641DF152F7109ED5456B31F166E6CAC0425A7CF3AB6AF6B7FC3103B883202E9046565
    gx := 0x1D1C64F068CF45FFA2A63A81B7C13F6B8847A3E77EF14FE3DB7FCAFE0CBD10E8E826E03436D646AAEF87B2E247D4AF1E
    gy := 0x8ABE1D7520F9C2A45CB1EB8E95CFD55262B70B29FEEC5864E19C054FF99129280E4646217791811142820341263C5315 }

/-- The curve of an algorithm code. -/
def curveOf (alg : Nat) : Option Curve := [p256, p384, p521, bp256, bp384].find? (·.alg == alg)

/-- Field bytes (R319). -/
def Curve.c (k : Curve) : Nat := ceilDiv (bitLen k.p) 8
/-- Order bytes. -/
def Curve.on (k : Curve) : Nat := ceilDiv (bitLen k.n) 8

/-- A point in Jacobian coordinates; Z = 0 is the identity. -/
structure JPoint where
  x : Nat
  y : Nat
  z : Nat
deriving DecidableEq, Repr

/-- Doubling. -/
def Curve.dbl (k : Curve) (q : JPoint) : JPoint :=
  if q.z = 0 ∨ q.y = 0 then { x := 1, y := 1, z := 0 } else
  let y2 := q.y * q.y % k.p
  let s := 4 * q.x * y2 % k.p
  let z2 := q.z * q.z % k.p
  let m := (3 * q.x * q.x + k.a * (z2 * z2 % k.p)) % k.p
  let x := subMod (m * m) (2 * s) k.p
  { x := x, y := subMod (m * subMod s x k.p) (8 * y2 * y2) k.p, z := 2 * q.y * q.z % k.p }

/-- Addition. -/
def Curve.add (k : Curve) (q r : JPoint) : JPoint :=
  if q.z = 0 then r else if r.z = 0 then q else
  let z1 := q.z * q.z % k.p
  let z2 := r.z * r.z % k.p
  let u1 := q.x * z2 % k.p
  let u2 := r.x * z1 % k.p
  let s1 := q.y * (z2 * r.z % k.p) % k.p
  let s2 := r.y * (z1 * q.z % k.p) % k.p
  if u1 = u2 then (if s1 = s2 then k.dbl q else { x := 1, y := 1, z := 0 }) else
  let h := subMod u2 u1 k.p
  let t := subMod s2 s1 k.p
  let h2 := h * h % k.p
  let h3 := h2 * h % k.p
  let v := u1 * h2 % k.p
  let x := subMod (t * t) (h3 + 2 * v) k.p
  { x := x, y := subMod (t * subMod v x k.p) (s1 * h3) k.p, z := h * (q.z * r.z % k.p) % k.p }

/-- Scalar multiplication, bits from the top. -/
def Curve.mulF (k : Curve) (q : JPoint) (d : Nat) : Nat → JPoint → JPoint
  | 0, acc => acc
  | i + 1, acc =>
    let t := k.dbl acc
    k.mulF q d i (if d.testBit i then k.add t q else t)

/-- d times an affine point. -/
def Curve.mul (k : Curve) (d : Nat) (x y : Nat) : JPoint :=
  k.mulF { x := x, y := y, z := 1 } d (bitLen d) { x := 1, y := 1, z := 0 }

/-- Affine coordinates, none for the identity. -/
def Curve.affine (k : Curve) (q : JPoint) : Option (Nat × Nat) :=
  if q.z % k.p = 0 then none
  else
    let zi := invMod q.z k.p
    let z2 := zi * zi % k.p
    some (q.x * z2 % k.p, q.y * (z2 * zi % k.p) % k.p)

/-- The point lies on the curve. -/
def Curve.onCurve (k : Curve) (x y : Nat) : Bool := y * y % k.p == (x * x * x + k.a * x + k.b) % k.p

/-- The uncompressed public key of a private scalar (R319). -/
def Curve.publicKey (k : Curve) (d : Nat) : Bytes :=
  match k.affine (k.mul d k.gx k.gy) with
  | some (x, y) => (4 : Byte) :: (beBytes k.c x ++ beBytes k.c y)
  | none => (4 : Byte) :: zeros (2 * k.c)

/-- X coordinate of a point in R319 form. -/
def Curve.px (k : Curve) (pub : Bytes) : Nat := beNat (cut 1 k.c pub)
/-- Y coordinate. -/
def Curve.py (k : Curve) (pub : Bytes) : Nat := beNat (cut (1 + k.c) k.c pub)

/-- x-coordinate of d times a public point: the ECDH shared value. -/
def Curve.ecdh (k : Curve) (d : Nat) (pub : Bytes) : Bytes :=
  match k.affine (k.mul d (k.px pub) (k.py pub)) with
  | some (x, _) => beBytes k.c x
  | none => zeros k.c

/-- A digest as an integer: the leftmost bits of the order's length (R323). -/
def Curve.digestInt (k : Curve) (dig : Bytes) : Nat :=
  let nb := bitLen k.n
  let v := beNat dig
  if 8 * dig.length > nb then v >>> (8 * dig.length - nb) else v

/-- RFC 6979: one candidate attempt after another from K and V, fuel bounding them. -/
def rfc6979F (k : Curve) (h : Nat) : Nat → Bytes → Bytes → Nat
  | 0, _, _ => 1
  | f + 1, key, v =>
    let hl := hashLen h
    let r := (List.range (ceilDiv k.on hl)).foldl (fun (s : Bytes × Bytes) _ =>
      let v := hmacOf h key s.2
      (s.1 ++ v, v)) ([], v)
    let c := k.digestInt (r.1.take (max k.on (ceilDiv k.on hl * hl)))
    if 1 ≤ c ∧ c < k.n then c
    else
      let key' := hmacOf h key (r.2 ++ [0])
      rfc6979F k h f key' (hmacOf h key' r.2)

/-- RFC 6979 with additional data (section 3.6): the nonce for a private scalar, a digest and a hash. -/
def rfc6979 (k : Curve) (h : Nat) (d : Nat) (dig extra : Bytes) : Nat :=
  let hl := hashLen h
  let seed := beBytes k.on d ++ beBytes k.on (k.digestInt dig % k.n) ++ extra
  let key := hmacOf h (zeros hl) (List.replicate hl 1 ++ [0] ++ seed)
  let v := hmacOf h key (List.replicate hl 1)
  let key := hmacOf h key (v ++ [1] ++ seed)
  rfc6979F k h 64 key (hmacOf h key v)

/-- ECDSA signature with a given nonce: r and s. -/
def Curve.signWith (k : Curve) (d e nonce : Nat) : Nat × Nat :=
  match k.affine (k.mul nonce k.gx k.gy) with
  | none => (0, 0)
  | some (x, _) =>
    let r := x % k.n
    (r, invMod nonce k.n * ((e + r * d) % k.n) % k.n)

/-- ECDSA (FIPS 186-5) with the RFC 6979 nonce. -/
def Curve.ecdsaSign (k : Curve) (h d : Nat) (dig extra : Bytes) : Nat × Nat :=
  k.signWith d (k.digestInt dig) (rfc6979 k h d dig extra)

/-- ECDSA verification. -/
def Curve.ecdsaVerify (k : Curve) (pub dig : Bytes) (r s : Nat) : Bool :=
  if r = 0 ∨ k.n ≤ r ∨ s = 0 ∨ k.n ≤ s then false
  else
    let w := invMod s k.n
    let u1 := k.digestInt dig * w % k.n
    let u2 := r * w % k.n
    match k.affine (k.add (k.mul u1 k.gx k.gy) (k.mul u2 (k.px pub) (k.py pub))) with
    | none => false
    | some (x, _) => x % k.n == r

/-- A P-384 signature r ‖ s with SHA-384 over a message, as custody, fleet and attestation use it. -/
def p384Sign (d : Nat) (msg extra : Bytes) : Bytes :=
  let (r, s) := p384.ecdsaSign 1 d (sha384 msg) extra
  beBytes 48 r ++ beBytes 48 s

/-- Verification of such a signature under X ‖ Y or 0x04 ‖ X ‖ Y of R319. -/
def p384Verify (pub msg sig : Bytes) : Bool :=
  p384.ecdsaVerify pub (sha384 msg) (beNat (cut 0 48 sig)) (beNat (cut 48 48 sig))

/-- A P-384 public key of R319 that a check phase would accept. -/
def p384Valid (pub : Bytes) : Bool :=
  pub.length == 97 && byteAt 0 pub == 4 && decide (p384.px pub < p384.p) && decide (p384.py pub < p384.p)
    && p384.onCurve (p384.px pub) (p384.py pub)

/-! ### X25519 and Ed25519 -/

/-- The field of X25519 and Ed25519. -/
def p25519 : Nat := 2 ^ 255 - 19

/-- Montgomery ladder from the top bit: (x2, z2, x3, z3). -/
def ladderF (u k : Nat) : Nat → Nat × Nat × Nat × Nat → Nat × Nat × Nat × Nat
  | 0, s => s
  | i + 1, (x2, z2, x3, z3) =>
    let p := p25519
    let b := k.testBit i
    let (x2, z2, x3, z3) := if b then (x3, z3, x2, z2) else (x2, z2, x3, z3)
    let a := x2 + z2
    let aa := a * a % p
    let bb' := subMod x2 z2 p
    let bb := bb' * bb' % p
    let e := subMod aa bb p
    let da := subMod x3 z3 p * a % p
    let cb := (x3 + z3) * bb' % p
    let m := da + cb
    let n := subMod da cb p
    let nx2 := aa * bb % p
    let nz2 := e * ((aa + 121665 * e) % p) % p
    let nx3 := m * m % p
    let nz3 := u * (n * n % p) % p
    ladderF u k i (if b then (nx3, nz3, nx2, nz2) else (nx2, nz2, nx3, nz3))

/-- u-coordinate of k times the point of u-coordinate u. -/
def ladder (k u : Nat) : Nat :=
  let r := ladderF u k 255 (1, 0, u, 1)
  r.1 * invMod r.2.1 p25519 % p25519

/-- The clamped scalar of RFC 7748 and RFC 8032. -/
def clamp (k : Bytes) : Nat :=
  let v := leNat (cut 0 32 k)
  v % 2 ^ 254 / 8 * 8 + 2 ^ 254

/-- A u-coordinate as RFC 7748 decodes it, reduced. -/
def decodeU (b : Bytes) : Nat := leNat (cut 0 32 b) % 2 ^ 255 % p25519

/-- X25519. -/
def x25519 (k u : Bytes) : Bytes := leBytes 32 (ladder (clamp k) (decodeU u))

/-- The point of a u-coordinate has an order dividing 8 (R328 LOW_ORDER). -/
def lowOrder (u : Bytes) : Bool := ladder 8 (decodeU u) == 0

/-- Base point of X25519. -/
def baseU : Bytes := leBytes 32 9

/-- A point of the Edwards curve in extended coordinates. -/
structure EPoint where
  x : Nat
  y : Nat
  z : Nat
  t : Nat
deriving DecidableEq, Repr

/-- The constant d of the Edwards curve. -/
def edD : Nat := 37095705934669439343138083508754565189542113879843219016388785533085940283555

/-- The order of the base point. -/
def edL : Nat := 2 ^ 252 + 27742317777372353535851937790883648493

/-- Addition on the Edwards curve. -/
def EPoint.add (q r : EPoint) : EPoint :=
  let p := p25519
  let a := subMod q.y q.x p * subMod r.y r.x p % p
  let b := (q.y + q.x) * (r.y + r.x) % p
  let c := 2 * q.t * r.t % p * edD % p
  let d := 2 * q.z * r.z % p
  let e := subMod b a p
  let f := subMod d c p
  let g := d + c
  let h := b + a
  { x := e * f % p, y := g * h % p, z := f * g % p, t := e * h % p }

/-- The identity. -/
def EPoint.zero : EPoint := { x := 0, y := 1, z := 1, t := 0 }

/-- Scalar multiplication. -/
def EPoint.mulF (q : EPoint) (d : Nat) : Nat → EPoint → EPoint
  | 0, acc => acc
  | i + 1, acc =>
    let s := acc.add acc
    q.mulF d i (if d.testBit i then s.add q else s)

/-- d times a point. -/
def EPoint.mul (q : EPoint) (d : Nat) : EPoint := q.mulF d (bitLen d) .zero

/-- Equality of points. -/
def EPoint.same (q r : EPoint) : Bool :=
  (q.x * r.z) % p25519 == (r.x * q.z) % p25519 && (q.y * r.z) % p25519 == (r.y * q.z) % p25519

/-- Encoding of RFC 8032. -/
def EPoint.encode (q : EPoint) : Bytes :=
  let zi := invMod q.z p25519
  let x := q.x * zi % p25519
  let y := q.y * zi % p25519
  leBytes 32 (y + (x % 2) * 2 ^ 255)

/-- Decoding of RFC 8032, none where it fails. -/
def edDecode (b : Bytes) : Option EPoint :=
  let p := p25519
  let v := leNat (cut 0 32 b)
  let y := v % 2 ^ 255
  let sign := v / 2 ^ 255 % 2
  if p ≤ y then none
  else
    let y2 := y * y % p
    let u := subMod y2 1 p
    let w := (edD * y2 + 1) % p
    let x2 := u * invMod w p % p
    let x := powMod x2 ((p + 3) / 8) p
    let x := if x * x % p = x2 then x else x * powMod 2 ((p - 1) / 4) p % p
    if x * x % p ≠ x2 then none
    else if x = 0 ∧ sign = 1 then none
    else
      let x := if x % 2 = sign then x else p - x
      some { x := x, y := y, z := 1, t := x * y % p }

/-- The base point. -/
def edBase : EPoint := (edDecode (leBytes 32 (4 * invMod 5 p25519 % p25519))).getD .zero

/-- The prefix of Ed25519ph with an empty context. -/
def edPh : Bytes := ("SigEd25519 no Ed25519 collisions".toList.map (fun ch => byte ch.toNat)) ++ [1, 0]

/-- The public key of a seed. -/
def edPublic (seed : Bytes) : Bytes := (edBase.mul (clamp (sha512 seed))).encode

/-- Ed25519 (RFC 8032): signature under a seed; dom is empty or the prefix of Ed25519ph. -/
def edSign (dom seed msg : Bytes) : Bytes :=
  let h := sha512 seed
  let a := clamp h
  let pub := (edBase.mul a).encode
  let r := leNat (sha512 (dom ++ h.drop 32 ++ msg)) % edL
  let rp := (edBase.mul r).encode
  let k := leNat (sha512 (dom ++ rp ++ pub ++ msg)) % edL
  rp ++ leBytes 32 ((r + k * a) % edL)

/-- Ed25519 verification with the cofactored equation. -/
def edVerify (dom pub msg sig : Bytes) : Bool :=
  let s := leNat (cut 32 32 sig)
  match edDecode pub, edDecode (cut 0 32 sig) with
  | some a, some r =>
    if edL ≤ s then false
    else
      let k := leNat (sha512 (dom ++ cut 0 32 sig ++ pub ++ msg)) % edL
      ((edBase.mul s).mul 8).same ((r.add (a.mul k)).mul 8)
  | _, _ => false

/-! ### RSA encodings (RFC 8017) -/

/-- The DigestInfo prefix of a hash code. -/
def digestInfo (h : Nat) : Bytes :=
  match h with
  | 0 => beBytes 19 0x3031300d060960864801650304020105000420
  | 1 => beBytes 19 0x3041300d060960864801650304020205000430
  | _ => beBytes 19 0x3051300d060960864801650304020305000440

/-- EMSA-PKCS1-v1_5 of k bytes. -/
def emsaPkcs1 (h k : Nat) (dig : Bytes) : Bytes :=
  let t := digestInfo h ++ dig
  [0, 1] ++ List.replicate (k - t.length - 3) 0xFF ++ [0] ++ t

/-- MGF1. -/
def mgf1 (h : Nat) (seed : Bytes) (n : Nat) : Bytes :=
  (((List.range (ceilDiv n (hashLen h))).map (fun i => hashOf h (seed ++ beBytes 4 i))).flatten).take n

/-- EMSA-PSS of emBits bits with a salt of the hash's length. -/
def emsaPss (h emBits : Nat) (dig salt : Bytes) : Bytes :=
  let hl := hashLen h
  let emLen := ceilDiv emBits 8
  let hh := hashOf h (zeros 8 ++ dig ++ salt)
  let db := zeros (emLen - 2 * hl - 2) ++ [1] ++ salt
  let m := xorB db (mgf1 h hh db.length)
  let top := 8 * emLen - emBits
  let m := match m with
    | [] => []
    | b :: r => byte (b.toNat % 2 ^ (8 - top)) :: r
  m ++ hh ++ [0xBC]

/-- EMSA-PSS verification. -/
def emsaPssOk (h emBits : Nat) (dig em : Bytes) : Bool :=
  let hl := hashLen h
  let emLen := ceilDiv emBits 8
  let top := 8 * emLen - emBits
  let dbLen := emLen - hl - 1
  let hh := cut dbLen hl em
  let db := xorB (em.take dbLen) (mgf1 h hh dbLen)
  let db := match db with
    | [] => []
    | b :: r => byte (b.toNat % 2 ^ (8 - top)) :: r
  em.length == emLen && byteAt (emLen - 1) em == 0xBC && decide (byteAt 0 em < 2 ^ (8 - top)) &&
    db.take (dbLen - hl) == zeros (dbLen - hl - 1) ++ [1] && hashOf h (zeros 8 ++ dig ++ db.drop (dbLen - hl)) == hh

end Sys2Proof.Machine
end

