-- ==== Sys2Proof/Machine/Aes.lean ====
section
/-! DEFINITION. AES (FIPS 197), the cipher of R296: key expansion, one block enciphered and deciphered. The spec names the standard and does not restate it (PRESUMED). -/

namespace Sys2Proof.Machine

/-- The S-box, entry i in byte i of the number. -/
def aesSboxTable : Nat := 0x16bb54b00f2d99416842e6bf0d89a18cdf2855cee9871e9b948ed9691198f8e19e1dc186b95735610ef6034866b53e708a8bbd4b1f74dde8c6b4a61c2e2578ba08ae7a65eaf4566ca94ed58d6d37c8e779e4959162acd3c25c2406490a3a32e0db0b5ede14b8ee4688902a22dc4f816073195d643d7ea7c41744975fec130ccdd2f3ff1021dab6bcf5389d928f40a351a89f3c507f02f94585334d43fbaaefd0cf584c4a39becb6a5bb1fc20ed00d153842fe329b3d63b52a05a6e1b1a2c830975b227ebe28012079a059618c323c7041531d871f1e5a534ccf73f362693fdb7c072a49cafa2d4adf04759fa7dc982ca76abd7fe2b670130c56f6bf27b777c63

/-- The inverse S-box. -/
def aesInvTable : Nat := 0x7d0c2155631469e126d677ba7e042b17619953833cbbebc8b0f52aae4d3be0a0ef9cc9939f7ae52d0d4ab519a97f51605fec8027591012b131c7078833a8dd1ff45acd78fec0db9a2079d2c64b3e56fc1bbe18aa0e62b76f89c5291d711af1476edf751ce837f9e28535ade72274ac9673e6b4f0cecff297eadc674f4111913a6b8a130103bdafc1020f3fca8f1e2cd00645b3b80558e4f70ad3bc8c00abd890849d8da75746155edab9edfd5048706c92b6655dcc5ca4d41698688664f6f87225d18b6d49a25b76b224d92866a12e084ec3fa420b954cee3d23c2a632947b54cbe9dec444438e3487ff2f9b8239e37cfbd7f3819ea340bf38a53630d56a0952

/-- The S-box. -/
def aesSub (b : Byte) : Byte := byte (aesSboxTable >>> (8 * b.toNat))
/-- The inverse S-box. -/
def aesInvSub (b : Byte) : Byte := byte (aesInvTable >>> (8 * b.toNat))

/-- Multiplication by x in GF(2^8). -/
def aesX (b : Byte) : Byte := (b <<< 1) ^^^ (if b.msb then 0x1B#8 else 0#8)

/-- Round constant i (from 1) of the key schedule. -/
def aesRcon : Nat → Byte
  | 0 => 0
  | 1 => 1
  | n + 2 => aesX (aesRcon (n + 1))

/-- The expansion of a key of nk words: words come in order, newest first in the accumulator. -/
def aesExpandF (nk : Nat) : Nat → Nat → List Bytes → List Bytes
  | 0, _, acc => acc
  | f + 1, i, acc =>
    let prev := acc.headD []
    let t := if i % nk = 0 then
        xorB ((prev.drop 1 ++ prev.take 1).map aesSub) [aesRcon (i / nk), 0, 0, 0]
      else if nk > 6 ∧ i % nk = 4 then prev.map aesSub
      else prev
    aesExpandF nk f (i + 1) (xorB (acc.getD (nk - 1) []) t :: acc)

/-- The round keys of a key of 16, 24 or 32 bytes. -/
def aesKeys (k : Bytes) : List Bytes :=
  let nk := k.length / 4
  let words := aesExpandF nk (4 * (nk + 7) - nk) nk (chunks 4 k).reverse
  chunks 16 words.reverse.flatten

/-- ShiftRows on the 16 bytes in column order. -/
def aesShift (s : Bytes) : Bytes := [0, 5, 10, 15, 4, 9, 14, 3, 8, 13, 2, 7, 12, 1, 6, 11].map (fun i => s.getD i 0)
/-- Inverse ShiftRows. -/
def aesUnshift (s : Bytes) : Bytes := [0, 13, 10, 7, 4, 1, 14, 11, 8, 5, 2, 15, 12, 9, 6, 3].map (fun i => s.getD i 0)

/-- MixColumns on one column. -/
def aesMixCol : Bytes → Bytes
  | [a, b, c, d] =>
    [aesX a ^^^ aesX b ^^^ b ^^^ c ^^^ d, a ^^^ aesX b ^^^ aesX c ^^^ c ^^^ d,
     a ^^^ b ^^^ aesX c ^^^ aesX d ^^^ d, aesX a ^^^ a ^^^ b ^^^ c ^^^ aesX d]
  | s => s

/-- MixColumns. -/
def aesMix (s : Bytes) : Bytes := ((chunks 4 s).map aesMixCol).flatten

/-- Inverse MixColumns on one column, as MixColumns of a corrected column. -/
def aesUnmixCol : Bytes → Bytes
  | [a, b, c, d] =>
    let u := aesX (aesX (a ^^^ c))
    let v := aesX (aesX (b ^^^ d))
    aesMixCol [a ^^^ u, b ^^^ v, c ^^^ u, d ^^^ v]
  | s => s

/-- Inverse MixColumns. -/
def aesUnmix (s : Bytes) : Bytes := ((chunks 4 s).map aesUnmixCol).flatten

/-- The rounds after the first key addition. -/
def aesRounds : List Bytes → Bytes → Bytes
  | [], s => s
  | [k], s => xorB (aesShift (s.map aesSub)) k
  | k :: ks, s => aesRounds ks (xorB (aesMix (aesShift (s.map aesSub))) k)

/-- The rounds of the inverse cipher, keys last first. -/
def aesUnrounds : List Bytes → Bytes → Bytes
  | [], s => s
  | [k], s => xorB ((aesUnshift s).map aesInvSub) k
  | k :: ks, s => aesUnrounds ks (aesUnmix (xorB ((aesUnshift s).map aesInvSub) k))

/-- One block enciphered under expanded keys. -/
def aesBlock (keys : List Bytes) (b : Bytes) : Bytes :=
  match keys with
  | [] => b
  | k :: ks => aesRounds ks (xorB b k)

/-- One block deciphered under expanded keys. -/
def aesUnblock (keys : List Bytes) (b : Bytes) : Bytes :=
  match keys.reverse with
  | [] => b
  | k :: ks => aesUnrounds ks (xorB b k)

/-- One block enciphered. -/
def aesEnc (key b : Bytes) : Bytes := aesBlock (aesKeys key) b
/-- One block deciphered. -/
def aesDec (key b : Bytes) : Bytes := aesUnblock (aesKeys key) b

end Sys2Proof.Machine
end

