-- ==== Sys2Proof/Machine/Des.lean ====
section
/-! DEFINITION. DES and TDEA (NIST SP 800-67), the ciphers of R296 beside AES. The spec names them and does not restate them (PRESUMED). Bits are numbered from 1 at the left, as the standard numbers them. -/

namespace Sys2Proof.Machine

/-- Permutation of a w-bit number: output bit i from the left is input bit t(i) from the left, counted from 1. -/
def desPerm (w : Nat) (t : List Nat) (v : Nat) : Nat := t.foldl (fun a i => 2 * a + b2n (v.testBit (w - i))) 0

/-- Initial permutation. -/
def desIP : List Nat :=
  [58, 50, 42, 34, 26, 18, 10, 2, 60, 52, 44, 36, 28, 20, 12, 4,
   62, 54, 46, 38, 30, 22, 14, 6, 64, 56, 48, 40, 32, 24, 16, 8,
   57, 49, 41, 33, 25, 17, 9, 1, 59, 51, 43, 35, 27, 19, 11, 3,
   61, 53, 45, 37, 29, 21, 13, 5, 63, 55, 47, 39, 31, 23, 15, 7]
/-- Final permutation. -/
def desFP : List Nat :=
  [40, 8, 48, 16, 56, 24, 64, 32, 39, 7, 47, 15, 55, 23, 63, 31,
   38, 6, 46, 14, 54, 22, 62, 30, 37, 5, 45, 13, 53, 21, 61, 29,
   36, 4, 44, 12, 52, 20, 60, 28, 35, 3, 43, 11, 51, 19, 59, 27,
   34, 2, 42, 10, 50, 18, 58, 26, 33, 1, 41, 9, 49, 17, 57, 25]
/-- Expansion. -/
def desE : List Nat :=
  [32, 1, 2, 3, 4, 5, 4, 5, 6, 7, 8, 9, 8, 9, 10, 11,
   12, 13, 12, 13, 14, 15, 16, 17, 16, 17, 18, 19, 20, 21, 20, 21,
   22, 23, 24, 25, 24, 25, 26, 27, 28, 29, 28, 29, 30, 31, 32, 1]
/-- Permutation after the S-boxes. -/
def desP : List Nat :=
  [16, 7, 20, 21, 29, 12, 28, 17, 1, 15, 23, 26, 5, 18, 31, 10,
   2, 8, 24, 14, 32, 27, 3, 9, 19, 13, 30, 6, 22, 11, 4, 25]
/-- Permuted choice 1. -/
def desPC1 : List Nat :=
  [57, 49, 41, 33, 25, 17, 9, 1, 58, 50, 42, 34, 26, 18, 10, 2,
   59, 51, 43, 35, 27, 19, 11, 3, 60, 52, 44, 36, 63, 55, 47, 39,
   31, 23, 15, 7, 62, 54, 46, 38, 30, 22, 14, 6, 61, 53, 45, 37,
   29, 21, 13, 5, 28, 20, 12, 4]
/-- Permuted choice 2. -/
def desPC2 : List Nat :=
  [14, 17, 11, 24, 1, 5, 3, 28, 15, 6, 21, 10, 23, 19, 12, 4,
   26, 8, 16, 7, 27, 20, 13, 2, 41, 52, 31, 37, 47, 55, 30, 40,
   51, 45, 33, 48, 44, 49, 39, 56, 34, 53, 46, 42, 50, 36, 29, 32]

/-- The eight S-boxes: entry 16 × row + column in nibble 16 × row + column. -/
def desS : List Nat :=
  [0xd60ae3b5719428cf05a379cfb26d8e148359bc6a1d2e47f07095c6a38bf21d4e,
   0x9e50c76b24f31a8df2396c851d4ab7e05b96a10ce82f74d3a50cd27943b6e81f,
   0xc25b3ef478960da17ea5c21b03f8946d1fbce582a643907d824b7cd15f36e90a,
   0xe27cb5498d1a60f34825e31fd7bc096a9ea1c27430f65b8df4cb5821a9603ed7,
   0x354a90f6d2e17c8be0365c9f87dab1246893af051d74c2be9e0df3586ba714c2,
   0xd80671ebaf59c2346bd1a4073c825fe983b0ed1659c724fab57e43d08629fa1c,
   0xc32ef0597a418db6295086fae73cdb4168f2c53ea1947b0d16a579c3d80fe2b4,
   0xb65309cfd8a47e12853fda602ec914b729e0b65c473a8df17c05e39a1bf6482d]

/-- Left shifts of the key halves before each round. -/
def desShifts : List Nat := [1, 1, 2, 2, 2, 2, 2, 2, 1, 2, 2, 2, 2, 2, 2, 1]

/-- A 28-bit number rotated left. -/
def desRot (n v : Nat) : Nat := (v * 2 ^ n + v / 2 ^ (28 - n)) % 2 ^ 28

/-- The round keys from the halves C and D and the shifts left. -/
def desKeysF : List Nat → Nat → Nat → List Nat
  | [], _, _ => []
  | n :: ns, c, d =>
    let c := desRot n c
    let d := desRot n d
    desPerm 56 desPC2 (c * 2 ^ 28 + d) :: desKeysF ns c d

/-- The 16 round keys of an 8-byte key. -/
def desKeys (k : Bytes) : List Nat :=
  let v := desPerm 64 desPC1 (beNat k)
  desKeysF desShifts (v / 2 ^ 28) (v % 2 ^ 28)

/-- The output of the eight S-boxes on 48 bits. -/
def desSub (v : Nat) : Nat :=
  (List.range 8).foldl (fun a i =>
    let x := bits (47 - 6 * i) (42 - 6 * i) v
    let row := 2 * (x / 32) + x % 2
    let col := x / 2 % 16
    16 * a + (desS.getD i 0 >>> (4 * (16 * row + col))) % 16) 0

/-- The round function. -/
def desF (r k : Nat) : Nat := desPerm 32 desP (desSub (desPerm 32 desE r ^^^ k))

/-- One block of 8 bytes under round keys in order. -/
def desBlock (keys : List Nat) (b : Bytes) : Bytes :=
  let v := desPerm 64 desIP (beNat b)
  let r := keys.foldl (fun (s : Nat × Nat) k => (s.2, s.1 ^^^ desF s.2 k)) (v / 2 ^ 32, v % 2 ^ 32)
  beBytes 8 (desPerm 64 desFP (r.2 * 2 ^ 32 + r.1))

/-- DES encryption. -/
def desEnc (k b : Bytes) : Bytes := desBlock (desKeys k) b
/-- DES decryption. -/
def desDec (k b : Bytes) : Bytes := desBlock (desKeys k).reverse b

/-- The three keys of a TDEA key of 16 or 24 bytes. -/
def tdeaKeys (k : Bytes) : List Nat × List Nat × List Nat :=
  let k1 := desKeys (cut 0 8 k)
  (k1, desKeys (cut 8 8 k), if k.length ≤ 16 then k1 else desKeys (cut 16 8 k))

/-- TDEA encryption under expanded keys. -/
def tdeaBlock (k : List Nat × List Nat × List Nat) (b : Bytes) : Bytes :=
  desBlock k.2.2 (desBlock k.2.1.reverse (desBlock k.1 b))
/-- TDEA decryption under expanded keys. -/
def tdeaUnblock (k : List Nat × List Nat × List Nat) (b : Bytes) : Bytes :=
  desBlock k.1.reverse (desBlock k.2.1 (desBlock k.2.2.reverse b))

/-- TDEA encryption of one block. -/
def tdeaEnc (k b : Bytes) : Bytes := tdeaBlock (tdeaKeys k) b
/-- TDEA decryption of one block. -/
def tdeaDec (k b : Bytes) : Bytes := tdeaUnblock (tdeaKeys k) b

/-- A byte with its low bit set to odd parity. -/
def oddParityByte (b : Byte) : Byte :=
  let h := b.toNat / 2
  byte (2 * h + b2n ((setBits 7 h).length % 2 == 0))

/-- A key with each byte set to odd parity (R227, R228, R480). -/
def oddParity (k : Bytes) : Bytes := k.map oddParityByte

end Sys2Proof.Machine
end

