-- ==== Sys2Proof/Machine/Types.lean ====
section
/-! DEFINITION. The parts of the block's state: plain data, one structure a unit of the block. -/

namespace Sys2Proof.Machine

/-- The modes of R31. -/
inductive Mode where
  | retain | wake | seed | setup | serve | serveReduced | quiesce | update | transit | safeHalt | zeroized | analysis
deriving DecidableEq, Repr

/-- The code of a mode (R31). -/
def Mode.code : Mode → Nat
  | .retain => 0
  | .wake => 1
  | .seed => 2
  | .setup => 3
  | .serve => 4
  | .serveReduced => 5
  | .quiesce => 6
  | .update => 7
  | .transit => 8
  | .safeHalt => 9
  | .zeroized => 10
  | .analysis => 11

/-- The three phases of ANALYSIS (R53). -/
inductive Phase where
  | configuring | serving | quiesced
deriving DecidableEq, Repr

/-- A running configuration-consistency check (R43): kind 0 unit, 1 port, 2 slice (unit-wide number). -/
structure Check where
  kind : Nat
  port : Nat
  index : Nat
deriving DecidableEq, Repr

/-- Mode, enables and the registers of the GLB, DSP, KTR, SYM and PKE blocks that are not control-complex state. -/
structure Glb where
  variant : Variant := .x
  mode : Mode := .wake
  prev : Nat := 0
  phase : Phase := .configuring
  haltCause : Nat := 0
  haltGroup : Nat := 0
  wakeFault : Nat := 0
  checks : List Check := []
  updateReverted : Bool := false
  recover : Bool := false
  drained : Bool := false
  modeTime : W48 := 0
  abort : Bool := false
  enable : Bool := false
  reason : W48 := 0
  /-- The global enable is accepted and not yet withdrawn: its RWL fields are locked (R11). -/
  locked : Bool := false
  devtime : DevTime := 0
  /-- How often device time has wrapped: what tells waits beyond the half range of R7 apart (R160). -/
  wraps : Nat := 0
  split : Nat := 0
  strapInvalid : Bool := false
  /-- GLB_CAP1 has been written at the end of WAKE (R73). -/
  cap1 : Bool := false
  stepping : Nat := 0
  /-- SAFE_HALT was entered from WAKE, so a release draws the DRAM key (R51). -/
  haltFromWake : Bool := false
  /-- The DRAM key of the DRAM controller, two conditioned seeds, until it is zeroed (R28, R350, R411). -/
  dramKey : Option Bytes := none
  /-- An accepted life-cycle request drains towards TRANSIT: its target state (R48). -/
  lcTarget : Option Nat := none
  /-- Task of the running recovery sequence and whether it recommissions (R51). -/
  recovery : Option (Nat × Bool) := none
  /-- GLB_MODE.REDUCED as last applied (R35, R38). -/
  reducedWas : Bool := false
  /-- How far WAKE has come: 0 entered, 1 OTP loaded and decided, 2 control complexes tested. -/
  wakeStep : Nat := 0
deriving DecidableEq, Repr

/-- An entry of the module's event log (R36, R107, R431): kind, device time, value. -/
structure EvLog where
  kind : Nat
  time : W48
  value : Nat
deriving DecidableEq, Repr

/-- Counters and settings outside the control complexes. -/
structure Regs where
  /-- DSP_CLASS_CTRL_c ENABLE and ABORT, class 0 to 7 (R172). -/
  clsOn : List Bool := [true, true, true, true, true, true, true, false]
  clsAbort : List Bool := List.replicate 8 false
  longPool : W48 := 0
  late : Nat := 0
  lowMark : Nat := 65536
  cacheHit : Nat := 0
  cacheMiss : Nat := 0
  transient : Nat := 0
  /-- Journal records whose tag failed at WAKE (R260). -/
  badRecords : Nat := 0
  /-- KTR_DOMAIN_PORTS_j where it differs from its reset value (R269). -/
  domPorts : Table W48 := []
  symCheckCount : Nat := 0
  symCheckSecond : Nat := 0
  symCheckLane : Nat := 0
  authTag : Nat := 0
  authChanged : Nat := 0
  bulkUnits : Nat := 0
  pkeCheckCount : Nat := 0
  pkeCheckSecond : Nat := 0
  pkeCheckCore : Nat := 0
  pkeReject : Nat := 0
  pkeAborts : Nat := 0
  pkeZeroed : Nat := 0
  rsaBits : List Nat := [2048, 3072, 4096, 0]
  /-- The prime reserve of R327, one list for each PKE_RSA_GEN_i. -/
  primes : List (List Nat) := [[], [], [], []]
  entFaults : Nat := 0
  entReseeds : Nat := 0
  entSeeds : Nat := 0
  entRefused : Nat := 0
  sivParity : W48 := 0
  sivLookups : Nat := 0
  sivHits : Nat := 0
  sivMisses : Nat := 0
  stallCount : Nat := 0
  stallLast : Nat := 0
  /-- Staged copy of the user tag area (R74). -/
  tagStaged : Bytes := zeros 256
  tagBusy : Bool := false
deriving DecidableEq, Repr

/-- A memory window (R112): base, length, attribute bits. -/
structure Window where
  base : Nat := 0
  len : Nat := 0
  attr : Nat := 0
deriving DecidableEq, Repr

/-- One mailbox slot: full or empty, and its eight words (R127). -/
structure MbxSlot where
  full : Bool := false
  words : List W64 := List.replicate 8 0
deriving DecidableEq, Repr

/-- The registers and the mailbox of one slice (R109, R126). -/
structure Slc where
  enable : Bool := false
  abort : Bool := false
  reason : W48 := 0
  report : Bool := false
  domain : Nat := 0
  pasid : Nat := 0
  winSel : Nat := 0
  winHi : Option Nat := none
  windows : Table Window := []
  /-- The enable that locks the RWL fields is in force (R111). -/
  locked : Bool := false
  /-- The slice has been started since its registers were last reset (R131). -/
  started : Bool := false
  home : Option Nat := none
  /-- Slots T0, T1, M0, M1. -/
  mbx : List MbxSlot := List.replicate 4 {}
  tPosts : Nat := 0
  mPosts : Nat := 0
  dropped : Nat := 0
  posted : Bool := false
  released : Bool := false
deriving DecidableEq, Repr

/-- The registers of one ring pair (R77) and its coalescing state (R98). -/
structure Ring where
  sq : Nat := 0
  cq : Nat := 0
  msgAddr : Nat := 0
  sqHi : Option Nat := none
  cqHi : Option Nat := none
  msgHi : Option Nat := none
  msgData : Nat := 0
  log2 : Nat := 0
  slice : Nat := 0
  coalCount : Nat := 1
  coalTime : Nat := 0
  msgEn : Bool := false
  abort : Bool := false
  enable : Bool := false
  armedAt : Option DevTime := none
  /-- Deadline and sequence number of the task whose completion armed it, for the order of R101. -/
  armedFor : W48 × Nat := (0, 0)
  since : Nat := 0
deriving DecidableEq, Repr

/-- The link of a port: down, in L0, or out of L0 (R62, R135). -/
inductive Link where
  | down | l0 | low
deriving DecidableEq, Repr

/-- One entry of the MSI-X table (R57). -/
structure MsixEnt where
  addr : Nat := 0
  data : Nat := 0
  masked : Bool := true
deriving DecidableEq, Repr

/-- An interrupt message of a ring pair that waits for the port's mover (R97, R101): ring pair, address, data, deadline and sequence number. -/
structure RingMsg where
  ring : Nat
  addr : Nat
  data : Nat
  deadline : W48
  seq : Nat
deriving DecidableEq, Repr

/-- One host port: its function, its link and its own registers (R55 to R69, R107). -/
structure Port where
  perstLow : Bool := true
  refStable : Bool := false
  /-- Held in detect by a REFCLK DEGRADE (R407): 0 no, 1 until PERSTn_N is asserted, 2 until it is released with the clock in range. -/
  detect : Nat := 0
  /-- Released from reset and training (R62). -/
  training : Bool := false
  link : Link := .down
  speed : Nat := 0
  width : Nat := 0
  d3 : Bool := false
  /-- A port reset has arrived and not ended (R63). -/
  resetting : Bool := false
  msixEnable : Bool := false
  funcMask : Bool := false
  msix : List MsixEnt := List.replicate 16 {}
  ats : Bool := false
  relaxed : Bool := false
  /-- Programmed maximum payload and maximum read request size in bytes (R55). -/
  maxPayload : Nat := 128
  maxRead : Nat := 512
  /-- Completion Timeout Value as programmed; 0 is the default range (R55). -/
  cplTimeout : Nat := 0
  /-- 10-bit tags as requester are enabled (R55). -/
  tags10 : Bool := false
  /-- ECRC generation and checking are enabled in AER (R55). -/
  ecrcGen : Bool := false
  ecrcCheck : Bool := false
  /-- ASPM L1 and the L1 PM substates as enabled (R55): bit 0 L1.1, bit 1 L1.2. -/
  aspmL1 : Bool := false
  l1Substates : Nat := 0
  /-- Translations held: PASID and page number (R58). -/
  translations : List (Nat × Nat) := []
  /-- Errors reported through AER, and the header log of the first one since it was cleared: 0 a write received, 1 a read issued; its address (R55, R60). -/
  aer : Nat := 0
  aerLog : Option (Nat × Nat) := none
  /-- Interrupt messages that wait for the mover (R101). -/
  msgs : List RingMsg := []
  errCount : Nat := 0
  errOffset : Nat := 0
  errBar : Nat := 0
  enable : Bool := false
  abort : Bool := false
  /-- The port enable is accepted: PORT_SLACK is locked. -/
  locked : Bool := false
  reason : W48 := 0
  slack : Nat := 2000
  slcBase : Nat := 0
  slcCount : Nat := 0
  ringBase : Nat := 0
  ringCount : Nat := 0
  quota : Nat := 0
  resets : Nat := 0
  discarded : Nat := 0
deriving DecidableEq, Repr

/-- A resolved key (R246): its node where it has one, the half whose resolver holds it (R249), and its material: a symmetric key, a private scalar, a lattice seed, or p, q, dp, dq, qInv and e of an RSA key (R242). -/
structure Ctx where
  half : Nat := 0
  index : Nat := 0
  gen : Nat := 0
  isNode : Bool := false
  usage : Nat := 0
  alg : Nat := 0
  bitLen : Nat := 0
  attrs : Nat := 0
  key : Bytes := []
  pub : Bytes := []
deriving DecidableEq, Repr

/-- How a step ended (R186). -/
inductive StepOut where
  /-- Completed, not a test. -/
  | plain
  /-- Test TRUE. -/
  | yes
  /-- Test FALSE. -/
  | no
  /-- A miss, with its sub-code of R190. -/
  | miss (sub : Nat)
  /-- A failure with a status of its own (R470). -/
  | fail (status : Nat)
  /-- Any other failure, with its sub-code. -/
  | sub (code : Nat)
  /-- A failure whose status and DETAIL are given outright (check phase, INTERNAL, BULK). -/
  | ends (status detail : Nat)
deriving DecidableEq, Repr

/-- What a step has computed and not yet released (R192). -/
structure StepRes where
  out : StepOut := .plain
  writes : List (Nat × Bytes) := []
  ctx : Option (Nat × Ctx) := none
  emit : List (Nat × Bytes) := []
  res0 : Option Nat := none
  res1 : Option Nat := none
  /-- Chaining state handed to the next segment (R304). -/
  chain : Bytes := []
  /-- Plaintext that stays in the work area until the tag has verified (R306). -/
  keep : Bytes := []
  /-- GHASH after the additional data, once it is complete. -/
  aad : Option Bytes := none
  /-- The task's BULK or PK work is finished with this step. -/
  last : Bool := false
deriving DecidableEq, Repr

/-- A destination piece in staging (R118): data, or zeros over a staged or former piece (R336, R389). -/
structure Piece where
  iova : Nat
  data : Bytes
  zero : Bool
  /-- The transfer of the task it belongs to (R115). -/
  xfer : Nat
deriving DecidableEq, Repr

/-- The states of R151, with the fetch before them and the waits after their last step. -/
inductive TSt where
  /-- Reserved, the entry fetch issued (R91). -/
  | fetching
  | admitted
  | running
  | ending
  /-- Taken by an abort and not yet zeroed (R336). -/
  | aborting
  /-- An operation carried out whose commit is not yet in place (R176, R259, R280, R371). -/
  | committing
  | retired
deriving DecidableEq, Repr

/-- A draw that waits for a seed, and its bytes once a seed has served it (R347). -/
structure DrawReq where
  size : Nat
  data : Option Bytes := none
deriving DecidableEq, Repr

/-- An in-flight record (R25, R151), its trays and work area, and its reservations. -/
structure Task where
  st : TSt := .fetching
  /-- The first slot of an extended entry has arrived and waits for the tail to cover the second (R90). -/
  held : Bool := false
  port : Nat := 0
  ring : Nat := 0
  slice : Nat := 0
  entry : Bytes := []
  suspect : Bool := false
  /-- Its entry failed a check of admission, and it waits only to retire (R95, R149). -/
  refused : Bool := false
  domain : Nat := 0
  deadline : W48 := 0
  /-- D on the clock that does not wrap (R160). -/
  due : Nat := 0
  seq : Nat := 0
  cluster : Nat := 0
  credits : Nat := 0
  /-- Holds a record (not in SAFE_HALT and ZEROIZED, R91). -/
  hasRecord : Bool := true
  fenced : Bool := false
  strict : Bool := false
  needs : Nat := 0
  image : Bytes := []
  slot : Nat := 0
  flags : Nat := 0
  disp : Nat := 0
  done : Nat := 0
  outcome : Nat := 0
  status : Nat := 0
  detail : Nat := 0
  res0 : Option Nat := none
  res1 : Option Nat := none
  trays : Bytes := []
  work : Bytes := []
  rnd : Bytes := []
  /-- Its random request waits for a seed (R347). -/
  waitSeed : Bool := false
  /-- Draws that its work has made and that had to wait, by recipe step, or 32 for an operation (R347). -/
  draws : Table DrawReq := []
  /-- Expansions of lattice keys that its resolutions need, by selector or 16 + step: the half, and 0 waiting for a core, 1 dispatched, 2 done (R333). -/
  expand : Table (Nat × Nat) := []
  ctxs : Table Ctx := []
  results : Table StepRes := []
  /-- BN steps whose check phase has passed (R328). -/
  checked : Nat := 0
  /-- Steps that have failed one lane or core check (R300, R332). -/
  failed : Nat := 0
  emitted : Nat := 0
  cover : List (Nat × Nat) := []
  pieces : List Piece := []
  issued : Nat := 0
  zeroed : Nat := 0
  /-- Transfers that have stopped at a failing piece (R115). -/
  badXfer : List Nat := []
  /-- First failing data piece of a STRICT task: cause and first byte (R118). -/
  strictFail : Option (Nat × Nat) := none
  /-- Its port has been reset: it runs on to retirement and its completion is discarded (R63). -/
  gone : Bool := false
  seg : Nat := 0
  pass2 : Bool := false
  chain : Bytes := []
  tag1 : Bytes := []
  /-- Output of a PK_DIRECT operation under its key, as the tree gave it when the task was admitted or taken over (R320, R389). -/
  outLen : Option Nat := none
  /-- The part of the source whose read the mover has issued: first byte, length, and how many of its pieces have gone out (R101). -/
  asked : Option (Nat × Nat × Nat) := none
  /-- Source bytes of a BULK task that have arrived in this pass, counted from the start of the source (R304). -/
  landed : Nat := 0
  /-- The tag at the end of a BK_GCM_OPEN source, which stands in the trays. -/
  tagIn : Bytes := []
  /-- GHASH after the additional data, from which pass 2 goes on (R307). -/
  aadAcc : Bytes := []
  /-- Plaintext of a held-output operation, in the work area (R305, R306). -/
  plain : Bytes := []
  commitEpoch : Nat := 0
  out : Bytes := []
  abortCause : Nat := 0
  lateFlag : Bool := false
  retireTime : W48 := 0
  retireNo : Nat := 0
  /-- Epoch in which the completion was staged. -/
  staged : Option Nat := none
  /-- Its completion has been discarded and its staging slot released: what is left is the destination writes it still stages (R93). Such a task stands under a key from 2^20 on. -/
  dropped : Bool := false
deriving DecidableEq, Repr

/-- The positions of one ring pair (R86, R96) and its discard count. -/
structure RingPos where
  t : Nat := 0
  f : Nat := 0
  w : Nat := 0
  c : Nat := 0
  phase : Bool := true
  started : Bool := false
  discarded : Nat := 0
  /-- Entries before this position are suspect after a takeover (R385). -/
  suspectTo : Option Nat := none
deriving DecidableEq, Repr

/-- A violation of an epoch not yet glazed (R121): the epoch, its task, whether it is a posted notice, and what the capture takes of it. -/
structure Viol where
  epoch : Nat
  /-- Sequence number of the task it comes from. -/
  seq : Nat
  posted : Bool
  access : Nat
  cause : Nat
  ring : Nat
  tag : Nat
  iova : Nat
deriving DecidableEq, Repr

/-- The precise capture and the posted notice of a slice (R119, R120), and the violations that hosts cannot see yet (R121). -/
structure SlcCap where
  valid : Bool := false
  later : Nat := 0
  access : Nat := 0
  cause : Nat := 0
  ring : Nat := 0
  tag : Nat := 0
  iova : Nat := 0
  nValid : Bool := false
  nCount : Nat := 0
  nPage : Nat := 0
  recent : List Viol := []
deriving DecidableEq, Repr

/-- A port fault (R105). -/
structure PortFault where
  on : Bool := false
  code : Nat := 0
  ring : Nat := 0
deriving DecidableEq, Repr

/-- A recipe slot (R173): retiring or active, its image and the tasks' need of it. -/
structure LibSlot where
  retiring : Bool := false
  image : Bytes := []
deriving DecidableEq, Repr

/-- A library change waiting for its epoch to be glazed (R176). -/
structure LibCommit where
  epoch : Nat
  tid : Nat
  slot : Nat
  /-- Library generation after the change. -/
  gen : Nat
  image : Option Bytes
deriving DecidableEq, Repr

/-- Slot states of R248. -/
inductive KState where
  | fresh | live | void | orphan | expired | retired
deriving DecidableEq, Repr

/-- A key-tree node (R242, R243) as the working image holds it: its key is derived from its parent's, or stands wrapped under it, a root's under the SWK (R238, R245). -/
structure Node where
  level : Nat := 4
  parent : Nat := 0
  parentGen : Nat := 0
  domain : Nat := 0
  usage : Nat := 0
  alg : Nat := 0
  bitLen : Nat := 0
  attrs : Nat := 0
  label : Nat := 0
  limit : Nat := 0
  owner : Bytes := zeros 8
  /-- Bytes of the creation request, for the identical-child test of R251. -/
  request : Bytes := []
  /-- Wrapped key material. -/
  wrapped : Bytes := []
  pub : Bytes := []
  uses : Nat := 0
  mark : Nat := 0
  invRandom : Nat := 0
  invCounter : Nat := 0
  invRandomMark : Nat := 0
  invCounterMark : Nat := 0
deriving DecidableEq, Repr

/-- A node slot (R248). -/
structure KSlot where
  state : KState := .fresh
  gen : Nat := 0
  node : Option Node := none
  high : Nat := 0
  swept : Bool := true
  ord : Nat := 0
deriving DecidableEq, Repr

/-- A key set (R262). -/
structure KSet where
  domain : Nat := 0
  members : List Nat := List.replicate 8 0
deriving DecidableEq, Repr

/-- The record types of R242. -/
inductive JType where
  | node | void | reserve | set | floor | label
deriving DecidableEq, Repr

/-- The fields of a journal record (R242). -/
structure JRec where
  type : JType
  index : Nat
  gen : Nat := 0
  level : Nat := 0
  parent : Nat := 0
  parentGen : Nat := 0
  domain : Nat := 0
  usage : Nat := 0
  alg : Nat := 0
  bitLen : Nat := 0
  attrs : Nat := 0
  label : Nat := 0
  /-- Use limit of a NODE, mark of a RESERVE. -/
  value : Nat := 0
  /-- Counter that a RESERVE concerns: 0 uses, 1 RANDOM, 2 COUNTER. -/
  which : Nat := 0
  owner : Bytes := zeros 8
  /-- W bytes of the extension: wrapped key material, or the contents of a SET. -/
  wrapped : Bytes := []
  /-- Q bytes: the public key. -/
  pub : Bytes := []
deriving DecidableEq, Repr

/-- The journal in one flash copy (R241): the records of the region in use, in order; while it is compacted, what has been copied into the other region; and which of the two regions is in use. -/
structure JCopy where
  recs : List Bytes := []
  next : Option (List Bytes) := none
  region : Nat := 0
deriving DecidableEq, Repr

/-- A key-tree commit waiting for its epoch to be glazed (R259); the task it completes, and the node whose resolutions wait for it. -/
structure KtCommit where
  /-- Number of the commit, by which the journal knows that it already holds its records (R259). -/
  no : Nat
  epoch : Nat
  tid : Option Nat
  node : Option Nat
  recs : List JRec
deriving DecidableEq, Repr

/-- The working image of the key tree (R247 to R262). -/
structure KeyTree where
  slots : Table KSlot := []
  sets : Table KSet := []
  /-- Voided nodes whose descendants are not yet swept, oldest first: index, generation, level (R254). -/
  sweeps : List (Nat × Nat × Nat) := []
  nextOrd : Nat := 1
deriving DecidableEq, Repr

/-- A custodian group (R271): 16 positions and the quorum. -/
structure Group where
  keys : Table Bytes := []
  quorum : Nat := 2
deriving DecidableEq, Repr

/-- A held authorization token (R278). -/
structure Token where
  group : Nat
  position : Nat
  digest : Bytes
  challenge : Bytes
  expiry : W48
deriving DecidableEq, Repr

/-- An outstanding challenge (R275); port 4 stands for CPATH. -/
structure Challenge where
  value : Bytes
  expiry : W48
  port : Nat
deriving DecidableEq, Repr

/-- A component session (R285): parent index and generation, zero for a root. -/
structure Session where
  domain : Nat
  parent : Nat
  parentGen : Nat
  request : Bytes
  count : Nat
  given : List Nat
  acc : Bytes
  expiry : W48
  complete : Bool
deriving DecidableEq, Repr

/-- Custody state (R271 to R294). Groups are keyed by domain, the unit group by 0xFFFF. -/
structure Custody where
  groups : Table Group := []
  tokens : List Token := []
  challenges : Table Challenge := []
  sessions : Table Session := []
  fleetId : Option Bytes := none
  authority : Bytes := []
  member : Option Nat := none
  xfer : Nat := 0
  xferMark : Nat := 0
deriving DecidableEq, Repr

/-- A Sieve entry (R355): digits 0 to 18 (15 is a wildcard), domain, rule class, key-set index, flags. -/
structure SvEntry where
  digits : List Nat := []
  domain : Nat := 0
  rule : Nat := 0
  keyset : Nat := 0
  flags : Nat := 0
deriving DecidableEq, Repr

/-- The Sieve staging image and its owner (R368). -/
structure SvStage where
  owner : Nat
  image : Table SvEntry
deriving DecidableEq, Repr

/-- Control-complex state: everything the Glaze carries (R381), together with what a re-dispatch resets (R152). -/
structure CC where
  /-- Number of the epoch in progress (R380). -/
  epoch : Nat := 1
  seq : Nat := 0
  retireNo : Nat := 0
  turnPort : Nat := 0
  turnRing : List Nat := [0, 0, 0, 0]
  tasks : Table Task := []
  rings : Table RingPos := []
  faults : List PortFault := List.replicate 4 {}
  caps : Table SlcCap := []
  /-- Event edges by epoch: epoch, port mask, source (R137). -/
  edges : List (Nat × Nat × Nat) := []
  lib : Table LibSlot := []
  libGen : Nat := 0
  libCommits : List LibCommit := []
  kt : KeyTree := {}
  ktCommits : List KtCommit := []
  /-- Number of the last commit recorded. -/
  commitNo : Nat := 0
  /-- Resolutions that wait for a node's reservation, in order: node, task, and selector or 16 + step (R257). -/
  queue : List (Nat × Nat × Nat) := []
  cust : Custody := {}
  stage : Option SvStage := none
  /-- Deterministic invocation counter of R310 and its reservation mark. -/
  detCtr : Nat := 0
  detMark : Nat := 0
deriving DecidableEq, Repr

/-- The state of a control complex (R401). -/
inductive CxSt where
  | active | standby | syncing | testing | unusable | updating
deriving DecidableEq, Repr

/-- Code of a complex state in CNT_STATUS (R401). -/
def CxSt.code : CxSt → Nat
  | .active => 0
  | .standby => 1
  | .syncing => 2
  | .testing => 3
  | .unusable => 4
  | .updating => 5

/-- A running Crumb test (R395): kind of CNT_CRUMB_LAST, target, memory slice; spare tests a spare that is to enter service (R393). -/
structure Crumb where
  kind : Nat
  target : Nat
  slice : Nat
  spare : Bool
deriving DecidableEq, Repr

/-- Where an UPDATE stands (R47): the complex now on trial, and whether the other already runs the new image. -/
structure Update where
  trial : Nat
  second : Bool
  reverting : Bool
deriving DecidableEq, Repr

/-- Lozenge, Glaze, complexes, Crumb tests and firmware (R375 to R402). -/
structure Cont where
  holder : Option Nat := none
  expiry : W48 := 0
  cx : List CxSt := [.testing, .testing]
  unusableCount : List Nat := [0, 0]
  /-- Health report good (R377). -/
  healthy : List Bool := [true, true]
  glazed : Nat := 0
  lastEnd : W48 := 0
  lastGlazeEnd : W48 := 0
  resent : Bool := false
  /-- A revoked or lapsed lease waits for the grant: cause of CNT_TAKEOVER and former holder (R379). -/
  revoked : Option (Nat × Nat) := none
  /-- A grant waits for its adoption to end (R385): cause. -/
  adopting : Option Nat := none
  /-- The first epoch after a takeover has yet to be glazed: end of the last glazed epoch before it (CNT_TAKEOVER.LAST_GAP). -/
  gapFrom : Option W48 := none
  takeovers : Nat := 0
  lastGap : Nat := 0
  lastCause : Nat := 0
  takeoverTime : W48 := 0
  retries : Nat := 0
  copyStart : W48 := 0
  /-- Neither complex can hold the Lozenge and the last one failed its self-test (R391). -/
  dead : Bool := false
  /-- A complex that lost a simplex lease reruns its self-test (R391). -/
  lastChance : Option Nat := none
  handover : Option (Nat × Nat) := none
  crumbs : List Crumb := []
  crumbPos : Nat := 0
  /-- Start of the last Crumb test (R396). -/
  crumbAt : Option W48 := none
  /-- Crumb tests that a failure asks for, and that wait for their turn (R300, R332, R396). -/
  crumbDue : List Crumb := []
  rounds : Nat := 0
  crumbFails : Nat := 0
  crumbLast : Nat := 0
  /-- Spare slices used, by memory (kind × 256 + target) (R398, R399). -/
  memUsed : Table Nat := []
  memSpent : Bool := false
  /-- Slices that have left service, by memory (R399). -/
  memOut : Table Nat := []
  /-- DRAM devices that a patrol scrub has found failing (R394). -/
  dramBad : List Nat := []
  fw : List (BitVec 24) := [0, 0]
  update : Option Update := none
deriving DecidableEq, Repr

/-- A step in an engine. -/
structure Job where
  tid : Nat
  step : Nat
deriving DecidableEq, Repr

/-- Array mode of a big-number core (R315). -/
inductive BnMode where
  | wide | quad | lattice
deriving DecidableEq, Repr

/-- An engine: running step and prefetch slot (R162); of a big-number core also the mode its array was last set to and what its operand memory of 8 KiB holds (R314, R315). -/
structure Eng where
  run : Option Job := none
  pre : Option Job := none
  /-- A big-number core runs a unit of the prime search (R327). -/
  search : Bool := false
  mode : Option BnMode := none
  mem : Bytes := []
deriving DecidableEq, Repr

/-- A route-cache entry (R362): operand nibbles, rule class, generation, the 8 bytes of R359. -/
structure RouteEnt where
  nibbles : List Nat
  rule : Nat
  gen : Nat
  bytes : Bytes
deriving DecidableEq, Repr

/-- Engines, their pools, the hot-context caches and the route caches. Engines are keyed by 256 × class + number. -/
structure Engs where
  jobs : Table Eng := []
  bad : List Nat := []
  /-- Spares in service. -/
  engaged : List Nat := []
  /-- Spares that wait for their own Crumb test before they serve (R393). -/
  waiting : List Nat := []
  /-- Contexts of each resolver, most recently used first: node index, generation, contexts occupied (R249, R333). -/
  hot : List (List (Nat × Nat × Nat)) := [[], [], [], []]
  routes : List (List RouteEnt) := List.replicate 8 []
deriving DecidableEq, Repr

/-- State of a noise source (R340). -/
inductive SrcSt where
  | off | testing | healthy | excluded
deriving DecidableEq, Repr

/-- Code of a source state (R340). -/
def SrcSt.code : SrcSt → Nat
  | .off => 0
  | .testing => 1
  | .healthy => 2
  | .excluded => 3

/-- A noise source (R340, R353). -/
structure Src where
  st : SrcSt := .off
  exclusions : Nat := 0
  cause : Nat := 0
  worstRun : Nat := 0
  worstApt : Nat := 0
  /-- In a retest (R343). -/
  retest : Bool := false
deriving DecidableEq, Repr

/-- Working state of a CTR_DRBG instance (R346). -/
structure Drbg where
  key : Bytes := zeros 32
  v : Bytes := zeros 16
  calls : Nat := 0
  /-- Its state has been discarded after a mismatch, and it waits for two pool seeds (R348). -/
  lost : Bool := false
deriving DecidableEq, Repr

/-- The entropy unit (R339 to R353). -/
structure Ent where
  src : List Src := List.replicate 4 {}
  pools : List (List Bytes) := [[], []]
  drbg : List Drbg := List.replicate 8 {}
  run : Bool := false
  seeded : Bool := false
  /-- The WAKE start-up test has passed on at least one source (R28). -/
  wakePass : Bool := false
  /-- Sources that have ended the WAKE start-up test. -/
  wakeDone : Nat := 0
deriving DecidableEq, Repr

/-- A table commit as the Sieve records it (R371): its task and sequence number, and the step it stands in: 3 the twin loads, 5 searches on the former primary end, 6 the former primary loads, 7 done. -/
structure SvCommit where
  tid : Nat
  seq : Nat
  step : Nat
deriving DecidableEq, Repr

/-- The Sieve banks and backing copies (R364). -/
structure Siv where
  table : Table SvEntry := []
  gen : Nat := 0
  /-- Backing copy of the generation being loaded (R371). -/
  next : Option (Table SvEntry) := none
  primary : Nat := 0
  usable : List Bool := [true, true]
  /-- Generation each bank holds. -/
  bankGen : List Nat := [0, 0]
  mirrorOpen : Bool := false
  commit : Option SvCommit := none
  /-- Device time at which an entry was last rewritten, by bank × 2^18 + position (R367). -/
  rewritten : Table W48 := []
deriving DecidableEq, Repr

/-- Inputs, rails, telemetry and the hold-up sequence (R447 to R469). -/
structure Pwr where
  /-- States of VIN_A and VIN_B (R447). -/
  vin : List Nat := [2, 2]
  /-- An input has been back in range for 100 ms and carries load again (R394). -/
  back : List Bool := [true, true]
  volts : List Nat := [12000, 12000]
  amps : List Nat := [0, 0]
  power : Nat := 0
  phases : Nat := 12
  pwrok : Bool := true
  /-- Main power has been declared good and the rails are soft-starting (R451). -/
  railsUp : Bool := true
  /-- The sequence of R449 runs: 1 fetching stopped, 2 flushed. -/
  losing : Nat := 0
  lossAt : W48 := 0
deriving DecidableEq, Repr

/-- The alarm configuration (R409, R414): class and enable of each source, loop thresholds and references. -/
structure AlarmCfg where
  cls : List Nat
  enables : Nat
  thresholds : List Nat
  refs : List Nat
deriving DecidableEq, Repr

/-- An open alarm group (R410). -/
structure OpenGroup where
  number : Nat
  openAt : W48
  mode : Nat
  members : Nat
  cls : Nat
  erasing : Bool
  eraseDone : Bool
  injected : Bool
  /-- The classes in force at its opening, under which it takes its members and closes (R413). -/
  classes : List Nat := []
  /-- The group opened in RETAIN: seconds since the entry to it (R415). -/
  inRetain : Bool := false
  seconds : Nat := 0
  /-- Start of the ERASE. -/
  eraseAt : W48 := 0
deriving DecidableEq, Repr

/-- An entry of the alarm log (R418). -/
structure AlarmEnt where
  group : Nat
  time : W48
  seconds : Nat
  mode : Nat
  state : Nat
  cls : Nat
  flags : Nat
  members : Nat
  overflow : Nat
deriving DecidableEq, Repr

/-- A battery-log entry (R416). -/
structure BattEnt where
  group : Nat
  seconds : Nat
  members : Nat
  crowbar : Bool
deriving DecidableEq, Repr

/-- The battery-domain die (R27, R409, R415 to R417). -/
structure Batt where
  swk : Option Bytes := none
  log : List BattEnt := []
  overflow : Nat := 0
  /-- Number of the last group; none once the domain has stopped (R417). -/
  counter : Option Nat := some 0
  /-- Classes and enables of the B sources. -/
  cls : List Nat := []
  enables : Nat := 0
  /-- Channels (2 × source + channel) that failed their stimulus in RETAIN (R406). -/
  failedStimulus : List Nat := []
  /-- The clock of seconds since the entry to RETAIN (R415). -/
  seconds : Nat := 0
  /-- The domain has stopped since the last WAKE (R417). -/
  lost : Bool := false
deriving DecidableEq, Repr

/-- Tamper monitors (R403 to R423). The pace of both halves right after reset is the floor of R18, before anything is measured (DESIGN CHOICE, log entry 12). -/
structure Tmp where
  cfg : AlarmCfg
  /-- WAKE has read the configuration from flash (R409). -/
  cfgRead : Bool := false
  level : Nat := 0
  /-- Inputs, as a mask, whose VIN_OVER condition is present (R448). -/
  overs : Nat := 0
  seen : Nat := 0
  group : Option OpenGroup := none
  lastGroup : Nat := 0
  lastSources : Nat := 0
  lastClass : Nat := 0
  retainEvents : Bool := false
  unprotected : Bool := false
  temp : Int := 250
  vbat : Nat := 3000
  pace : List Nat := [12000, 12000]
  ohms : List Nat := [0, 0, 0, 0]
  injSel : W48 := 0
  injReal : Bool := false
  injRunning : Bool := false
  injRunReal : Bool := false
  /-- INJ_SEL as the injection that runs, or ran last, took it at GO. -/
  injRun : W48 := 0
  injResult : W48 := 0
  injCount : Nat := 0
deriving DecidableEq, Repr

/-- Life cycle, OTP and the debug port (R424 to R445). The spec gives the serial, L0, the attestation seed and the trims of a new unit no values: serial 1 and zeros stand for them (DESIGN CHOICE, log entry 3). -/
structure Lcs where
  serial : Nat := 1
  copies : List W48
  progress : List (List W48)
  ndx : List (Option Bytes) := [none, none, none, none]
  l0 : Bytes := zeros 32
  attSeed : Bytes := zeros 32
  /-- Trim rows (R27, R437). -/
  trims : Bytes := zeros 32
  /-- Secret and trim rows burnt to ones (R437). -/
  burntOut : Bool := false
  fwFloor : BitVec 24 := 0
  /-- Step of R436 that TRANSIT is in, and its target. -/
  transitStep : Nat := 0
  transitTo : Nat := 0
  /-- CLOSED was burnt in the TRANSIT before this WAKE (R445). -/
  closedNow : Bool := false
  incoherent : Bool := false
  attached : Bool := false
  disabled : Bool := false
  violations : Nat := 0
  lastRegion : Nat := 0
  ir : Nat := 0xFE
  bypass : Nat := 0
  boundary : Nat := 0
  dbgAddr : W48 := 0
  dbgOut : Nat := 0
  /-- Internal words that debug writes have changed. -/
  dbgWords : Table W48 := []
deriving DecidableEq, Repr

/-- What flash holds through a loss of power (R27). Both copies hold the same content; which copies are readable stands beside it. -/
structure Flash where
  readable : List Bool := [true, true]
  swkCheck : Option Bytes := none
  /-- The journal of each copy (R241). -/
  journals : List JCopy := [{}, {}]
  /-- Number of the last commit whose records the journal holds (R259). -/
  commitNo : Nat := 0
  lib : Table LibSlot := []
  libGen : Nat := 0
  /-- The library was lost or erased and the generation not yet raised for it (R177). -/
  libLost : Bool := false
  svMaster : Table SvEntry := []
  svGen : Nat := 0
  cust : Custody := {}
  cfg : AlarmCfg
  alarmLog : List AlarmEnt := []
  tag : Bytes := zeros 256
  writesLeft : Nat := 10000
  fwCommitted : BitVec 24 := 0
  fwStaged : Option Bytes := none
  /-- The flash copy of the trims, none once erased (R437). -/
  trims : Option Bytes := some (zeros 32)
  detMark : Nat := 0
  losses : Nat := 0
  lastUs : Nat := 0
deriving DecidableEq, Repr

/-- What the block has sent out: transfers, messages and answers. -/
inductive Out where
  /-- A read request for an entry or an operand: port, PASID, IOVA, bytes, relaxed ordering (R58, R59). -/
  | read (port pasid iova len : Nat) (relaxed : Bool)
  /-- A write to host memory with PASID (destination data, completion entry): port, PASID, IOVA, bytes, relaxed ordering (R58, R59). -/
  | write (port pasid iova : Nat) (data : Bytes) (relaxed : Bool)
  /-- An ATS translation request: port, PASID, page number (R58). -/
  | translate (port pasid page : Nat)
  /-- A write without PASID: a ring interrupt message or an MSI-X message (R97, R139). -/
  | message (port addr data : Nat)
  /-- A completed ATS invalidation (R58). -/
  | atsDone (port pasid page : Nat)
  /-- The value a register read returned (R140). -/
  | readData (port : Nat) (value : W64)
  /-- A frame to the CPATH console (R286). -/
  | cpath (frame : Bytes)
  /-- The bytes an SMBus read returned, and whether data bytes of a write were refused (R461). -/
  | smbus (data : Bytes) (nack : Nat)
  /-- Bits shifted out of the debug port's selected data register: length, value (R440). -/
  | tap (bits value : Nat)
deriving DecidableEq, Repr

/-- An effect on the I/O die that a command hands over to the event controllers. -/
inductive Fx where
  /-- A rising edge of a source on the ports of a mask (R134). -/
  | pulse (mask source : Nat)
  /-- The controller of a port returns to its reset values (R147). -/
  | evcReset (port : Nat)
  | out (o : Out)
deriving DecidableEq, Repr

/-- The CPATH port (R286, R287): request being served, its response when it is ready, last request and response. -/
structure Cpath where
  busy : Option Bytes := none
  last : Option (Bytes × Bytes) := none
deriving DecidableEq, Repr

/-- One host write in the host-write log (R384): epoch, port, BAR, offset, value. -/
structure HostWrite where
  epoch : Nat
  port : Nat
  bar : Nat
  offset : Nat
  /-- What was written; none for an access that is dropped whatever it carried (R9, R60). -/
  value : Option W64
deriving DecidableEq, Repr

/-- Everything but the queue, the event controllers and the output. -/
structure Core where
  g : Glb := {}
  r : Regs := {}
  ports : List Port := List.replicate 4 {}
  slc : Table Slc := []
  ring : Table Ring := []
  cc : CC := {}
  /-- Epoch records sent and not yet acknowledged, oldest first: number, end of epoch, content (R380, R382). -/
  sent : List (Nat × W48 × CC) := []
  /-- The standby's mirror: the state of the last glazed epoch (R380). -/
  mirror : CC := {}
  hostLog : List HostWrite := []
  cont : Cont := {}
  eng : Engs := {}
  ent : Ent := {}
  siv : Siv := {}
  pwr : Pwr := {}
  tmp : Tmp
  lcs : Lcs
  flash : Flash
  batt : Batt := {}
  cpath : Cpath := {}
  evlog : List EvLog := []
  fx : List Fx := []
  /-- Counter of free values taken: the model's own field. -/
  free : Nat := 0
deriving DecidableEq, Repr

/-- An entry of the priority stack (R140): source, its level, the level saved at its claim (none is idle). -/
structure StackEnt where
  source : Nat
  level : Nat
  saved : Option Nat
deriving DecidableEq, Repr

/-- One event controller (R132 to R148). Bit s of a mask stands for source s. -/
structure Evc where
  pend : Nat := 0
  enable : Nat := 0
  active : Nat := 0
  prio : Table Nat := []
  hold : Bool := false
  /-- Most recent claim first. -/
  stack : List StackEnt := []
  strayCount : Nat := 0
  strayLast : Nat := 0
  /-- Vectors whose message is requested and not yet sent (R139). -/
  req : Nat := 0
  /-- The level that is signaling. -/
  sig : Option Nat := none
  /-- Masked sources that a claim may still return, and until when (R144). -/
  settling : Table W48 := []
deriving DecidableEq, Repr

end Sys2Proof.Machine
end

