-- ==== Sys2Proof/Machine/State.lean ====
section
/-! DEFINITION. The state of the block, the reasons a command can stop, and the state after reset. -/

namespace Sys2Proof.Machine

/-- The state: the waiting commands (first in, first out), everything inside the dies but the event controllers, the four event controllers on the I/O die (R132), and what the block has sent out, oldest first. The queue and the output are the model's own fields. -/
structure State where
  pending : List Instr := []
  core : Core
  evc : List Evc := List.replicate 4 {}
  out : List Out := []
deriving DecidableEq, Repr

/-- Why the block stops. No rule of the spec stops it, so no meaning raises this; safe. -/
inductive Fault where
  /-- Raised by nobody: every refusal of the spec is a status, a reason code, a counted drop or an alarm. Safe. -/
  | none
deriving DecidableEq, Repr

/-- Why a command has no meaning. -/
inductive Refusal where
  /-- Raised by the dispatch for a command that is not modelled, by its mnemonic. Safe: the model stops where the block goes on. -/
  | notModelled (mnemonic : String)
deriving DecidableEq, Repr

/-- The default class of each alarm source (R403). -/
def alarmDefaults : List Nat :=
  [3, 3, 3, 3, 3, 0, 0, 1, 2, 1, 1, 1, 1, 2, 2, 2, 2, 2, 3, 3, 3, 3, 3, 3, 0, 2, 2, 2, 2]

/-- The default alarm configuration (R403): every source enabled but the four loops. -/
def AlarmCfg.default : AlarmCfg :=
  { cls := alarmDefaults, enables := 0x1F87FFFF, thresholds := [0, 0, 0, 0], refs := [0, 0, 0, 0] }

/-- The shares of R67 for one created port that owns the whole unit. -/
def Port.whole (v : Variant) : Port :=
  { slcCount := Config.slices v, ringCount := Config.ringPairs v, quota := Config.inflight v }

/-- Right after reset: the rise of PWROK_OUT has entered WAKE (R62, R451) on a unit as it leaves Huori, in INTEGRATOR with empty flash and no SWK (R467), the reference clock of port 0 good, so that OSC is checked (R421). What the spec gives no value for stands in the assumption log. -/
def State.reset : State :=
  { core :=
      { ports := [{ Port.whole .x with refStable := true }, {}, {}, {}]
        r := { longPool := 0x08000008 }
        evlog := [{ kind := 0, time := 0, value := 1 }]
        tmp := { cfg := AlarmCfg.default }
        lcs := { copies := [0xFF, 0xFF, 0xFF]
                 progress := [[0xFFFFFFFF, 0xFFFFFFFF, 0xFFFFFFFF], [0, 0, 0], [0, 0, 0], [0, 0, 0]] }
        flash := { cfg := AlarmCfg.default }
        batt := { cls := alarmDefaults, enables := 0x1F87FFFF } } }

end Sys2Proof.Machine
end

