-- ==== Sys2Proof/Machine/Operands.lean ====
section
/-! DEFINITION. The operand forms: fields of a submission entry (R79), of a recipe image and its steps (R178, R181), the tray address space (R179) and the codes of statuses, classes and algorithms. -/

namespace Sys2Proof.Machine

/-! ### Submission entry (R79) -/

/-- OPCLASS. -/
def Task.opclass (t : Task) : Nat := byteAt 0 t.entry
/-- FLAGS. -/
def Task.eflags (t : Task) : Nat := byteAt 1 t.entry
/-- Recipe number or operation code. -/
def Task.opcode (t : Task) : Nat := leNat (cut 2 2 t.entry)
/-- TAG. -/
def Task.tag (t : Task) : Nat := leNat (cut 4 4 t.entry)
/-- Relative deadline. -/
def Task.relDeadline (t : Task) : Nat := leNat (cut 8 4 t.entry)
/-- PARAM. -/
def Task.param (t : Task) : Nat := leNat (cut 12 4 t.entry)
/-- KEY0 handle. -/
def Task.key0 (t : Task) : Nat := leNat (cut 16 6 t.entry)
/-- KEY1 handle. -/
def Task.key1 (t : Task) : Nat := leNat (cut 24 6 t.entry)
/-- Source IOVA. -/
def Task.srcIova (t : Task) : Nat := leNat (cut 32 8 t.entry)
/-- Destination IOVA. -/
def Task.dstIova (t : Task) : Nat := leNat (cut 40 8 t.entry)
/-- Source length. -/
def Task.srcLen (t : Task) : Nat := leNat (cut 48 3 t.entry)
/-- Destination length. -/
def Task.dstLen (t : Task) : Nat := leNat (cut 51 3 t.entry)
/-- Inline length. -/
def Task.inlineLen (t : Task) : Nat := byteAt 54 t.entry
/-- FLAGS.EXT. -/
def Task.ext (t : Task) : Bool := bit 0 t.eflags
/-- FLAGS.NOTIFY. -/
def Task.notify (t : Task) : Bool := bit 1 t.eflags
/-- FLAGS.FENCE. -/
def Task.fence (t : Task) : Bool := bit 2 t.eflags
/-- FLAGS.STRICT_WRITE. -/
def Task.strictWrite (t : Task) : Bool := bit 3 t.eflags
/-- The inline bytes, those at and beyond the inline length as zero (R179). -/
def Task.inline (t : Task) : Bytes :=
  let all := cut 56 8 t.entry ++ cut 64 64 t.entry
  cut 0 72 (all.take t.inlineLen)

/-- Slots of the submission ring that the entry takes (R80). -/
def Task.slots (t : Task) : Nat := if t.ext then 2 else 1

/-! ### Recipe image (R178) and steps (R181) -/

/-- STEPS of an image. -/
def imgSteps (im : Bytes) : Nat := byteAt 2 im
/-- PORTS. -/
def imgPorts (im : Bytes) : Nat := byteAt 3 im
/-- SRC. -/
def imgSrc (im : Bytes) : Nat := leNat (cut 4 2 im)
/-- SRC_MAX. -/
def imgSrcMax (im : Bytes) : Nat := leNat (cut 6 2 im)
/-- RND. -/
def imgRnd (im : Bytes) : Nat := leNat (cut 8 2 im)
/-- RND_LEN. -/
def imgRndLen (im : Bytes) : Nat := byteAt 10 im
/-- INLINE_MIN. -/
def imgInlineMin (im : Bytes) : Nat := byteAt 11 im
/-- RES0. -/
def imgRes0 (im : Bytes) : Nat := leNat (cut 12 2 im)
/-- RES1. -/
def imgRes1 (im : Bytes) : Nat := leNat (cut 14 2 im)
/-- KEYREQ. -/
def imgKeyreq (im : Bytes) : Nat := byteAt 16 im
/-- The constant block. -/
def imgConst (im : Bytes) : Bytes := cut 64 64 im

/-- A step's two words. -/
structure RStep where
  w0 : Nat
  w1 : Nat
deriving DecidableEq, Repr

/-- Step k of an image (R178, R181). -/
def imgStep (im : Bytes) (k : Nat) : RStep :=
  { w0 := leNat (cut (128 + 16 * k) 8 im), w1 := leNat (cut (136 + 16 * k) 8 im) }

/-- The steps of an image in order. -/
def imgStepList (im : Bytes) : List RStep := (List.range (imgSteps im)).map (imgStep im)

/-- MISS. -/
def RStep.missBit (s : RStep) : Bool := bit 57 s.w0
/-- VF. -/
def RStep.vf (s : RStep) : Bool := bit 56 s.w0
/-- SENSE. -/
def RStep.sense (s : RStep) : Bool := bit 55 s.w0
/-- COND. -/
def RStep.cond (s : RStep) : Nat := bits 54 50 s.w0
/-- OUT. -/
def RStep.outFlag (s : RStep) : Nat := bits 49 45 s.w0
/-- SETS. -/
def RStep.sets (s : RStep) : Nat := bits 44 40 s.w0
/-- OPCODE. -/
def RStep.op (s : RStep) : Nat := bits 39 32 s.w0
/-- WAIT. -/
def RStep.wait (s : RStep) : Nat := bits 31 0 s.w0
/-- ARG. -/
def RStep.arg (s : RStep) : Nat := bits 63 48 s.w1
/-- KSEL2. -/
def RStep.ksel2 (s : RStep) : Nat := bits 45 41 s.w1
/-- KSEL. -/
def RStep.ksel (s : RStep) : Nat := bits 40 36 s.w1
/-- LEN. -/
def RStep.len (s : RStep) : Nat := bits 35 27 s.w1
/-- D. -/
def RStep.d (s : RStep) : Nat := bits 26 18 s.w1
/-- B. -/
def RStep.b (s : RStep) : Nat := bits 17 9 s.w1
/-- A. -/
def RStep.a (s : RStep) : Nat := bits 8 0 s.w1

/-- The engine class of an opcode (R182): code of R159, none for a code that R182 does not list. -/
def opClass (op : Nat) : Option Nat :=
  if 1 ≤ op ∧ op ≤ 7 then some 0
  else if 0x20 ≤ op ∧ op ≤ 0x24 then some 1
  else if 0x30 ≤ op ∧ op ≤ 0x36 then some 1
  else if 0x38 ≤ op ∧ op ≤ 0x41 then some 1
  else if 0x50 ≤ op ∧ op ≤ 0x52 then some 2
  else if 0x60 ≤ op ∧ op ≤ 0x62 then some 3
  else if 0x70 ≤ op ∧ op ≤ 0x71 then some 4
  else if op = 0x80 then some 5
  else if op = 0x90 then some 6
  else none

/-! ### Tray address space (R179) -/

/-- The 512 bytes that a step may read: trays, the first slot with inline bytes beyond the inline length as zero, the constants. -/
def Task.space (t : Task) : Bytes :=
  cut 0 384 t.trays ++ (cut 0 56 t.entry ++ cut 0 8 t.inline) ++ imgConst t.image

/-- n bytes at a tray address. -/
def Task.rd (t : Task) (a n : Nat) : Bytes := cut a n t.space

/-- The length a step works on: LEN, or the source length where LEN is 0 (R181). -/
def Task.opLen (t : Task) (s : RStep) : Nat := if s.len = 0 then t.srcLen else s.len

/-- The key a selector names (R181): 1 KEY0, 2 KEY1, 16 + n tray n. -/
def Task.ksel (t : Task) (k : Nat) : Option Ctx := Table.find k t.ctxs

/-! ### Codes -/

namespace Status
def ok : Nat := 0x00
def okLate : Nat := 0x01
def verifyFail : Nat := 0x02
def descFormat : Nat := 0x10
def recipeUnknown : Nat := 0x11
def recipeStep : Nat := 0x12
def keyNotFound : Nat := 0x20
def keyVoid : Nat := 0x21
def keyUseDenied : Nat := 0x22
def keyUsageExhausted : Nat := 0x23
def keyExpired : Nat := 0x24
def windowViolation : Nat := 0x30
def operandRange : Nat := 0x31
def notOnCurve : Nat := 0x32
def authFail : Nat := 0x33
def inputFormat : Nat := 0x34
def entropyUnavailable : Nat := 0x40
def engineAbsent : Nat := 0x41
def aborted : Nat := 0x50
def safeHalt : Nat := 0x60
def modeRefused : Nat := 0x61
def custodyRequired : Nat := 0x62
def internal : Nat := 0x7F
end Status

namespace Usage
def data : Nat := 0x01
def mac : Nat := 0x02
def pinEnc : Nat := 0x03
def pinVer : Nat := 0x04
def cvk : Nat := 0x05
def bdk : Nat := 0x06
def imk : Nat := 0x07
def kek : Nat := 0x08
def kdk : Nat := 0x09
def branch : Nat := 0x0A
def root : Nat := 0x0B
def sign : Nat := 0x10
def verify : Nat := 0x11
def agree : Nat := 0x12
def kem : Nat := 0x13
def cardMk : Nat := 0x20
def cardSk : Nat := 0x21
end Usage

/-- Whether an algorithm may carry a usage class (R240). -/
def usageAllowed (alg usage : Nat) : Bool :=
  match alg with
  | 0x00 => [1, 2, 3, 4, 5, 6, 7, 8].contains usage
  | 0x01 => [1, 2, 3, 4, 8].contains usage
  | 0x02 => [1, 2, 3, 6, 7, 8].contains usage
  | 0x03 => [1, 2, 3, 6, 7, 8].contains usage
  | 0x04 => [1, 2, 3, 6, 7, 8, 9, 10, 11].contains usage
  | 0x05 => [2, 9].contains usage
  | 0x10 => [0x10, 0x11].contains usage
  | 0x11 => [0x10, 0x11, 0x12].contains usage
  | 0x12 => [0x10, 0x11, 0x12].contains usage
  | 0x13 => [0x10, 0x11, 0x12].contains usage
  | 0x14 => [0x10, 0x11, 0x12].contains usage
  | 0x15 => [0x10, 0x11, 0x12].contains usage
  | 0x16 => usage = 0x12
  | 0x17 => [0x10, 0x11].contains usage
  | 0x18 => [0x10, 0x11].contains usage
  | 0x19 => usage = 0x13
  | _ => false

/-- Whether an algorithm is symmetric (R240). -/
def algSymmetric (alg : Nat) : Bool := decide (alg ≤ 5)

/-- Key bytes of a symmetric algorithm (R240). -/
def symKeyBytes (alg : Nat) : Nat :=
  match alg with
  | 0 => 16
  | 1 => 24
  | 2 => 16
  | 3 => 24
  | 4 => 32
  | 5 => 32
  | _ => 0

/-- Key length field of an algorithm other than RSA (R240). -/
def algBits (alg : Nat) : Nat :=
  match alg with
  | 0 => 128
  | 1 => 192
  | 2 => 128
  | 3 => 192
  | 4 => 256
  | 5 => 256
  | 0x11 => 256
  | 0x12 => 384
  | 0x13 => 521
  | 0x14 => 256
  | 0x15 => 384
  | 0x16 => 255
  | 0x17 => 255
  | _ => 0

/-- Whether an algorithm code is AES (R240). -/
def isAes (alg : Nat) : Bool := [2, 3, 4].contains alg
/-- Whether an algorithm code is TDEA (R240). -/
def isTdea (alg : Nat) : Bool := [0, 1].contains alg
/-- Block bytes of a cipher algorithm (R297). -/
def blockBytes (alg : Nat) : Nat := if isTdea alg then 8 else 16

/-- Attribute bits of R243. -/
def attrExportable : Nat := 1
def attrVolatile : Nat := 2
def attrCounted : Nat := 4
def attrLocal : Nat := 8

end Sys2Proof.Machine
end

