-- ==== Sys2Proof/Machine/Modes.lean ====
section
/-! DEFINITION. The cipher modes and MACs of R296, R297, R216 and R217, over AES and TDEA: each mode takes its chaining value and gives the next one, so that segments join (R304). CTR_DRBG (R346) stands here too. -/

namespace Sys2Proof.Machine

/-- An expanded cipher key. -/
inductive CKey where
  | aes (keys : List Bytes)
  | tdea (keys : List Nat × List Nat × List Nat)
deriving DecidableEq, Repr

/-- The key of an algorithm (R240): TDEA for codes 0 and 1, AES otherwise. -/
def CKey.of (alg : Nat) (k : Bytes) : CKey := if isTdea alg then .tdea (tdeaKeys k) else .aes (aesKeys k)

/-- Block bytes. -/
def CKey.n : CKey → Nat
  | .aes _ => 16
  | .tdea _ => 8

/-- One block enciphered. -/
def CKey.enc (k : CKey) (b : Bytes) : Bytes :=
  match k with
  | .aes ks => aesBlock ks b
  | .tdea ks => tdeaBlock ks b

/-- One block deciphered. -/
def CKey.dec (k : CKey) (b : Bytes) : Bytes :=
  match k with
  | .aes ks => aesUnblock ks b
  | .tdea ks => tdeaUnblock ks b

/-- Folds over blocks: from the chaining value, output bytes and the next chaining value. -/
def chainBlocks (f : Bytes → Bytes → Bytes × Bytes) (iv : Bytes) (bs : List Bytes) : Bytes × Bytes :=
  let r := bs.foldl (fun (a : List Bytes × Bytes) b => let (o, v) := f a.2 b; (o :: a.1, v)) ([], iv)
  (r.1.reverse.flatten, r.2)

/-- The counter block plus one, as one big-endian integer (R297). -/
def ctrInc (b : Bytes) : Bytes := beBytes b.length (beNat b + 1)

/-- ENCRYPT and DECRYPT by mode code (R182, R297): output and the chaining value after it. -/
def cipherMode (k : CKey) (mode : Nat) (encrypt : Bool) (iv data : Bytes) : Bytes × Bytes :=
  let bs := chunks k.n data
  match mode with
  | 0 => ((bs.map (if encrypt then k.enc else k.dec)).flatten, iv)
  | 1 =>
    if encrypt then chainBlocks (fun v b => let c := k.enc (xorB v b); (c, c)) iv bs
    else chainBlocks (fun v b => (xorB v (k.dec b), b)) iv bs
  | 2 => chainBlocks (fun v b => (xorB (k.enc v) b, ctrInc v)) iv bs
  | 3 => chainBlocks (fun v b =>
      let o := xorB (k.enc v) b
      (o, v.drop 1 ++ (if encrypt then o else b))) iv (chunks 1 data)
  | 4 => chainBlocks (fun v b =>
      let o := xorB (k.enc v) b
      (o, if encrypt then o else b)) iv bs
  | _ => chainBlocks (fun v b => let s := k.enc v; (xorB s b, s)) iv bs

/-- Whether the mode takes whole blocks only (R297). -/
def wholeBlocks (mode : Nat) : Bool := decide (mode ≤ 1)

/-- CBC-MAC with a zero IV over whole blocks: the final value. -/
def cbcMac (k : CKey) (data : Bytes) : Bytes := (chunks k.n data).foldl (fun h b => k.enc (xorB h b)) (zeros k.n)

/-- ISO 9797-1 padding (R217). -/
def isoPad (n method : Nat) (m : Bytes) : Bytes :=
  let z (d : Bytes) : Bytes := d ++ zeros ((n - d.length % n) % n)
  match method with
  | 1 => if m.isEmpty then zeros n else z m
  | 2 => z (m ++ [0x80])
  | _ => beBytes n (8 * m.length) ++ z m

/-- Doubling in GF(2^(8n)) of CMAC subkeys. -/
def cmacDouble (b : Bytes) : Bytes :=
  let n := b.length
  let v := beNat b
  beBytes n ((2 * v) ^^^ (if v.testBit (8 * n - 1) then (if n = 16 then 0x87 else 0x1B) else 0))

/-- CMAC (NIST SP 800-38B). -/
def cmac (k : CKey) (m : Bytes) : Bytes :=
  let n := k.n
  let k1 := cmacDouble (k.enc (zeros n))
  let q := max 1 (ceilDiv m.length n)
  let last := m.drop (n * (q - 1))
  let x := if last.length = n then xorB last k1
    else xorB (last ++ [0x80] ++ zeros (n - 1 - last.length)) (cmacDouble k1)
  k.enc (xorB ((chunks n (m.take (n * (q - 1)))).foldl (fun h b => k.enc (xorB h b)) (zeros n)) x)

/-- CMAC under a key of an algorithm. -/
def cmacAlg (alg : Nat) (key m : Bytes) : Bytes := cmac (CKey.of alg key) m

/-- ISO 9797-1 MAC algorithm 3 with a TDEA-2 key (R216). -/
def retailMac (key padded : Bytes) : Bytes :=
  let kl := desKeys (cut 0 8 key)
  let kr := desKeys (cut 8 8 key)
  let h := (chunks 8 padded).foldl (fun h b => desBlock kl (xorB h b)) (zeros 8)
  desBlock kl (desBlock kr.reverse h)

/-- The MAC of R216, whole, by its code 1, 3 or 5. -/
def macOf (alg : Nat) (key : Bytes) (kind method : Nat) (m : Bytes) : Bytes :=
  let n := blockBytes alg
  match kind with
  | 1 => cbcMac (CKey.of alg key) (isoPad n method m)
  | 3 => retailMac key (isoPad n method m)
  | _ => cmacAlg alg key m

/-! ### MACs in parts (R304) -/

/-- The bytes that a segment of an ISO 9797-1 MAC feeds to its chain: the length block before the first with method 3, the padding after the last (R217). -/
def isoSegment (n method total : Nat) (first last : Bool) (seg : Bytes) : Bytes :=
  let z (d : Bytes) : Bytes := d ++ zeros ((n - d.length % n) % n)
  let body := if !last then seg
    else match method with
      | 1 => if total = 0 then zeros n else z seg
      | 2 => z (seg ++ [0x80])
      | _ => z seg
  (if first && method != 1 && method != 2 then beBytes n (8 * total) else []) ++ body

/-- The chaining value of a MAC of R216 after a segment, and after the last one the MAC itself. -/
def macPart (alg : Nat) (key : Bytes) (kind method total : Nat) (first last : Bool) (chain seg : Bytes) : Bytes :=
  let k := CKey.of alg key
  let n := k.n
  let h := if first then zeros n else chain
  let step (f : Bytes → Bytes) (h d : Bytes) : Bytes := (chunks n d).foldl (fun h b => f (xorB h b)) h
  match kind with
  | 1 => step k.enc h (isoSegment n method total first last seg)
  | 3 =>
    let kl := desKeys (cut 0 8 key)
    let h := step (desBlock kl) h (isoSegment n method total first last seg)
    if last then desBlock kl (desBlock (desKeys (cut 8 8 key)).reverse h) else h
  | _ =>
    if !last then step k.enc h seg
    else
      let k1 := cmacDouble (k.enc (zeros n))
      let q := max 1 (ceilDiv seg.length n)
      let tail := seg.drop (n * (q - 1))
      let x := if tail.length = n then xorB tail k1 else xorB (tail ++ [0x80] ++ zeros (n - 1 - tail.length)) (cmacDouble k1)
      k.enc (xorB (step k.enc h (seg.take (n * (q - 1)))) x)

/-! ### GCM (NIST SP 800-38D) -/

/-- Multiplication in GHASH's field: v accumulates x shifted, bit by bit of y from the left. -/
def ghashMulF : Nat → Nat → Nat → Nat → Nat
  | 0, _, _, z => z
  | i + 1, y, v, z =>
    let z := if y.testBit i then z ^^^ v else z
    let v' := if v.testBit 0 then v / 2 ^^^ 0xE1 * 2 ^ 120 else v / 2
    ghashMulF i y v' z

/-- Product of two blocks. -/
def ghashMul (x y : Nat) : Nat := ghashMulF 128 y x 0

/-- GHASH accumulated over data, zero-padded to whole blocks. -/
def ghashOver (h acc : Nat) (data : Bytes) : Nat :=
  (chunks 16 data).foldl (fun a b => ghashMul (a ^^^ beNat (b ++ zeros (16 - b.length))) h) acc

/-- GHASH of additional data and ciphertext with their lengths. -/
def ghash (k : CKey) (aad ct : Bytes) : Bytes :=
  let h := beNat (k.enc (zeros 16))
  let a := ghashOver h (ghashOver h 0 aad) ct
  beBytes 16 (ghashMul (a ^^^ (8 * aad.length * 2 ^ 64 + 8 * ct.length)) h)

/-- A GCM counter block for a 12-byte nonce and a 32-bit count. -/
def gcmCtr (nonce : Bytes) (c : Nat) : Bytes := cut 0 12 nonce ++ beBytes 4 c

/-- GCM's counter mode on data whose first block is number b (from 0) of the message. -/
def gcmCrypt (k : CKey) (nonce : Bytes) (b : Nat) (data : Bytes) : Bytes :=
  (((chunks 16 data).zipIdx).map (fun x => xorB (k.enc (gcmCtr nonce (b + x.2 + 2))) x.1)).flatten

/-- The full tag from a GHASH value. -/
def gcmTag (k : CKey) (nonce gh : Bytes) : Bytes := xorB (k.enc (gcmCtr nonce 1)) gh

/-- GCM sealing: ciphertext and full tag. -/
def gcmSeal (k : CKey) (nonce aad pt : Bytes) : Bytes × Bytes :=
  let ct := gcmCrypt k nonce 0 pt
  (ct, gcmTag k nonce (ghash k aad ct))

/-! ### Key wrap with padding (NIST SP 800-38F) -/

/-- One step of the wrapping function backwards, on A and the semiblocks; t counts down. -/
def kwUnstep (k : CKey) (s : Bytes × List Bytes) (t : Nat) : Bytes × List Bytes :=
  let n := s.2.length
  let i := (t - 1) % n
  let b := k.dec (xorB s.1 (beBytes 8 t) ++ s.2.getD i [])
  (b.take 8, s.2.set i (b.drop 8))

/-- One step of the wrapping function. -/
def kwStep (k : CKey) (s : Bytes × List Bytes) (t : Nat) : Bytes × List Bytes :=
  let n := s.2.length
  let i := (t - 1) % n
  let b := k.enc (s.1 ++ s.2.getD i [])
  (xorB (b.take 8) (beBytes 8 t), s.2.set i (b.drop 8))

/-- KWP unwrapping: the plaintext, none when the integrity check fails. -/
def kwpUnwrap (key c : Bytes) : Option Bytes :=
  let k := CKey.aes (aesKeys key)
  let n := c.length / 8 - 1
  if c.length % 8 ≠ 0 ∨ c.length < 16 then none
  else
    let s : Bytes × List Bytes :=
      if n = 1 then let b := k.dec c; (b.take 8, [b.drop 8])
      else ((List.range (6 * n)).reverse.map (· + 1)).foldl (kwUnstep k) (c.take 8, chunks 8 (c.drop 8))
    let len := beNat (s.1.drop 4)
    let pt := s.2.flatten
    if s.1.take 4 = [0xA6, 0x59, 0x59, 0xA6] ∧ 8 * (n - 1) < len ∧ len ≤ 8 * n ∧ allZero (pt.drop len) then some (pt.take len)
    else none

/-- KWP wrapping. -/
def kwpWrap (key p : Bytes) : Bytes :=
  let k := CKey.aes (aesKeys key)
  let pt := p ++ zeros ((8 - p.length % 8) % 8)
  let a : Bytes := [0xA6, 0x59, 0x59, 0xA6] ++ beBytes 4 p.length
  let n := pt.length / 8
  if n ≤ 1 then k.enc (a ++ pt)
  else
    let r := ((List.range (6 * n)).map (· + 1)).foldl (kwStep k) (a, chunks 8 pt)
    r.1 ++ r.2.flatten

/-! ### CTR_DRBG, AES-256 with derivation function (NIST SP 800-90A) -/

/-- The next n bytes of output of the counter, and the counter after them. -/
def drbgBlocks (k : CKey) : Nat → Bytes → List Bytes × Bytes
  | 0, v => ([], v)
  | n + 1, v =>
    let v := ctrInc v
    let (r, w) := drbgBlocks k n v
    (k.enc v :: r, w)

/-- CTR_DRBG_Update with 48 bytes of provided data. -/
def Drbg.update (d : Drbg) (data : Bytes) : Drbg :=
  let (bs, _) := drbgBlocks (.aes (aesKeys d.key)) 3 d.v
  let t := xorB bs.flatten data
  { d with key := t.take 32, v := t.drop 32 }

/-- Block_Cipher_df for 48 bytes. -/
def drbgDf (input : Bytes) : Bytes :=
  let s := beBytes 4 input.length ++ beBytes 4 48 ++ input ++ [0x80]
  let s := s ++ zeros ((16 - s.length % 16) % 16)
  let k := CKey.aes (aesKeys ((List.range 32).map byte))
  let bcc (i : Nat) : Bytes := (chunks 16 (beBytes 4 i ++ zeros 12 ++ s)).foldl (fun h b => k.enc (xorB h b)) (zeros 16)
  let t := bcc 0 ++ bcc 1 ++ bcc 2
  let k2 := CKey.aes (aesKeys (t.take 32))
  let x1 := k2.enc (t.drop 32)
  let x2 := k2.enc x1
  x1 ++ x2 ++ k2.enc x2

/-- Instantiate from entropy input, nonce and personalization string. -/
def drbgInstantiate (seed : Bytes) : Drbg := { (({} : Drbg).update (drbgDf seed)) with calls := 0 }

/-- Reseed from entropy input. -/
def Drbg.reseed (d : Drbg) (entropy : Bytes) : Drbg := { (d.update (drbgDf entropy)) with calls := 0 }

/-- Generate n bytes: one call. -/
def Drbg.generate (d : Drbg) (n : Nat) : Bytes × Drbg :=
  let (bs, v) := drbgBlocks (.aes (aesKeys d.key)) (ceilDiv n 16) d.v
  let d' := ({ d with v := v } : Drbg).update (zeros 48)
  (bs.flatten.take n, { d' with calls := d.calls + 1 })

end Sys2Proof.Machine
end

