-- ==== Sys2Proof/Machine/Flags.lean ====
section
/-! DEFINITION. Event flags and wait masks (R153 to R156), the steps of a task of each operation class, readiness, ranking and skipping, and the verdict of a step's outcome (R186). -/

namespace Sys2Proof.Machine

/-- Flag bit i added to a mask. -/
def setFlag (i m : Nat) : Nat := m ||| 2 ^ i

/-- Every bit of n is set in m. -/
def covers (m n : Nat) : Bool := m &&& n == n

/-- OPCLASS values (R79). -/
def clsRecipe : Nat := 1
def clsAdmin : Nat := 2
def clsCustody : Nat := 3
def clsPk : Nat := 4
def clsBulk : Nat := 5

/-- MODE of a BULK PARAM (R302). -/
def Task.bkMode (t : Task) : Nat := bits 3 0 t.param
/-- IVSRC. -/
def Task.bkIvsrc (t : Task) : Nat := bits 5 4 t.param
/-- PAD. -/
def Task.bkPad (t : Task) : Nat := bits 7 6 t.param
/-- TLEN. -/
def Task.bkTlen (t : Task) : Nat := bits 13 8 t.param
/-- AADLEN. -/
def Task.bkAad (t : Task) : Nat := bits 31 16 t.param

/-- Whether the BULK task is a hash-lane operation (R301). -/
def Task.bkHash (t : Task) : Bool := decide (t.opcode ≥ 0x506)

/-- Bytes that a BULK task's segments cover: the data without AAD and tag (R304, R306). -/
def Task.bkBytes (t : Task) : Nat :=
  if t.opcode = 0x502 then t.srcLen - t.bkAad
  else if t.opcode = 0x503 then t.srcLen - t.bkAad - t.bkTlen
  else t.srcLen

/-- Whether the blocks of the BULK task's mode do not depend on one another (R298). -/
def Task.bkIndependent (t : Task) : Bool :=
  match t.opcode with
  | 0x500 => t.bkMode = 0 || t.bkMode = 2
  | 0x501 => t.bkMode ≤ 2
  | 0x502 => true
  | 0x503 => true
  | _ => false

/-- The segment size of a BULK task (R304). -/
def Task.bkSegment (t : Task) : Nat :=
  if t.bkHash then 4096
  else
    let tdea := match t.ksel 1 with
      | some c => isTdea c.alg
      | none => false
    match t.bkIndependent, tdea with
    | true, false => 16384
    | false, false => 1024
    | true, true => 256
    | false, true => 16

/-- Whether the BULK task is a GCM operation. -/
def Task.bkGcm (t : Task) : Bool := t.opcode == 0x502 || t.opcode == 0x503

/-- Bytes of additional data at the start of the source. -/
def Task.bkAadLen (t : Task) : Nat := if t.bkGcm then t.bkAad else 0

/-- Segments of additional data alone. Additional data of up to one segment goes with the first data segment, as in the example of the Symmetric Engine chapter; more of it has segments of its own ahead, so that none holds a lane longer (R304; DEDUCED, log entry 26). -/
def Task.bkAadSegs (t : Task) : Nat := ceilDiv t.bkAadLen t.bkSegment - 1

/-- The number of segments of a first pass: at least one. -/
def Task.bkSegments (t : Task) : Nat := t.bkAadSegs + max 1 (ceilDiv t.bkBytes t.bkSegment)

/-- The present segment is the pass's last. -/
def Task.bkLast (t : Task) : Bool := decide (t.bkSegments ≤ t.seg + 1)

/-- The present segment covers additional data alone. -/
def Task.bkInAad (t : Task) : Bool := decide (t.seg < t.bkAadSegs)

/-- Additional data in the present segment. -/
def Task.bkSegAad (t : Task) : Nat :=
  if t.bkInAad then t.bkSegment
  else if t.seg = t.bkAadSegs ∧ !t.pass2 then t.bkAadLen - t.bkAadSegs * t.bkSegment
  else 0

/-- Where the present segment begins within the data. -/
def Task.bkAt (t : Task) : Nat := (t.seg - t.bkAadSegs) * t.bkSegment

/-- Bytes of the present segment. -/
def Task.bkSegLen (t : Task) : Nat := t.bkSegAad + (if t.bkInAad then 0 else min t.bkSegment (t.bkBytes - t.bkAt))

/-- Source bytes that go through the work area: all but a tag. -/
def Task.bkText (t : Task) : Nat := t.bkAadLen + t.bkBytes

/-- Where the source that a pass reads ends: the second pass reads the ciphertext alone (R307). -/
def Task.srcEnd (t : Task) : Nat := if t.pass2 then t.bkText else t.srcLen

/-- The bytes of the present segment have arrived, and with the last one of a first pass the tag (R304). -/
def Task.bkPresent (t : Task) : Bool :=
  decide (t.bkSegLen ≤ t.work.length) && (!t.bkLast || t.landed == t.srcEnd)

/-- Whether a BK_GCM_OPEN runs in two passes (R307). -/
def Task.bkTwoPass (t : Task) : Bool := t.opclass = clsBulk && t.opcode = 0x503 && decide (t.bkBytes > 65536)

/-- The steps a task has: those of its recipe; the BN and EMIT steps of PK_DIRECT (R320); one at a time for BULK (R304). -/
def Task.steps (t : Task) : Nat :=
  if t.opclass = clsRecipe then imgSteps t.image
  else if t.opclass = clsPk then 2
  else if t.opclass = clsBulk then 1
  else 0

/-- The engine class of step k (R159). -/
def Task.stepClass (t : Task) (k : Nat) : Option Nat :=
  if k < t.steps then
    if t.opclass = clsRecipe then opClass (imgStep t.image k).op
    else if t.opclass = clsPk then (if k = 0 then some 3 else some 6)
    else if t.bkHash then some 2 else some 1
  else none

/-- The wait mask M of step k, FENCE_CLEAR included (R153). -/
def Task.stepWait (t : Task) (k : Nat) : Nat :=
  if t.opclass = clsRecipe then (imgStep t.image k).wait ||| 0x40
  else if t.opclass = clsPk && k = 1 then 0x15F
  else if t.opclass = clsBulk then 0x5D
  else 0x5F

/-- Step k is ready (R153). -/
def Task.ready (t : Task) (k : Nat) : Bool :=
  decide (k < t.steps) && !bit k t.disp && (t.st == .admitted || t.st == .running) && covers t.flags (t.stepWait k) && (t.opclass != clsBulk || t.bkPresent)

/-- The condition of step k is decided against it, so that it is skipped when it would become ready (R187). -/
def Task.condFails (t : Task) (k : Nat) : Bool :=
  let s := imgStep t.image k
  t.opclass == clsRecipe && s.cond != 0 && bit s.cond t.flags != s.sense

/-- Sets the flag a step names in SETS, if any. -/
def Task.setSets (t : Task) (k : Nat) : Task :=
  let f := (imgStep t.image k).sets
  if t.opclass = clsRecipe ∧ f ≠ 0 then { t with flags := setFlag f t.flags } else t

/-- Skips step k: it counts as dispatched and completed, and its SETS flag is set (R155, R186). -/
def Task.skip (t : Task) (k : Nat) : Task :=
  ({ t with disp := setFlag k t.disp, done := setFlag k t.done } : Task).setSets k

/-- Skips the lowest step that would become ready with its condition against it. -/
def Task.skipOne (t : Task) : Task :=
  match (List.range t.steps).find? (fun k => t.ready k && t.condFails k) with
  | some k => t.skip k
  | none => t

/-- Skips every such step; each skip may make another step ready. -/
def Task.skipAll (t : Task) : Task := iter Task.skipOne 32 t

/-- The steps that stand in the heaps: ready, and not to be skipped. -/
def Task.heap (t : Task) : List Nat :=
  (List.range t.steps).filter (fun k => t.ready k && !t.condFails k)

/-- Steps dispatched and not completed. -/
def Task.runningSteps (t : Task) : List Nat :=
  (List.range t.steps).filter (fun k => bit k t.disp && !bit k t.done)

/-- Every step has completed or been skipped. -/
def Task.allDone (t : Task) : Bool := (List.range t.steps).all (fun k => bit k t.done)

/-- Admission values of the flags (R156): bits 0 and 6, and bits 1 to 4 for each request the task does not need. -/
def admissionFlags (fenced src key0 key1 rnd : Bool) : Nat :=
  1 + (if fenced then 0 else 0x40) + (if src then 0 else 2) + (if key0 then 0 else 4) + (if key1 then 0 else 8)
    + (if rnd then 0 else 0x10)

/-- A ready step: its task's number, D as it ranks, sequence number, and its index. -/
structure Ready where
  tid : Nat
  deadline : W48
  seq : Nat
  step : Nat
deriving DecidableEq, Repr

/-- x ranks above y (R160). -/
def ranksAbove (x y : Ready) : Bool :=
  if x.deadline ≠ y.deadline then later y.deadline x.deadline
  else if x.seq ≠ y.seq then earlierSeq x.seq y.seq
  else decide (x.step < y.step)

/-- The highest-ranked of a list. -/
def topRanked : List Ready → Option Ready
  | [] => none
  | r :: rs =>
    match topRanked rs with
    | none => some r
    | some b => if ranksAbove b r then some b else some r

/-- An integer operand in either FORMAT (R318): limbs of 48 bits, least significant first, or big-endian bytes. -/
def intIn (slots : Bool) (b : Bytes) : Nat :=
  if slots then (chunks 8 b).foldr (fun s a => leNat (s.take 6) + 2 ^ 48 * a) 0 else beNat b

/-- The size that decides whether a BN step is long (R164): RSA modulus or curve field in bits. -/
def Task.bnBits (t : Task) (k : Nat) : Nat :=
  let ofCtx (c : Option Ctx) : Nat := match c with
    | some c => c.bitLen
    | none => 0
  if t.opclass = clsPk then
    if t.opcode = 0x405 ∨ t.opcode = 0x406 then
      bitLen (intIn (bit 4 t.param) (cut 0 (bits 31 16 t.param) t.work))
    else if t.key0 = 0 then
      let alg := bits 15 8 t.param
      if alg = 0x10 then beNat (cut 0 2 t.work) else algBits alg
    else ofCtx (t.ksel 1)
  else ofCtx (t.ksel (imgStep t.image k).ksel)

/-- Step k is a long BN step for a threshold (R164). -/
def Task.isLong (t : Task) (longBits k : Nat) : Bool := decide (t.bnBits k > longBits)

/-- Status and DETAIL of an outcome that ends the task early (R186), none where the task goes on. -/
def earlyEnd (s : RStep) (k : Nat) : StepOut → Option (Nat × Nat)
  | .plain => none
  | .yes => none
  | .no => none
  | .miss sub => if s.missBit then none else some (Status.recipeStep, 0x8000 + 0x100 * k + sub)
  | .fail st => some (st, 0x8000 + 0x100 * k)
  | .sub c => some (Status.recipeStep, 0x8000 + 0x100 * k + c)
  | .ends st d => some (st, d)

/-- Flags, outcome map and verdict after step k has completed with an outcome that does not end the task (R186, R187). -/
def Task.applyOutcome (t : Task) (k : Nat) (o : StepOut) : Task :=
  let s := imgStep t.image k
  let isTrue := o == .yes
  let isFalse := match o with
    | .no => true
    | .miss _ => true
    | _ => false
  let t := t.setSets k
  let t := if isTrue then
      { t with outcome := setFlag k t.outcome,
               flags := if s.outFlag ≠ 0 then setFlag s.outFlag t.flags else t.flags }
    else t
  if isFalse && s.vf && t.status == 0 then
    { t with status := Status.verifyFail, detail := 0x8000 + 0x100 * k }
  else t

end Sys2Proof.Machine
end

