-- ==== Sys2Proof/Machine/Ops.lean ====
section
/-! DEFINITION. The named operations every meaning is built from: time, modes and events, ports, slices and ring pairs, windows and captures, the life of a task from its reservation to its completion, aborts, SAFE_HALT, erasure and port reset. -/

namespace Sys2Proof.Machine

/-! ### Time and ports -/

/-- Device time (R7). -/
def Core.now (c : Core) : W48 := c.g.devtime

/-- Device time set to a later moment. -/
def Glb.setTime (g : Glb) (t : W48) : Glb := { g with devtime := t, wraps := if t.toNat < g.devtime.toNat then g.wraps + 1 else g.wraps }

/-- Device time moved on to a moment that lies ahead: an event the spec ties to a moment takes place at it (DESIGN CHOICE, log entry 1). -/
def Core.moveTo (c : Core) (t : W48) : Core :=
  if later t c.now then { c with g := c.g.setTime t } else c

/-- Device time with its wraps counted in. -/
def Core.clock (c : Core) : Nat := c.g.wraps * 2 ^ 48 + c.now.toNat

/-- Ports the effective split creates (R61). -/
def Core.nPorts (c : Core) : Nat := 2 ^ c.g.split

/-- Whether the split creates port n. -/
def Core.created (c : Core) (n : Nat) : Bool := decide (n < c.nPorts)

/-- Port n. -/
def Core.port (c : Core) (n : Nat) : Port := c.ports.getD n {}

/-- Changes port n. -/
def Core.updPort (c : Core) (n : Nat) (f : Port → Port) : Core := { c with ports := upd n f c.ports }

/-- The created ports whose link is up, as a mask. -/
def Core.linkMask (c : Core) : Nat :=
  ((List.range 4).filter (fun n => c.created n && (c.port n).link != .down)).foldl (fun a n => a + 2 ^ n) 0

/-- Slice of a unit-wide number. -/
def Core.slice (c : Core) (s : Nat) : Slc := Table.findD s {} c.slc
/-- Changes a slice. -/
def Core.updSlice (c : Core) (s : Nat) (f : Slc → Slc) : Core :=
  { c with slc := Table.putD s (f (c.slice s)) {} c.slc }
/-- Ring pair of a unit-wide number. -/
def Core.ringOf (c : Core) (r : Nat) : Ring := Table.findD r {} c.ring
/-- Changes a ring pair's registers. -/
def Core.updRing (c : Core) (r : Nat) (f : Ring → Ring) : Core :=
  { c with ring := Table.putD r (f (c.ringOf r)) {} c.ring }

/-- Unit-wide number of a port's local slice (R65), none beyond its count. -/
def Core.slcNo (c : Core) (port l : Nat) : Option Nat :=
  if l < (c.port port).slcCount then some ((c.port port).slcBase + l) else none
/-- Unit-wide number of a port's local ring pair (R65), none beyond its count. -/
def Core.ringNo (c : Core) (port l : Nat) : Option Nat :=
  if l < (c.port port).ringCount then some ((c.port port).ringBase + l) else none
/-- Local number of a unit-wide slice on its port. -/
def Core.slcLocal (c : Core) (port s : Nat) : Nat := s - (c.port port).slcBase
/-- Local number of a unit-wide ring pair on its port. -/
def Core.ringLocal (c : Core) (port r : Nat) : Nat := r - (c.port port).ringBase

/-- Unit-wide slices of a port. -/
def Core.slicesOf (c : Core) (port : Nat) : List Nat :=
  (List.range (c.port port).slcCount).map ((c.port port).slcBase + ·)

/-- Unit-wide ring pairs of a port whose registers differ from reset, in order: all that can be enabled. -/
def Core.ringsOf (c : Core) (port : Nat) : List Nat :=
  (c.ring.map (·.1)).filter (fun r => decide ((c.port port).ringBase ≤ r) && decide (r < (c.port port).ringBase + (c.port port).ringCount))

/-- The unit-wide slice that a ring pair of a port is bound to (R65). -/
def Core.ringSlice (c : Core) (port r : Nat) : Option Nat := c.slcNo port (c.ringOf r).slice

/-! ### Control-complex state -/

/-- Positions of a ring pair. -/
def CC.pos (s : CC) (r : Nat) : RingPos := Table.findD r {} s.rings
/-- Changes the positions of a ring pair. -/
def CC.updPos (s : CC) (r : Nat) (f : RingPos → RingPos) : CC := { s with rings := Table.putD r (f (s.pos r)) {} s.rings }
/-- Capture and notice of a slice. -/
def CC.cap (s : CC) (n : Nat) : SlcCap := Table.findD n {} s.caps
/-- Changes the capture and notice of a slice. -/
def CC.updCap (s : CC) (n : Nat) (f : SlcCap → SlcCap) : CC := { s with caps := Table.putD n (f (s.cap n)) {} s.caps }
/-- A task by its staging slot. -/
def CC.task (s : CC) (tid : Nat) : Option Task := Table.find tid s.tasks
/-- Changes a task. -/
def CC.updTask (s : CC) (tid : Nat) (f : Task → Task) : CC := { s with tasks := Table.upd tid f s.tasks }
/-- Changes every task that satisfies p. -/
def CC.mapTasks (s : CC) (p : Task → Bool) (f : Task → Task) : CC :=
  { s with tasks := s.tasks.map (fun e => if p e.2 then (e.1, f e.2) else e) }
/-- Drops every task that satisfies p. -/
def CC.dropTasks (s : CC) (p : Task → Bool) : CC := { s with tasks := s.tasks.filter (fun e => !p e.2) }

/-- Drops every entry fetch that satisfies p, with its reservation. -/
def CC.dropFetch (s : CC) (p : Task → Bool) : CC := s.dropTasks (fun t => t.st == .fetching && p t)

/-- The state changed in the active complex. -/
def Core.updCC (c : Core) (f : CC → CC) : Core := { c with cc := f c.cc }

/-- A change that a host write makes to control-complex state: it stands in the active complex, in every record sent and in the mirror, as the replay of the host-write log would leave it (R384). -/
def Core.allCC (c : Core) (f : CC → CC) : Core :=
  { c with cc := f c.cc, sent := c.sent.map (fun e => (e.1, e.2.1, f e.2.2)), mirror := f c.mirror }

/-- The entry of a task. -/
def Core.task (c : Core) (tid : Nat) : Option Task := c.cc.task tid
/-- Changes a task of the active complex. -/
def Core.updTask (c : Core) (tid : Nat) (f : Task → Task) : Core := c.updCC (fun s => s.updTask tid f)

/-! ### Events and modes -/

/-- Hands an effect to the I/O die. -/
def Core.addFx (c : Core) (e : Fx) : Core := { c with fx := c.fx ++ [e] }
/-- Sends something out. -/
def Core.send (c : Core) (o : Out) : Core := c.addFx (.out o)
/-- A pulse of a source on a set of ports (R134). -/
def Core.pulse (c : Core) (mask source : Nat) : Core := if mask = 0 then c else c.addFx (.pulse mask source)
/-- A pulse on every port whose link is up. -/
def Core.pulseAll (c : Core) (source : Nat) : Core := c.pulse c.linkMask source
/-- An edge raised from control-complex state, which waits for its epoch (R137). -/
def Core.edge (c : Core) (mask source : Nat) : Core :=
  c.updCC (fun s => { s with edges := s.edges ++ [(s.epoch, mask, source)] })
/-- An entry of the event log (R36). -/
def Core.log (c : Core) (kind value : Nat) : Core := { c with evlog := c.evlog ++ [{ kind := kind, time := c.now, value := value }] }

/-- What R36 does for a change of CODE, DRAINED or WAKE_FAULT. -/
def Core.noteMode (c : Core) : Core :=
  (({ c with g := { c.g with modeTime := c.now } } : Core).pulseAll 160).log 0 c.g.mode.code

/-- A change of mode along R34, with R36. -/
def Core.setMode (c : Core) (m : Mode) : Core :=
  if c.g.mode = m then c
  else ({ c with g := { c.g with prev := c.g.mode.code, mode := m, drained := false } } : Core).noteMode

/-- The mode that service has: SERVE, or SERVE_REDUCED while REDUCED is 1 (R35). -/
def Core.serveMode (c : Core) : Mode := if c.g.reducedWas then .serveReduced else .serve

/-- The unit serves descriptors as SERVE does. -/
def Core.serving (c : Core) : Bool :=
  match c.g.mode with
  | .serve => true
  | .serveReduced => true
  | .update => true
  | .analysis => c.g.phase == .serving
  | _ => false

/-- The unit is quiesced (R41, R53). -/
def Core.quiesced (c : Core) : Bool :=
  match c.g.mode with
  | .quiesce => true
  | .analysis => c.g.phase == .quiesced
  | _ => false

/-- SAFE_HALT or ZEROIZED. -/
def Core.halted (c : Core) : Bool := c.g.mode == .safeHalt || c.g.mode == .zeroized

/-- SAFE_N is driven low (R32, R456). -/
def Core.safeLow (c : Core) : Bool := c.pwr.pwrok && c.halted
/-- ALERT_N is driven low (R32, R456). -/
def Core.alertLow (c : Core) : Bool := c.pwr.pwrok && (c.halted || (c.g.mode == .wake && c.g.wakeFault != 0))

/-- A holder of an unexpired lease that has adopted its state (R375, R385): the gate of R23 is open to it. -/
def Core.leaseHeld (c : Core) : Bool := c.cont.holder.isSome && c.cont.adopting.isNone && later c.cont.expiry c.now

/-- A unit that WAKE has found scrapped (R62). -/
def Core.scrapped (c : Core) : Bool := c.g.mode == .wake && c.g.wakeFault == 2

/-! ### Windows (R112 to R117) -/

/-- The valid window of a slice that contains an address: its number and entry. -/
def Slc.windowAt (s : Slc) (a : Nat) : Option Window :=
  (s.windows.map (·.2)).find? (fun w => bit 5 w.attr && decide (w.base ≤ a) && decide (a < w.base + w.len) && decide (a < 2 ^ 64))

/-- The cause of R114 for a piece that starts at an address, for a permission bit (0 R, 1 W) and a tag bit (2 ring, 3 operand, 4 result) of SLC_WIN_ATTR; 0 when it passes. -/
def Slc.cause (s : Slc) (a perm tag : Nat) (granted : Bool) : Nat :=
  match s.windowAt a with
  | none => 1
  | some w => if !bit perm w.attr then 2 else if !bit tag w.attr then 3 else if !granted then 4 else 0

/-- A transfer split at each 4 KiB boundary: start and length of each piece (R114). Addresses wrap at 2^64. -/
def splitPiecesF : Nat → Nat → Nat → List (Nat × Nat)
  | 0, _, _ => []
  | _ + 1, _, 0 => []
  | f + 1, a, n + 1 =>
    let m := min (n + 1) (4096 - a % 4096)
    (a, m) :: splitPiecesF f ((a + m) % 2 ^ 64) (n + 1 - m)

/-- The pieces of a transfer of n bytes at an address. -/
def splitPieces (a n : Nat) : List (Nat × Nat) := splitPiecesF (n / 4096 + 2) a n

/-- The capture of a precise violation (R119): the first one is captured, later ones counted. -/
def SlcCap.capture (p : SlcCap) (access cause ring tag iova : Nat) : SlcCap :=
  if p.valid then { p with later := sat 32 (p.later + 1) }
  else { p with valid := true, later := 0, access := access, cause := cause, ring := ring, tag := tag, iova := iova }

/-- The notice of a failed POSTED piece (R120). -/
def SlcCap.note (p : SlcCap) (iova : Nat) : SlcCap :=
  if p.nValid then { p with nCount := sat 32 (p.nCount + 1) }
  else { p with nValid := true, nCount := 1, nPage := iova / 4096 * 4096 }

/-- Records a precise violation of an epoch; it stays listed until the epoch is glazed (R119, R121). -/
def SlcCap.violate (p : SlcCap) (epoch seq access cause ring tag iova : Nat) : SlcCap :=
  { p.capture access cause ring tag iova with
    recent := p.recent ++ [{ epoch := epoch, seq := seq, posted := false, access := access, cause := cause, ring := ring, tag := tag, iova := iova }] }

/-- Records a failed POSTED piece of an epoch (R120, R121). -/
def SlcCap.notice (p : SlcCap) (epoch seq iova : Nat) : SlcCap :=
  { p.note iova with
    recent := p.recent ++ [{ epoch := epoch, seq := seq, posted := true, access := 0, cause := 0, ring := 0, tag := 0, iova := iova }] }

/-- The capture cleared of what hosts have seen: only the violations of epochs not yet glazed are left in it (R119, R121). -/
def SlcCap.clearViol (p : SlcCap) : SlcCap :=
  (p.recent.filter (!·.posted)).foldl (fun q v => q.capture v.access v.cause v.ring v.tag v.iova)
    { p with valid := false, later := 0, access := 0, cause := 0, ring := 0, tag := 0, iova := 0 }

/-- The notice cleared in the same way (R120, R121). -/
def SlcCap.clearNote (p : SlcCap) : SlcCap :=
  (p.recent.filter (·.posted)).foldl (fun q v => q.note v.iova) { p with nValid := false, nCount := 0, nPage := 0 }

/-- The violations of epochs up to n are glazed. -/
def SlcCap.seen (n : Nat) (p : SlcCap) : SlcCap := { p with recent := p.recent.filter (fun v => decide (n < v.epoch)) }

/-! ### Whom a ring pair serves -/

/-- The ring pair is in service: started and enabled, its slice and port enabled (R78, R86). -/
def Core.ringLive (c : Core) (port r : Nat) : Bool :=
  c.created port && (c.port port).enable && !(c.port port).resetting && (c.ringOf r).enable && (c.cc.pos r).started &&
    (match c.ringSlice port r with
     | some s => (c.slice s).enable
     | none => false)

/-- Doorbells of the ring pair are applied (R86): in service, in a mode in which ring pairs are. -/
def Core.doorbellLive (c : Core) (port r : Nat) : Bool :=
  c.ringLive port r && (c.serving || c.quiesced || c.halted)

/-- The admission unit may fetch from the ring pair: R32, R41, R48, R102 to R105, R391, R449. -/
def Core.fetchAllowed (c : Core) (port r : Nat) : Bool :=
  c.ringLive port r && (c.serving || c.halted) && !(c.cc.faults.getD port {}).on && c.g.lcTarget.isNone
    && c.pwr.losing == 0 && c.cont.holder.isSome && c.cont.revoked.isNone

/-! ### In flight -/

/-- A task is in flight: admitted, and its completion neither written nor discarded (R93). -/
def Task.inFlight (t : Task) : Bool := t.st != .fetching && !t.dropped

/-- Tasks in flight that satisfy p. -/
def CC.count (s : CC) (p : Task → Bool) : Nat := (s.tasks.filter (fun e => e.2.inFlight && p e.2)).length

/-- Quota units of a port in use (R91): from the reservation on. -/
def CC.quotaUsed (s : CC) (port : Nat) : Nat := (s.tasks.filter (fun e => e.2.port == port && !e.2.dropped)).length

/-- Credits of a port in use (R92). -/
def CC.creditsUsed (s : CC) (port : Nat) : Nat :=
  (s.tasks.filter (fun e => e.2.port == port)).foldl (fun a e => a + e.2.credits) 0

/-- Records of a cluster in use (R24). -/
def CC.recordsUsed (s : CC) (k : Nat) : Nat := (s.tasks.filter (fun e => e.2.hasRecord && e.2.cluster == k)).length

/-- No task of the unit is in flight. -/
def CC.idle (s : CC) : Bool := s.count (fun _ => true) == 0

/-- PORT_STATUS.DRAINED (R107). -/
def Core.portDrained (c : Core) (s : CC) (n : Nat) : Bool := !(c.port n).enable && s.count (·.port == n) == 0
/-- SLC_STATUS.DRAINED (R109). -/
def Core.slcDrained (c : Core) (s : CC) (n : Nat) : Bool := !(c.slice n).enable && s.count (·.slice == n) == 0
/-- RING_CTRL.DRAINED (R77). -/
def Core.ringDrained (c : Core) (s : CC) (r : Nat) : Bool := !(c.ringOf r).enable && s.count (·.ring == r) == 0

/-! ### Engines -/

/-- Key of an engine in the tables: 256 × class + number. -/
def engKey (cls n : Nat) : Nat := cls * 256 + n

/-- Removes a task's jobs from the prefetch slots and, where p holds of the step, from running. -/
def Engs.drop (e : Engs) (tid : Nat) (p : Nat → Bool) : Engs :=
  { e with jobs := e.jobs.map (fun x => (x.1,
      { x.2 with run := x.2.run.filter (fun j => !(j.tid == tid && p j.step)), pre := x.2.pre.filter (fun j => j.tid != tid) })) }

/-- Starts the prefetched step of every engine that runs none, a unit of the prime search counting as one (R162, R327). -/
def Engs.kick (e : Engs) : Engs :=
  { e with jobs := e.jobs.map (fun x => if x.2.run.isNone && !x.2.search then (x.1, { x.2 with run := x.2.pre, pre := none }) else x) }

/-- The steps of a task that stand in prefetch slots. -/
def Engs.prefetched (e : Engs) (tid : Nat) : List Nat :=
  (e.jobs.filterMap (fun x => x.2.pre)).filterMap (fun j => if j.tid == tid then some j.step else none)

/-! ### Retirement and completion -/

/-- A fenced task's FENCE_CLEAR is set once every earlier task of its ring pair has retired (R95, R154). -/
def CC.fence (s : CC) : CC :=
  { s with tasks := s.tasks.map (fun e =>
      if e.2.fenced && !bit 6 e.2.flags && e.2.st != .fetching &&
          !(s.tasks.any (fun o => o.2.ring == e.2.ring && o.2.port == e.2.port && o.2.st != .retired && o.2.st != .fetching
              && earlierSeq o.2.seq e.2.seq))
      then (e.1, { e.2 with flags := setFlag 6 e.2.flags }.skipAll) else e) }

/-- The destination extent of a task (R389): destination need of its recipe, output for PK_DIRECT, destination length for BULK. -/
def recipeNeed (im : Bytes) (srcLen : Nat) : Nat :=
  (imgStepList im).foldl (fun a s => if s.op = 0x90 then max a (s.arg + (if s.len = 0 then srcLen else s.len)) else a) 0

/-- Ranges of an extent of n bytes that no listed range (offset, length) covers, as single bytes joined into runs. -/
def uncovered (n : Nat) (l : List (Nat × Nat)) : List (Nat × Nat) :=
  let sorted := l.mergeSort (fun a b => decide (a.1 ≤ b.1))
  let r := sorted.foldl (fun (acc : Nat × List (Nat × Nat)) x =>
    (max acc.1 (x.1 + x.2), if x.1 > acc.1 then acc.2 ++ [(acc.1, x.1 - acc.1)] else acc.2)) (0, [])
  if r.1 < n then r.2 ++ [(r.1, n - r.1)] else r.2

/-- Destination pieces for bytes at an offset of the destination range. -/
def Task.mkPieces (t : Task) (xfer off : Nat) (d : Bytes) (zero : Bool) : List Piece :=
  (splitPieces ((t.dstIova + off) % 2 ^ 64) d.length).foldl
    (fun (acc : Nat × List Piece) p => (acc.1 + p.2, acc.2 ++ [{ iova := p.1, data := cut acc.1 p.2 d, zero := zero, xfer := xfer }])) (0, []) |>.2

/-- Hands bytes to destination staging at an offset (R192). Each EMIT step of a recipe is a transfer of its own; a transfer that has stopped takes no more pieces (R115), nor does a task of a reset port (R63). -/
def Task.stagePieces (t : Task) (off : Nat) (d : Bytes) : Task :=
  let x := if t.opclass = clsRecipe then t.cover.length else 0
  { t with
    pieces := if t.gone || t.badXfer.contains x then t.pieces else t.pieces ++ t.mkPieces x off d false
    cover := t.cover ++ [(off, d.length)]
    emitted := t.emitted + d.length }

/-- Zero pieces over a run of the destination range, a transfer of their own. -/
def Task.zeroRun (t : Task) (r : Nat × Nat) : List Piece := t.mkPieces (1000 + r.1) r.1 (zeros r.2) true

/-- Pieces of one transfer are written in increasing IOVA order (R115). -/
def Task.sortPieces (t : Task) : Task :=
  let data := t.pieces.filter (fun p => !p.zero)
  { t with pieces := data ++ t.pieces.filter (·.zero) }

/-- The extent of R389 for a task. -/
def Task.extent (t : Task) : Nat :=
  if t.opclass = clsRecipe then min t.dstLen (recipeNeed t.image t.srcLen)
  else if t.opclass = clsBulk then t.dstLen
  else if t.opclass = clsPk then
    (match t.opcode with
     | 0x403 => 32
     | 0x404 => 1120
     | 0x405 => bits 31 16 t.param
     | 0x406 => bits 31 16 t.param
     | 0x400 => min t.dstLen (t.outLen.getD t.emitted)
     | 0x402 => min t.dstLen (t.outLen.getD t.emitted)
     | _ => t.emitted)
  else 0

/-- Zeros over every byte of a suspect task's extent that its re-run has not written (R389). -/
def Task.zeroExtent (t : Task) : Task :=
  if t.suspect then
    { t with pieces := t.pieces ++ ((uncovered t.extent t.cover).map t.zeroRun).flatten }
  else t

/-- RESULT0 and RESULT1 of a recipe task at retirement (R178, R187, R191). -/
def Task.resultWord (t : Task) (r0 : Bool) : Nat :=
  let h := if r0 then imgRes0 t.image else imgRes1 t.image
  if bit 15 h then leNat (t.rd (bits 8 0 h) 8) else if r0 then bits 31 0 t.outcome else t.emitted

/-- Fixes the result words at retirement: those of a recipe task are read from the trays or formed, whatever its status, where nothing else has fixed them (R191). -/
def Task.fixResults (t : Task) : Task :=
  if t.opclass = clsRecipe then
    { t with res0 := some (t.res0.getD (t.resultWord true)), res1 := some (t.res1.getD (t.resultWord false)) }
  else { t with res0 := some (t.res0.getD 0), res1 := some (t.res1.getD 0) }

/-- A STRICT destination write that failed replaces an outcome status and the result words, once no piece is left to check (R118). -/
def Task.fixStrict (t : Task) : Task :=
  match t.strictFail with
  | some (cause, a) =>
    if t.pieces.isEmpty && (t.status == Status.ok || t.status == Status.okLate || t.status == Status.verifyFail) then
      { t with status := Status.windowViolation, detail := 0x30 + cause, res0 := some a, res1 := some t.issued }
    else t
  | none => t

/-- What a task that retires still stages: nothing for a port that has been reset (R63), and zeros over the rest of its extent for a suspect one (R389). -/
def Task.lastPieces (t : Task) : Task := if t.gone then { t with pieces := [] } else t.zeroExtent.sortPieces

/-- The task enters RETIRED at a device time (R166, R167): result words fixed, lateness decided, trays, work area and contexts cleared, record released; no step of it runs on. A STRICT completion waits for its pieces (R118). -/
def Task.retireAt (t : Task) (now : W48) (no epoch : Nat) : Task :=
  let t := t.fixResults.lastPieces
  let lt := later now t.deadline
  { t with st := .retired, lateFlag := lt, retireTime := now, retireNo := no,
           status := if lt && t.status == Status.ok then Status.okLate else t.status,
           trays := [], work := [], rnd := [], draws := [], expand := [], ctxs := [], results := [], chain := [], tag1 := [], tagIn := [], aadAcc := [], plain := [], out := if t.port = 4 then t.out else [], hasRecord := false, disp := t.done,
           credits := if t.pieces.isEmpty then 0 else t.credits,
           staged := if t.strict && !t.pieces.isEmpty then none else some epoch }.fixStrict

/-- Void, orphaned or expired slots that lose their last pin come to the end of the queue of R252. -/
def KeyTree.unpin (k : KeyTree) (nodes : List Nat) (pinned : Nat → Bool) : KeyTree :=
  nodes.foldl (fun k n =>
    match Table.find n k.slots with
    | some s => if s.state != .live && s.swept && !pinned n then
        { k with slots := Table.put n { s with ord := k.nextOrd } k.slots, nextOrd := k.nextOrd + 1 } else k
    | none => k) k

/-- Some task in flight holds a context of the node (R249). -/
def CC.pins (s : CC) (n : Nat) : Bool := s.tasks.any (fun e => e.2.ctxs.any (fun x => x.2.isNode && x.2.index == n))

/-- The nodes whose contexts tasks hold. -/
def ctxNodes (l : Table Task) : List Nat := (l.map (fun e => (e.2.ctxs.filter (fun x => x.2.isNode)).map (fun x => x.2.index))).flatten

/-- Slots whose last pin went with contexts that tasks of an earlier state held wait from now on (R252). -/
def CC.unpinFrom (s : CC) (before : Table Task) : CC :=
  { s with kt := s.kt.unpin ((ctxNodes before).eraseDups.filter (fun n => !s.pins n)) s.pins }

/-- A task in flight holds a context of the node in a half's resolver (R249). -/
def CC.pinsIn (s : CC) (half n gen : Nat) : Bool :=
  s.tasks.any (fun e => e.2.ctxs.any (fun x => x.2.isNode && x.2.half == half && x.2.index == n && x.2.gen == gen))

/-- Retires a task (R167): its completion is placed in its staging slot, recorded in the current epoch. -/
def Core.retire (c : Core) (tid : Nat) : Core :=
  match c.task tid with
  | none => c
  | some t =>
    if t.st == .retired then c else
    let nodes := (t.ctxs.filter (fun x => x.2.isNode)).map (fun x => x.2.index)
    let t' := t.retireAt c.now c.cc.retireNo c.cc.epoch
    let c := { c with eng := (c.eng.drop tid (fun _ => true)).kick }
    let c := if t'.lateFlag then { c with r := { c.r with late := sat 48 (c.r.late + 1) } } else c
    c.updCC (fun s =>
      let s := { s.updTask tid (fun _ => t') with retireNo := s.retireNo + 1 }
      let s := { s with kt := s.kt.unpin nodes s.pins }
      s.fence)

/-- A core runs an expansion for the task (R333). -/
def Task.expanding (t : Task) : Bool := t.expand.any (fun e => e.2.2 == 1)

/-- The task may retire: every step has completed or been skipped, or it is ENDING and none of its steps runs (R167); a fenced task not before every earlier task of its ring pair (R95). -/
def Task.retirable (t : Task) : Bool :=
  (!t.fenced || bit 6 t.flags) && !t.expanding && ((t.st == .ending && t.runningSteps.isEmpty) || ((t.st == .running || t.st == .admitted) && t.steps != 0 && t.allDone))

/-- Retires the task if it may. -/
def Core.tryRetire (c : Core) (tid : Nat) : Core :=
  match c.task tid with
  | some t => if t.retirable then c.retire tid else c
  | none => c

/-- Ends a task early (R158): the first status is kept, its ready and prefetched steps are removed, and it retires once none of its steps runs. What a task without a recipe has staged is not written where an engine has failed it (R471). -/
def Core.endEarly (c : Core) (tid status detail : Nat) : Core :=
  match c.task tid with
  | none => c
  | some t =>
    if t.st != .admitted && t.st != .running && t.st != .fetching && t.st != .committing then c
    else
      let pre := c.eng.prefetched tid
      let disp := pre.foldl (fun d k => d &&& ((2 ^ 32 - 1) ^^^ 2 ^ k)) t.disp
      let c := { c with eng := c.eng.drop tid (fun _ => false) }
      (c.updTask tid (fun t => { t with st := .ending, expand := t.expand.filter (fun e => e.2.2 == 1 && !pre.contains (64 + e.1)), status := status, detail := detail, disp := if t.opclass = clsBulk then (if pre.isEmpty then t.disp else 0) else disp, pieces := if t.opclass ≠ clsRecipe ∧ (status = Status.internal ∨ status = Status.engineAbsent) then [] else t.pieces })).tryRetire tid

/-- The bytes of an operation without steps go to its destination, or into the response of a CPATH request (port 4, R286). -/
def Task.deliver (t : Task) (data : Bytes) : Task :=
  if data.isEmpty then t else if t.port = 4 then { t with out := data } else t.stagePieces 0 data

/-- Completes an operation that has no steps: status, DETAIL, result words and the bytes for its destination. -/
def Core.finish (c : Core) (tid status detail res0 res1 : Nat) (data : Bytes) : Core :=
  (c.updTask tid (fun t =>
    ({ t with status := status, detail := detail, res0 := some res0, res1 := some res1, st := .ending } : Task).deliver data)).tryRetire tid

/-- Refuses an operation: status and DETAIL, nothing written. -/
def Core.refuse (c : Core) (tid status detail : Nat) : Core := c.finish tid status detail 0 0 []

/-- The completion entry (R83). -/
def Task.completion (t : Task) (phase : Bool) : Bytes :=
  leBytes 8 (t.tag + 2 ^ 32 * t.status + 2 ^ 40 * t.detail + 2 ^ 63 * b2n phase)
    ++ leBytes 8 (t.retireTime.toNat + 2 ^ 48 * b2n t.lateFlag)
    ++ leBytes 8 (t.res0.getD 0)
    ++ leBytes 8 (if t.status = Status.aborted then t.zeroed else t.res1.getD 0)

/-- The task is a recipe task in flight that uses a slot of the library (R173). -/
def Task.usesRecipe (t : Task) (slot : Nat) : Bool := t.inFlight && t.opclass == clsRecipe && t.slot == slot && !t.image.isEmpty

/-- A recipe slot that is RETIRING becomes EMPTY when no task in flight uses it (R173). -/
def CC.emptySlots (s : CC) : CC :=
  { s with lib := s.lib.filter (fun e => !e.2.retiring || s.tasks.any (fun t => t.2.usesRecipe e.1)) }

/-- The first free key above the staging slots, for destination writes whose task has left flight. -/
def looseKey (ts : Table Task) : Nat := max (2 ^ 20) (ts.foldl (fun a e => max a (e.1 + 1)) 0)

/-- A task leaves flight: staging slot and quota unit are released (R93). Destination writes that still wait in staging keep their credits until they have left. -/
def CC.leave (s : CC) (tid : Nat) : CC :=
  let rest := Table.del tid s.tasks
  let kept := match s.task tid with
    | some t => if t.pieces.isEmpty then rest else Table.put (looseKey rest) { t with dropped := true, staged := none } rest
    | none => rest
  ({ s with tasks := kept } : CC).emptySlots

/-- Discards a task's completion and counts it in its ring pair's DISCARDED (R103). -/
def CC.discard (s : CC) (tid : Nat) : CC :=
  match s.task tid with
  | none => s
  | some t => (s.updPos t.ring (fun p => { p with discarded := sat 24 (p.discarded + 1) })).leave tid

/-- Discards every staged completion of the tasks that satisfy p. -/
def CC.discardWhere (s : CC) (p : Task → Bool) : CC :=
  (s.tasks.filter (fun e => e.2.staged.isSome && p e.2)).foldl (fun s e => s.discard e.1) s

/-! ### Aborts (R336, R337) -/

/-- The task has a big-number step that has not completed: running, ready or waiting on its flags; of a task that has ended early only a running one is left (R336). -/
def Task.hasBn (t : Task) : Bool :=
  ((t.st == .admitted || t.st == .running) && (List.range t.steps).any (fun k => t.stepClass k == some 3 && !bit k t.done))
    || (t.st == .ending && t.runningSteps.any (fun k => t.stepClass k == some 3))

/-- An abort takes every task that satisfies p and has an uncompleted big-number step: it dispatches no further step, and no expansion of a key goes on for it (R336). -/
def CC.abort (s : CC) (p : Task → Bool) (cause : Nat) : CC :=
  s.mapTasks (fun t => p t && t.hasBn) (fun t => { t with st := .aborting, abortCause := cause, expand := [] })

/-- The abort reaches the dispatcher: the steps of the tasks taken leave the prefetch slots; a core that runs one takes no other step before it has been zeroed (R336). -/
def Core.abort (c : Core) (p : Task → Bool) (cause : Nat) : Core :=
  let taken := c.cc.tasks.filter (fun e => p e.2 && e.2.hasBn)
  let eng := taken.foldl (fun e x => e.drop x.1 (fun _ => false)) c.eng
  let c := { c with eng := eng, r := { c.r with pkeAborts := sat 24 (c.r.pkeAborts + taken.length) } }
  c.allCC (fun s => s.abort p cause)

/-! ### Starting ring pairs and slices (R78, R110) -/

/-- Starts a ring pair (R78); R99 disarms it and restarts its count. An entry that its former run was fetching is dropped with its reservation. -/
def Core.startRing (c : Core) (r : Nat) : Core :=
  (c.updRing r (fun g => { g with armedAt := none, since := 0 })).allCC
    (fun s => (s.dropFetch (·.ring == r)).updPos r (fun _ => { started := true }))

/-- The ring pairs of a port that are bound to a unit-wide slice and enabled. -/
def Core.sliceRings (c : Core) (port s : Nat) : List Nat :=
  (c.ringsOf port).filter (fun r => (c.ringOf r).enable && c.ringSlice port r == some s)

/-- Starts a slice (R110): clears its captures and mailbox, fixes its home page, starts its enabled ring pairs. -/
def Core.startSlice (c : Core) (port s : Nat) : Core :=
  let rings := c.sliceRings port s
  let c := c.updSlice s (fun x => { x with
      mbx := List.replicate 4 {}, tPosts := 0, mPosts := 0, dropped := 0, posted := false,
      released := false, home := rings.head?, locked := true, started := true })
  let c := c.allCC (fun cc => cc.updCap s (fun _ => {}))
  rings.foldl (fun c r => c.startRing r) c

/-- Starts every enabled slice of a port, and clears its fault (R106). -/
def Core.startPort (c : Core) (port : Nat) : Core :=
  let c := c.allCC (fun s => { s with faults := upd port (fun _ => {}) s.faults })
  let c := c.updPort port (fun p => { p with enable := true, locked := true })
  ((c.slicesOf port).filter (fun s => (c.slice s).enable)).foldl (fun c s => c.startSlice port s) c

/-! ### SAFE_HALT and erasure -/

/-- Accepted and not yet carried out: a firmware activation or a life-cycle request (R35). -/
def Task.overtaken (t : Task) : Bool :=
  t.st == .committing && t.opclass == clsCustody && (t.opcode == 0x331 || t.opcode == 0x340)

/-- A task in flight at the entry to SAFE_HALT or ZEROIZED completes with SAFE_HALT (R49), one whose completion is staged and not yet written included (R93; DEDUCED, log entry 22), and an overtaken acceptance with MODE_REFUSED (R35). Its destination stays as it stands. A fetch under way keeps only its staging slot and quota unit (R91). -/
def Task.halt (t : Task) (mode group : Nat) (now : W48) (no epoch : Nat) : Task :=
  if t.st == .fetching then { t with hasRecord := false, credits := 0 }
  else
    let u := { t with status := if t.overtaken then Status.modeRefused else Status.safeHalt, detail := if t.overtaken then mode else group, res0 := some 0, res1 := some 0, suspect := false, pieces := [], strictFail := none }
    if t.st == .retired then { u with credits := 0, staged := some epoch } else u.retireAt now no epoch

/-- Every task in flight is halted; what is left of tasks that have left flight is not written (R49). -/
def CC.haltTasks (s : CC) (p : Task → Bool) (mode group : Nat) (now : W48) : CC :=
  ({ s with
    tasks := (s.tasks.filter (fun e => !e.2.dropped)).map (fun e => if p e.2 then (e.1, e.2.halt mode group now s.retireNo s.epoch) else e)
    retireNo := s.retireNo + 1 } : CC).unpinFrom s.tasks

/-- Tasks that p takes and that retire late at a device time (R167). -/
def CC.lateNow (s : CC) (p : Task → Bool) (now : W48) : Nat :=
  (s.tasks.filter (fun e => p e.2 && e.2.inFlight && e.2.st != .retired && later now e.2.deadline)).length

/-- Halts the tasks that p takes, counting those that are late (R49, R167). -/
def Core.haltTasks (c : Core) (p : Task → Bool) : Core :=
  let n := c.cc.lateNow p c.now
  ({ c with r := { c.r with late := sat 48 (c.r.late + n) } } : Core).updCC (·.haltTasks p c.g.mode.code c.g.haltGroup c.now)

/-- Every engine stops, trays and scratch are cleared, and every task in flight completes with SAFE_HALT (R49). -/
def Core.haltWork (c : Core) : Core :=
  let c := { c with eng := { c.eng with jobs := [] }, siv := { c.siv with commit := none, next := none, mirrorOpen := false } }
  (c.haltTasks (fun _ => true)).updCC (fun s =>
    ({ s with ktCommits := s.ktCommits.map (fun k => { k with tid := none }) } : CC).emptySlots)

/-- A task as a record carries it (R25, R27): trays, work area, resolved keys and step results stay in the cluster. The bytes of an operation whose commit is under way, and those of a CPATH request, are part of what is glazed (R280, R286). -/
def Task.carried (t : Task) : Task :=
  let kept := t.st == .committing || t.port == 4
  { t with trays := [], ctxs := [], results := [], rnd := [], draws := [], expand := [], tag1 := [], tagIn := [], aadAcc := [], plain := [], work := if kept then t.work else [], chain := if kept then t.chain else [], out := if t.port == 4 then t.out else [] }

/-- DRBG state and seed pools are zeroed and the instances stop (R349). -/
def Ent.wipe (e : Ent) : Ent := { e with pools := [[], []], drbg := List.replicate 8 {}, run := false }

/-- What every entry to SAFE_HALT, ZEROIZED and TRANSIT does to the enables (R35). -/
def Core.clearEnables (c : Core) : Core :=
  { c with g := { c.g with enable := false, checks := [], lcTarget := none, phase := .configuring, recovery := none, recover := false } }

/-- State of complex i once an UPDATE is left: the one on trial keeps mirroring on the image it was on, or restarts on it; the other, which has surrendered the Lozenge, runs its self-test (R47, R390). -/
def Update.leave (u : Update) (i : Nat) (s : CxSt) : CxSt :=
  if s != .updating then s else if i = u.trial ∧ u.second = false then .standby else .testing

/-- An UPDATE that is left. -/
def Cont.leaveUpdate (k : Cont) : Cont :=
  match k.update with
  | none => k
  | some u => { k with update := none, cx := k.cx.zipIdx.map (fun e => u.leave e.2 e.1) }

/-- WAKE ends, whatever mode follows: source 162 tells of a CLOSED that the transition before it has burnt (R445). -/
def Core.tellClosed (c : Core) : Core :=
  if c.g.mode == .wake && c.lcs.closedNow then ({ c with lcs := { c.lcs with closedNow := false } } : Core).pulseAll 162 else c

/-- Leaves an UPDATE for a halt: it has ended reverted, which source 16 tells (R47, R402). -/
def Core.dropUpdate (c : Core) : Core :=
  let c' := { c with cont := c.cont.leaveUpdate }
  if c.cont.update.isSome then c'.pulseAll 16 else c'

/-- Enters SAFE_HALT (R37, R49). An entry while already there changes nothing (R39, R412). -/
def Core.enterSafeHalt (c : Core) (cause group : Nat) : Core :=
  if c.halted || c.g.mode == .retain then c
  else
    let c := { c with g := { c.g with haltFromWake := c.g.mode == Mode.wake, haltCause := cause, haltGroup := group } }
    let c := (c.tellClosed.clearEnables.setMode .safeHalt).haltWork.dropUpdate
    { c with ent := c.ent.wipe }

/-- The crowbar has destroyed the SWK (R411). -/
def Core.eraseSwk (c : Core) : Core := { c with batt := { c.batt with swk := none } }

/-- The DRAM key is zeroed, and with it goes what DRAM held: the working image, the library and the Sieve staging image (R27, R411). -/
def Core.eraseDram (c : Core) : Core :=
  let wipe (s : CC) : CC := { s with kt := {}, lib := [], ktCommits := [], libCommits := [], stage := none }
  { (c.allCC wipe) with g := { c.g with dramKey := none }, flash := { c.flash with libLost := true } }

/-- Hot contexts, trays, work areas, engine scratch and operand memories, DRBG state, component sessions and the prime reserve are zeroed (R411). -/
def Core.eraseVolatile (c : Core) : Core :=
  let wipe (s : CC) : CC := { s with tasks := s.tasks.map (fun e => (e.1, e.2.carried)), cust := { s.cust with sessions := [] } }
  { (c.allCC wipe) with
    eng := { c.eng with hot := [[], [], [], []], routes := List.replicate 8 [], jobs := [] }
    ent := c.ent.wipe
    r := { c.r with primes := [[], [], [], []] } }

/-- The effects of ERASE on the dies, all of them (R411). -/
def Core.eraseSecrets (c : Core) : Core := c.eraseSwk.eraseDram.eraseVolatile

/-- Enters ZEROIZED (R52). -/
def Core.enterZeroized (c : Core) (group : Nat) : Core :=
  if c.g.mode == .zeroized || c.g.mode == .retain then c
  else
    let c := { c with g := { c.g with haltGroup := group, haltFromWake := false } }
    (c.tellClosed.clearEnables.setMode .zeroized).haltWork.dropUpdate

/-! ### Port faults and port resets -/

/-- A port enters PORT_FAULT (R105): only the first fault is recorded. -/
def Core.portFault (c : Core) (port code ring : Nat) : Core :=
  if (c.cc.faults.getD port {}).on then c
  else
    let c := c.updCC (fun s => { s with faults := upd port (fun _ => { on := true, code := code, ring := ring }) s.faults })
    (c.edge (2 ^ port) 65).log 1 (port * 2 ^ 16 + code)

/-- A port reset (R63): fetching and DMA stop, big-number tasks are aborted without zeroing, the others run on to retirement, and every completion of the port is discarded and counted. -/
def Core.resetPort (c : Core) (port : Nat) : Core :=
  let fetching := c.cc.tasks.filter (fun e => e.2.port == port && e.2.st == .fetching)
  let c := c.abort (·.port == port) 6
  let c := c.allCC (fun s => fetching.foldl (fun (s : CC) e => { s with tasks := Table.del e.1 s.tasks }) s)
  let staged := (c.cc.tasks.filter (fun e => e.2.port == port && e.2.st == .retired && !e.2.dropped)).map (·.1)
  let c := c.updPort port (fun p => { p with discarded := sat 32 (p.discarded + staged.length) })
  let c := c.allCC (fun s =>
    let s := s.mapTasks (·.port == port) (fun t => { t with pieces := [], cover := [], gone := true })
    (staged.foldl (fun s t => s.leave t) s).dropTasks (fun t => t.port == port && t.dropped))
  let slices := c.slicesOf port
  let rings := c.ringsOf port
  let stageGone (s : CC) : CC := match s.stage with
    | some st => if st.owner = port then { s with stage := none } else s
    | none => s
  let hadStage := match c.cc.stage with
    | some st => decide (st.owner = port)
    | none => false
  let c := c.allCC (fun s =>
    { stageGone s with
      caps := s.caps.filter (fun e => !slices.contains e.1)
      rings := s.rings.filter (fun e => !(decide ((c.port port).ringBase ≤ e.1) && decide (e.1 < (c.port port).ringBase + (c.port port).ringCount)))
      faults := upd port (fun _ => {}) s.faults
      edges := s.edges.map (fun e => (e.1, e.2.1 &&& (15 ^^^ 2 ^ port), e.2.2)) })
  let c := if hadStage then c.pulseAll 99 else c
  let cancelGlobal := c.g.checks.any (fun k => k.kind == 0) && c.created port
  let c := { c with
    slc := c.slc.filter (fun e => !slices.contains e.1)
    ring := c.ring.filter (fun e => !rings.contains e.1)
    g := { c.g with checks := c.g.checks.filter (fun k => !(k.kind != 0 && k.port == port) && !(k.kind == 0 && cancelGlobal)),
                    reason := if cancelGlobal then 0 else c.g.reason } }
  let c := c.updPort port (fun p =>
    { p with enable := false, abort := false, locked := false, reason := 0, slack := 2000, errCount := 0, errOffset := 0, errBar := 0,
             resets := (p.resets + 1) % 2 ^ 16, msixEnable := false, funcMask := false, msix := List.replicate 16 {},
             ats := false, relaxed := false, translations := [], maxPayload := 128, maxRead := 512, cplTimeout := 0, tags10 := false,
             ecrcGen := false, ecrcCheck := false, aspmL1 := false, l1Substates := 0, aerLog := none, msgs := [],
             d3 := false, resetting := true })
  c.addFx (.evcReset port)

end Sys2Proof.Machine
end

