-- ==== Sys2Proof/Machine/Events.lean ====
section
/-! DEFINITION. The event controllers (R132 to R148): pending, enable and active bits, levels, the priority stack, message requests, and the masking window of R144. -/

namespace Sys2Proof.Machine

/-- Level of a source (R138). -/
def Evc.level (e : Evc) (s : Nat) : Nat := Table.findD s 0 e.prio

/-- The running level: none is idle (R136). -/
def Evc.running (e : Evc) : Option Nat := (e.stack.head?).map (·.level)

/-- A level lies above the running level. -/
def Evc.above (e : Evc) (l : Nat) : Bool :=
  match e.running with
  | none => true
  | some r => decide (r < l)

/-- Deliverable (R136); a source that is active becomes so only after its end of interrupt, whatever its priority has become (R143). -/
def Evc.deliverable (e : Evc) (s : Nat) : Bool :=
  e.pend.testBit s && e.enable.testBit s && !e.active.testBit s && e.above (e.level s)

/-- The better of two sources: higher level, then lower number (R138). -/
def Evc.better (e : Evc) (a b : Nat) : Nat := if e.level b > e.level a then b else a

/-- The highest-ranked of a list of sources in rising order. -/
def Evc.rankTop (e : Evc) : List Nat → Option Nat
  | [] => none
  | s :: r =>
    match e.rankTop r with
    | none => some s
    | some b => some (e.better s b)

/-- The highest-ranked deliverable source. -/
def Evc.top (e : Evc) : Option Nat := e.rankTop (((List.range 256).drop 1).filter e.deliverable)

/-- Levels signal again: the highest level with a deliverable source, and one message request when it has become signaling (R139). -/
def Evc.resignal (e : Evc) : Evc :=
  let now := if e.hold then none else e.top.map e.level
  match now with
  | none => { e with sig := none }
  | some l => if e.sig = some l then e else { e with sig := some l, req := e.req ||| 2 ^ l }

/-- A rising edge (R134). -/
def Evc.edge (e : Evc) (s : Nat) : Evc :=
  if s = 0 ∨ 256 ≤ s then e else ({ e with pend := e.pend ||| 2 ^ s } : Evc).resignal

/-- Bits of a mask cleared. -/
def clearBits (m v : Nat) : Nat := m &&& ((2 ^ 256 - 1) ^^^ v)

/-- The claim of a source (R140): returns its entry of the stack. -/
def Evc.take (e : Evc) (s : Nat) : Evc :=
  ({ e with
     pend := clearBits e.pend (2 ^ s)
     active := e.active ||| 2 ^ s
     stack := { source := s, level := e.level s, saved := e.running } :: e.stack
     settling := Table.del s e.settling } : Evc).resignal

/-- The value of EVC_CLAIM for a claimed source, after the claim (R148). -/
def Evc.claimValue (e : Evc) (s : Nat) : Nat := s + 2 ^ 8 * e.level s + 2 ^ 16 * e.stack.length

/-- Removes the entry of a source that is not the most recent claim: the level saved at its claim passes to the next later claim (R142). -/
def dropEntry (s : Nat) : List StackEnt → List StackEnt
  | [] => []
  | [x] => if x.source = s then [] else [x]
  | x :: y :: r =>
    if y.source = s then { x with saved := y.saved } :: r
    else x :: dropEntry s (y :: r)

/-- End of interrupt (R142). -/
def Evc.eoi (e : Evc) (s : Nat) : Evc :=
  if s = 0 ∨ !e.active.testBit s then
    { e with strayCount := sat 32 (e.strayCount + 1), strayLast := s }
  else
    let stack := match e.stack with
      | [] => []
      | x :: r => if x.source = s then r else dropEntry s (x :: r)
    ({ e with active := clearBits e.active (2 ^ s), stack := stack } : Evc).resignal

/-- The sources of register k of a 48-source bank that exist: 0 is reserved, and so are those above 255. -/
def bankMask (k : Nat) : Nat := if k = 0 then 2 ^ 48 - 2 else if k = 5 then 2 ^ 16 - 1 else 2 ^ 48 - 1

/-- A W1C write of EVC_PEND_k (R134). -/
def Evc.pendWrite (e : Evc) (k v : Nat) : Evc :=
  ({ e with pend := clearBits e.pend (((v % 2 ^ 48) &&& bankMask k) * 2 ^ (48 * k)) } : Evc).resignal

/-- A write of EVC_ENABLE_k at a device time (R144): a source masked while deliverable may still be returned once for 250 ns. -/
def Evc.enableWrite (e : Evc) (k v : Nat) (now : W48) : Evc :=
  let nb := (v % 2 ^ 48) &&& bankMask k
  let en := (clearBits e.enable ((2 ^ 48 - 1) * 2 ^ (48 * k))) ||| nb * 2 ^ (48 * k)
  let masked := ((List.range 48).map (48 * k + ·)).filter (fun s => e.deliverable s && !en.testBit s)
  let kept := e.settling.filter (fun x => !en.testBit x.1)
  ({ e with enable := en, settling := masked.foldl (fun t s => Table.put s (now + 25) t) kept } : Evc).resignal

/-- A write of EVC_PRIO_j (R143). -/
def Evc.prioWrite (e : Evc) (j v : Nat) : Evc :=
  let srcs := (List.range 12).filter (fun i => decide (1 ≤ 12 * j + i) && decide (12 * j + i ≤ 255))
  ({ e with prio := srcs.foldl (fun t i => Table.putD (12 * j + i) (bits (4 * i + 3) (4 * i) v) 0 t) e.prio } : Evc).resignal

/-- A write of EVC_HOLD (R145). -/
def Evc.holdWrite (e : Evc) (v : Nat) : Evc := ({ e with hold := v.testBit 0 } : Evc).resignal

/-- Masked sources that a claim may still return at a device time: pending, above the running level, within their 250 ns (R144). -/
def Evc.lingering (e : Evc) (now : W48) : List Nat :=
  (e.settling.filter (fun x => later x.2 now && e.pend.testBit x.1 && !e.active.testBit x.1 && e.above (e.level x.1))).map (·.1)

/-- What a claim returns at a device time: the top of the deliverable sources and of the lingering ones that the race lets through. -/
def Evc.claimPick (e : Evc) (now : W48) (race : Nat → Bool) : Option Nat :=
  let l := (e.lingering now).filter race
  e.rankTop (((List.range 256).drop 1).filter (fun s => e.deliverable s || l.contains s))

/-- Changes the controller of a port. -/
def State.updEvc (s : State) (port : Nat) (f : Evc → Evc) : State := { s with evc := upd port f s.evc }

/-- The controller of a port. -/
def State.evcOf (s : State) (port : Nat) : Evc := s.evc.getD port {}

/-- Brings a link back to L0 that has left it: an edge caught meanwhile has made a level deliverable (R135). -/
def State.wakeLink (s : State) (port : Nat) : State :=
  if (s.core.port port).link == .low then { s with core := s.core.updPort port (fun p => { p with link := .l0 }) } else s

/-- An edge on the controller of a port, and what it does to the port's link (R134, R135): it wakes the link where its source can then be delivered, also where it could before, and not while HOLD is 1; R135 says neither (DESIGN CHOICE, log entry 99). -/
def State.edgeOn (s : State) (source port : Nat) : State :=
  let s := s.updEvc port (·.edge source)
  if (s.evcOf port).deliverable source && !(s.evcOf port).hold then s.wakeLink port else s

/-- An edge on every port of a mask. -/
def State.edges (s : State) (mask source : Nat) : State := (setBits 4 mask).foldl (fun s n => s.edgeOn source n) s

/-- Hands one effect of the dies to the I/O die. -/
def State.applyFx (s : State) (f : Fx) : State :=
  match f with
  | .pulse m src => s.edges m src
  | .evcReset n => s.updEvc n (fun _ => {})
  | .out o => { s with out := s.out ++ [o] }

end Sys2Proof.Machine
end

