-- ==== Sys2Proof/Machine/LifeState.lean ====
section
/-! DEFINITION. What the OTP says of the life cycle: the decoded word, progress words, state, coherence and open marks (R424 to R429). -/

namespace Sys2Proof.Machine

/-- The majority of each bit in three copies (R425). -/
def majority (l : List W48) : Nat :=
  let a := l.getD 0 0; let b := l.getD 1 0; let c := l.getD 2 0
  ((a &&& b) ||| (a &&& c) ||| (b &&& c)).toNat

/-- The bits in which three copies are not all equal (R444). -/
def copyDiff (l : List W48) : Nat :=
  let a := l.getD 0 0; let b := l.getD 1 0; let c := l.getD 2 0
  ((a ^^^ b) ||| (a ^^^ c)).toNat

/-- Set bits of group i, eight bits wide (R425). -/
def groupCount (w i : Nat) : Nat := (setBits 8 (bits (8 * i + 7) (8 * i) w)).length

/-- A group with 6 to 8 bits set (R425). -/
def groupSet (w i : Nat) : Bool := decide (6 ≤ groupCount w i)

/-- A group with 3 to 5 bits set (R425). -/
def groupPartial (w i : Nat) : Bool := decide (3 ≤ groupCount w i) && decide (groupCount w i ≤ 5)

/-- The decoded life-cycle word. -/
def Lcs.word (l : Lcs) : Nat := majority l.copies

/-- Decoded progress word of a target, 0 for INTEGRATOR to 3 for SCRAPPED (R427). -/
def Lcs.mark (l : Lcs) (t : Nat) : Nat := majority (l.progress.getD t [])

/-- A progress word holds an open mark (R427). -/
def Lcs.isOpen (l : Lcs) (t : Nat) : Bool := groupSet (l.mark t) 0 && !groupSet (l.mark t) 3

/-- Targets with an open mark. -/
def Lcs.openMarks (l : Lcs) : List Nat := (List.range 4).filter l.isOpen

/-- The exception of R428: the target group of an open mark with ERASE_DONE set and STATE_BURNT clear counts as clear while it is partial. -/
def Lcs.excused (l : Lcs) (t : Nat) : Bool := l.isOpen t && groupSet (l.mark t) 1 && !groupSet (l.mark t) 2

/-- A group of the decoded word counts as set; the target group of an open mark with ERASE_DONE set and STATE_BURNT clear counts as clear, burnt in part or whole (R428; DEDUCED, log entry 107). -/
def Lcs.has (l : Lcs) (i : Nat) : Bool := groupSet l.word i && !l.excused i

/-- The state code (R424). -/
def Lcs.state (l : Lcs) : Nat := if l.has 3 then 4 else if l.has 2 then 3 else if l.has 1 then 2 else if l.has 0 then 1 else 0

/-- The transitions of R430, from-state to to-state. -/
def lcPermitted (frm dest : Nat) : Bool :=
  match frm, dest with
  | 0, 1 => true
  | 1, 2 => true
  | 2, 3 => true
  | 0, 4 => true
  | 1, 4 => true
  | 2, 4 => true
  | 3, 4 => true
  | _, _ => false

/-- The word is coherent (R426), with the exception of R428. -/
def Lcs.coherentWord (l : Lcs) : Bool :=
  decide (l.word < 2 ^ 32) &&
  (List.range 4).all (fun i => !groupPartial l.word i || l.excused i) &&
  (!l.has 1 || l.has 0) && (!l.has 2 || l.has 1)

/-- An open mark fits the decoded state (R428). -/
def Lcs.fits (l : Lcs) (t : Nat) : Bool :=
  if groupSet (l.mark t) 2 then l.state == t + 1 else lcPermitted l.state (t + 1)

/-- WAKE finds LC_INCOHERENT (R428 test 1). -/
def Lcs.badWord (l : Lcs) : Bool :=
  !l.coherentWord || decide (l.openMarks.length > 1) || l.openMarks.any (fun t => !l.fits t)

/-- The last mark completed of a progress word: 0 none to 4 CLOSED (R444). -/
def markLevel (w : Nat) : Nat :=
  if groupSet w 3 then 4 else if groupSet w 2 then 3 else if groupSet w 1 then 2 else if groupSet w 0 then 1 else 0

/-- The life-cycle state of the unit (R424). -/
def Core.lcState (c : Core) : Nat := c.lcs.state

/-- The state is FIELDED. -/
def Core.fielded (c : Core) : Bool := c.lcState == 2

/-- A life-cycle mark is open (R427). -/
def Core.markOpen (c : Core) : Bool := !c.lcs.openMarks.isEmpty

end Sys2Proof.Machine
end

