-- ==== Sys2Proof/Machine/Movers.lean ====
section
/-! DEFINITION. The DMA movers: when a port's link takes transfers, the reads of host memory that a task asks for (R55, R58, R157), which destination write, operand read, completion and interrupt message of a port is served next (R96, R101), and the reads and messages that then leave. -/

namespace Sys2Proof.Machine

/-! ### Links and the gate -/

/-- A host can reach the port's function: its link is up and no reset of the port runs. -/
def Core.hostUp (c : Core) (port : Nat) : Bool :=
  c.created port && (c.port port).link != .down && !(c.port port).resetting && !(c.port port).d3

/-- The port's link takes transfers now: in L0, the function in D0, no reset running. -/
def Core.linkTakes (c : Core) (port : Nat) : Bool := c.hostUp port && (c.port port).link == .l0

/-- An open alarm group of class HALT or ERASE has stopped the engines and ended key use (R407, R410). -/
def Core.responding (c : Core) : Bool :=
  match c.tmp.group with
  | some g => decide (2 ≤ g.cls) && c.lcState != 4
  | none => false

/-- An ERASE has begun: the Lozenge gate passes no write but completion entries (R411). -/
def Core.erasing (c : Core) : Bool :=
  match c.tmp.group with
  | some g => g.erasing && c.lcState != 4
  | none => false

/-! ### The order of requests (R101) -/

/-- A request of a port: what it is for, and the deadline and sequence number of its task. -/
structure Due where
  key : Nat
  deadline : W48
  seq : Nat
deriving DecidableEq, Repr

/-- x is served before y: the earlier deadline first, then the earlier admission. -/
def dueBefore (x y : Due) : Bool :=
  if x.deadline = y.deadline then x.seq == y.seq || earlierSeq x.seq y.seq else later y.deadline x.deadline

/-- The request of a list that is served first; the earlier listed one where nothing separates two. -/
def firstDue : List Due → Option Due
  | [] => none
  | x :: r =>
    match firstDue r with
    | none => some x
    | some y => if dueBefore x y then some x else some y

/-! ### Reads of host memory -/

/-- Whether the page of a piece may be used: ATS off, translation held, or granted now. -/
def Core.granted (c : Core) (port pasid iova : Nat) (refused : List Nat) : Bool :=
  !(c.port port).ats || (c.port port).translations.contains (pasid, iova / 4096) || !refused.contains (iova / 4096)

/-- Requests the translation of a page with the slice's PASID, where ATS is enabled and the translation is not held (R58). -/
def Core.askTranslation (c : Core) (port pasid iova : Nat) : Core :=
  if (c.port port).ats && !(c.port port).translations.contains (pasid, iova / 4096) then c.send (.translate port pasid (iova / 4096)) else c

/-- Start and length of the requests of at most k bytes that n bytes at an address make. -/
def requestsF : Nat → Nat → Nat → Nat → List (Nat × Nat)
  | 0, _, _, _ => []
  | f + 1, k, a, n => if n = 0 then [] else (a, min k n) :: requestsF f k (a + min k n) (n - min k n)

/-- The requests for n bytes at an address, none above a programmed size of k bytes (R55). -/
def requests (k a n : Nat) : List (Nat × Nat) := requestsF (n / max 1 k + 1) (max 1 k) a n

/-- Reads n bytes of host memory in requests of at most the programmed maximum read request size (R55). -/
def Core.sendRead (c : Core) (port pasid iova n : Nat) (relaxed : Bool) : Core :=
  (requests (c.port port).maxRead iova n).foldl (fun c x => c.send (.read port pasid x.1 x.2 relaxed)) c

/-- Free bytes of a task's work area of 64 KiB (R305). -/
def Task.areaFree (t : Task) : Nat := 65536 - t.work.length - t.plain.length

/-- The part of the source that a read brings next, as first byte and length: the whole of it, or for a BULK task what the free work area takes, and with its last byte the tag (R304, R305). -/
def Task.nextPart (t : Task) : Nat × Nat :=
  if t.opclass = clsBulk then
    let left := t.bkText - t.landed
    let n := min left t.areaFree
    (t.landed, if n = left then t.srcEnd - t.landed else n)
  else (0, t.srcLen)

/-- The task is waiting for its source operand. A BULK task reads once its key has passed its checks (R303), as long as its work area has room. -/
def Task.awaitsSource (t : Task) : Bool :=
  (t.st == .admitted || t.st == .running) &&
    (if t.opclass = clsBulk then bit 2 t.flags && decide (t.landed < t.srcEnd) && decide (0 < t.nextPart.2) else !bit 1 t.flags)

/-- Requests of a task's reads that wait for their completion: the entry's, or those of the pieces sent of the part asked for. -/
def Core.tagsOf (c : Core) (t : Task) : Nat :=
  if t.st == .fetching then b2n !t.held
  else
    match t.asked with
    | none => 0
    | some (first, n, sent) =>
      (((splitPieces (t.srcIova + first) n).take sent).map (fun p => (requests (c.port t.port).maxRead p.1 p.2).length)).foldl (· + ·) 0

/-- Non-posted requests a port may have outstanding (R55). -/
def Port.tagLimit (p : Port) : Nat := if p.tags10 then 768 else 256

/-- A tag of the port is free for a further read. What a part asks for beyond the last tag leaves as tags return (DESIGN CHOICE, log entry 111). -/
def Core.tagFree (c : Core) (port : Nat) : Bool :=
  decide (((c.cc.tasks.filter (fun e => e.2.port == port)).map (fun e => c.tagsOf e.2)).foldl (· + ·) 0 < (c.port port).tagLimit)

/-- The task's next part of its source can be asked for now. -/
def Core.readReady (c : Core) (t : Task) : Bool :=
  t.asked.isNone && !t.gone && t.awaitsSource && c.leaseHeld && c.linkTakes t.port && c.tagFree t.port

/-- Sends the reads of the pieces in turn, up to the first that fails its check or waits for its translation, which is then requested; k counts those sent before (R58, R114). -/
def Core.sendPieces (c : Core) (t : Task) (k : Nat) : List (Nat × Nat) → Core × Nat
  | [] => (c, k)
  | (a, n) :: rest =>
    let s := c.slice t.slice
    if s.cause a 0 3 true ≠ 0 then (c, k)
    else if !c.granted t.port s.pasid a [a / 4096] then (c.askTranslation t.port s.pasid a, k)
    else (c.sendRead t.port s.pasid a n (c.port t.port).relaxed).sendPieces t (k + 1) rest

/-- Asks for the next part of a task's source. A piece that fails its check ends the task when the read ends (DESIGN CHOICE, log entry 111). -/
def Core.askOperand (c : Core) (tid : Nat) : Core :=
  match c.task tid with
  | none => c
  | some t =>
    let part := t.nextPart
    let r := c.sendPieces t 0 (splitPieces (t.srcIova + part.1) part.2)
    r.1.updTask tid (fun t => { t with asked := some (part.1, part.2, r.2) })

/-! ### Destination writes -/

/-- Destination writes of a port can move now: the Lozenge gate is open to them and the link takes them (R23, R411). -/
def Core.piecesMove (c : Core) (port : Nat) : Bool := c.leaseHeld && !c.erasing && c.linkTakes port

/-- The destination write or operand read of a port that is served first, of those that can move (R101, class 1); true for a read. -/
def Core.classOneTurn (c : Core) (port : Nat) : Option (Nat × Bool) :=
  let writes := if c.piecesMove port then c.cc.tasks.filter (fun e => e.2.port == port && !e.2.pieces.isEmpty) else []
  let reads := c.cc.tasks.filter (fun e => e.2.port == port && c.readReady e.2)
  (firstDue ((reads ++ writes).map (fun e => ({ key := e.1, deadline := e.2.deadline, seq := e.2.seq } : Due)))).map (fun d =>
    (d.key, reads.any (fun e => e.1 == d.key)))

/-- The task whose destination write the mover of a port serves next: none where none stands or none can move, or where an operand read stands before. -/
def Core.pieceTurn (c : Core) (port : Nat) : Option Nat :=
  match c.classOneTurn port with
  | some (tid, false) => some tid
  | _ => none

/-- The task whose operand read the mover of a port serves next. -/
def Core.readTurn (c : Core) (port : Nat) : Option Nat :=
  match c.classOneTurn port with
  | some (tid, true) => some tid
  | _ => none

/-- The operand reads of a port whose turn has come are sent. -/
def Core.settlePortReads (c : Core) (port : Nat) : Core :=
  iter (fun c => match c.readTurn port with
    | some tid => c.askOperand tid
    | none => c) c.cc.tasks.length c

/-! ### Completions -/

/-- x stands before y in the order of R96: by epoch, then by retirement. -/
def stagedBefore (x y : Nat × Task) : Bool :=
  let ex := x.2.staged.getD 0
  let ey := y.2.staged.getD 0
  if ex ≠ ey then decide (ex < ey)
  else if x.2.retireNo ≠ y.2.retireNo then decide (x.2.retireNo < y.2.retireNo)
  else x.2.seq == y.2.seq || earlierSeq x.2.seq y.2.seq

/-- A fenced task's completion waits for those of all earlier tasks of its ring pair (R95). -/
def CC.fencedBack (s : CC) (t : Task) : Bool :=
  t.fenced && s.tasks.any (fun o => o.2.inFlight && o.2.ring == t.ring && o.2.port == t.port && earlierSeq o.2.seq t.seq)

/-- The completions of a ring pair in staging, in order. -/
def CC.stagedOf (s : CC) (port r : Nat) : List (Nat × Task) :=
  (s.tasks.filter (fun e => e.2.port == port && e.2.ring == r && e.2.st == .retired && e.2.staged.isSome && !e.2.gone && !s.fencedBack e.2)).mergeSort stagedBefore

/-- Entries of a ring pair: N (R76). -/
def Ring.n (g : Ring) : Nat := 2 ^ g.log2

/-- (a − b) mod n. -/
def ringDist (n a b : Nat) : Nat := (a + n - b % n) % n

/-- Entries of a completion ring that host software has not released. -/
def Core.unreleased (c : Core) (r : Nat) : Nat := ringDist (c.ringOf r).n (c.cc.pos r).w (c.cc.pos r).c

/-- The ring pair takes no completion: it is disabled, or its pointers are no longer trusted (R103, R105). -/
def Core.ringClosed (c : Core) (port r : Nat) : Bool :=
  let f := c.cc.faults.getD port {}
  !(c.ringOf r).enable || (f.on && f.ring == c.ringLocal port r)

/-- A completion can be written now: its epoch is glazed (R29), its task's destination writes have left (R59, R118), and its ring has space (R85). -/
def Core.completionMoves (c : Core) (port r : Nat) (t : Task) : Bool :=
  c.leaseHeld && c.linkTakes port && decide (t.staged.getD 0 ≤ c.cont.glazed) && t.pieces.isEmpty && decide (c.unreleased r + 1 < (c.ringOf r).n)

/-- The completion of a ring pair that can be written now. -/
def Core.completionHead (c : Core) (port r : Nat) : Option (Nat × Task) :=
  match c.cc.stagedOf port r with
  | [] => none
  | e :: _ => if !c.ringClosed port r && c.completionMoves port r e.2 then some e else none

/-- The ring pair of a port whose completion the mover serves next; none while a destination write or an operand read can move. -/
def Core.completionTurn (c : Core) (port : Nat) : Option Nat :=
  if (c.classOneTurn port).isSome then none
  else (firstDue ((c.ringsOf port).filterMap (fun r => (c.completionHead port r).map (fun e =>
    ({ key := r, deadline := e.2.deadline, seq := e.2.seq } : Due))))).map (·.key)

/-! ### Interrupt messages -/

/-- Interrupt messages of a port can move now, and nothing that stands before them can. -/
def Core.messagesMove (c : Core) (port : Nat) : Bool :=
  c.leaseHeld && c.linkTakes port && (c.classOneTurn port).isNone && (c.completionTurn port).isNone

/-- A waiting message of a list that is served first, by its place in the list. -/
def firstMsg (l : List RingMsg) : Option Nat :=
  (firstDue ((l.zipIdx).map (fun e => ({ key := e.2, deadline := e.1.deadline, seq := e.1.seq } : Due)))).map (·.key)

/-- Sends the message of a port that is served first. -/
def Core.sendMsg (c : Core) (port : Nat) : Core :=
  match firstMsg (c.port port).msgs with
  | none => c
  | some i =>
    match (c.port port).msgs[i]? with
    | none => c
    | some m => (c.updPort port (fun p => { p with msgs := p.msgs.eraseIdx i })).send (.message port m.addr m.data)

/-- The waiting messages of a port leave, where they can move (R97, R101). -/
def Core.settleMsgs (c : Core) (port : Nat) : Core :=
  if c.messagesMove port then iter (fun c => c.sendMsg port) (c.port port).msgs.length c else c

/-- Nothing of a port that stands before its submission fetches can move (R101). -/
def Core.fetchTurn (c : Core) (port : Nat) : Bool :=
  (c.classOneTurn port).isNone && (c.completionTurn port).isNone && !(c.messagesMove port && !(c.port port).msgs.isEmpty)

end Sys2Proof.Machine
end

