-- ==== Sys2Proof/Machine/Selection.lean ====
section
/-! DEFINITION. What the selectors offer: the long pool (R164, R165), the ready steps of a class in rank order (R160, R161), and whether every ready step has been offered the engines it can use (R101). -/

namespace Sys2Proof.Machine

/-! ### Engine pools (R17, R393) -/

/-- Engine numbers of a class in a half, spares included; spares carry the highest numbers (R296, R314). -/
def halfEngines (v : Variant) (cls half : Nat) : List Nat :=
  let base := if half = 0 then 0 else Config.halfBase v cls
  (List.range (Config.perHalf v cls + Config.sparesIn v cls half)).map (base + ·)

/-- Every engine number of a class. -/
def classEngines (v : Variant) (cls : Nat) : List Nat := halfEngines v cls 0 ++ halfEngines v cls 1

/-- The half an engine stands in. -/
def engineHalf (v : Variant) (cls n : Nat) : Nat := if n < Config.halfBase v cls then 0 else 1

/-- The engine is one of its half's spares. -/
def isSpare (v : Variant) (cls n : Nat) : Bool :=
  decide (n - (if engineHalf v cls n = 0 then 0 else Config.halfBase v cls) ≥ Config.perHalf v cls)

/-- The engine has been marked unusable. -/
def Engs.isBad (e : Engs) (cls n : Nat) : Bool := e.bad.contains (engKey cls n)

/-- The engine serves: usable, and a spare only once it is in service. -/
def Engs.inService (e : Engs) (v : Variant) (cls n : Nat) : Bool :=
  !e.isBad cls n && (!isSpare v cls n || e.engaged.contains (engKey cls n))

/-- Engines of a class in service. -/
def Core.enginesUp (c : Core) (cls : Nat) : List Nat :=
  (classEngines c.g.variant cls).filter (c.eng.inService c.g.variant cls)

/-- Spares of a class not yet in use (R393). -/
def Core.sparesLeft (c : Core) (cls : Nat) : List Nat :=
  (classEngines c.g.variant cls).filter (fun n => isSpare c.g.variant cls n && !c.eng.isBad cls n
    && !c.eng.engaged.contains (engKey cls n) && !c.eng.waiting.contains (engKey cls n))

/-- Usable engines of a class that GLB_CAP1 counts: nominal while spares cover (R73, R393). -/
def Core.capCount (c : Core) (cls : Nat) : Nat :=
  min (2 * Config.perHalf c.g.variant cls)
    ((classEngines c.g.variant cls).filter (fun n => !c.eng.isBad cls n)).length

/-- The class has spares in the variant. -/
def hasSpares (v : Variant) (cls : Nat) : Bool := Config.sparesIn v cls 0 + Config.sparesIn v cls 1 != 0

/-! ### The long pool (R164, R165) -/

/-- LONG_BITS. -/
def Core.longBits (c : Core) : Nat := bits 29 16 c.r.longPool.toNat
/-- COUNT. -/
def Core.longCount (c : Core) : Nat := bits 6 0 c.r.longPool.toNat

/-- The size of the effective pool. -/
def effectivePool (count usable : Nat) : Nat := if count < usable then count else usable - 1

/-- The cores of the effective long pool: the highest-numbered usable cores of each half. -/
def Core.longCores (c : Core) : List Nat :=
  let up := c.enginesUp 3
  let n := effectivePool c.longCount up.length
  let half (h : Nat) : List Nat := (up.filter (fun k => engineHalf c.g.variant 3 k == h)).reverse
  (half 0).take (ceilDiv n 2) ++ (half 1).take (n / 2)

/-! ### Selection (R160, R161, R164) -/

/-- A Crumb test runs on the engine, so that its selector offers it nothing (R397). -/
def Core.underTest (c : Core) (cls n : Nat) : Bool := c.cont.crumbs.any (fun k => k.kind == cls && k.target == n)

/-- D of a task as it ranks now: for a wait of more than 2^46 ticks past it, however long, the moment 2^46 ticks ago (R160). -/
def Core.rankAt (c : Core) (t : Task) : W48 :=
  if t.due + 2 ^ 46 < c.clock then c.now - BitVec.ofNat 48 (2 ^ 46) else t.deadline

/-- The ready steps of a class in all heaps. -/
def Core.readySteps (c : Core) (cls : Nat) : List Ready :=
  (c.cc.tasks.map (fun e => (e.2.heap.filter (fun k => e.2.stepClass k == some cls)).map (fun k =>
    ({ tid := e.1, deadline := c.rankAt e.2, seq := e.2.seq, step := k } : Ready)))).flatten

/-- The expansions of lattice keys that wait for a big-number core of a half (R333); step 64 and above stand for them: 64 + the selector, or 64 + 16 + the recipe step. -/
def Core.expansions (c : Core) (half : Nat) : List Ready :=
  ((c.cc.tasks.filter (fun e => e.2.st == .admitted || e.2.st == .running)).map (fun e =>
    (e.2.expand.filter (fun x => x.2 == (half, 0))).map (fun x =>
      ({ tid := e.1, deadline := c.rankAt e.2, seq := e.2.seq, step := 64 + x.1 } : Ready)))).flatten

/-- The step a ready entry names is long; an expansion is short (R333). -/
def Core.readyLong (c : Core) (r : Ready) : Bool :=
  match c.task r.tid with
  | some t => r.step < 64 && t.isLong c.longBits r.step
  | none => false

/-- The step a selector offers an engine: the highest-ranked of its class; for big-number cores by the rule of the long pool (R161, R164). -/
def Core.offer (c : Core) (cls n : Nat) : Option Ready :=
  let l := c.readySteps cls
  if cls = 3 then
    let l := l ++ c.expansions (engineHalf c.g.variant 3 n)
    let pool := c.longCores
    if pool.isEmpty then topRanked l
    else
      let long := topRanked (l.filter c.readyLong)
      let short := topRanked (l.filter (fun r => !c.readyLong r))
      if pool.contains n then long.or short else short
  else topRanked l

/-- The dispatchers take work: the complex holds the lease, and no response or halt has stopped the engines (R32, R378, R410). -/
def Core.dispatching (c : Core) : Bool := c.leaseHeld && !c.responding && !c.halted

/-- An engine's prefetch slot is empty and its selector has a step to offer it (R161, R162). -/
def Core.takesStep (c : Core) (cls n : Nat) : Bool :=
  (Table.findD (engKey cls n) {} c.eng.jobs).pre.isNone && !c.underTest cls n && (c.offer cls n).isSome

/-- Some ready step has not been offered an engine it can use: a released resource waits for it (R101). -/
def Core.offersLeft (c : Core) : Bool :=
  c.dispatching && [1, 2, 3, 4, 5].any (fun k => (c.enginesUp k).any (c.takesStep k))

/-! ### The prime search (R327) -/

/-- A reserve entry is configured and holds fewer than 16 primes. -/
def Regs.reserveOpen (r : Regs) (i : Nat) : Bool := r.rsaBits.getD i 0 != 0 && decide ((r.primes.getD i []).length < 16)

/-- A core has nothing to run, to start or to take, and some reserve is open: it searches for primes (R327). -/
def Core.searches (c : Core) (n : Nat) : Bool :=
  let e := Table.findD (engKey 3 n) {} c.eng.jobs
  c.dispatching && [0, 1, 2, 3].any c.r.reserveOpen && e.run.isNone && e.pre.isNone && !c.underTest 3 n && (c.offer 3 n).isNone

/-- Idle big-number cores begin units of the prime search; a unit counts as a running step until it ends (R162, R327). -/
def Core.settleSearch (c : Core) : Core :=
  if !([0, 1, 2, 3].any c.r.reserveOpen) then c
  else
    let idle := (c.enginesUp 3).filter c.searches
    let start (l : Table Eng) (n : Nat) : Table Eng := Table.put (engKey 3 n) { (Table.findD (engKey 3 n) {} l) with search := true } l
    { c with eng := { c.eng with jobs := idle.foldl start c.eng.jobs } }

/-! ### What a running big-number step holds in its core (R314, R315) -/

/-- The algorithm whose arithmetic a big-number step of a task uses; modular operations count as RSA, an expansion as lattice work. -/
def Task.bnAlg (t : Task) (k : Nat) : Nat :=
  let ofCtx (c : Option Ctx) : Nat := match c with
    | some c => c.alg
    | none => 0x10
  if 64 ≤ k ∨ (t.opclass = clsPk ∧ (t.opcode = 0x403 ∨ t.opcode = 0x404)) then 0x18
  else if t.opclass = clsPk then
    if t.opcode = 0x405 ∨ t.opcode = 0x406 then 0x10
    else if t.key0 = 0 then bits 15 8 t.param
    else ofCtx (t.ksel 1)
  else ofCtx (t.ksel (imgStep t.image k).ksel)

/-- The array mode of an algorithm. -/
def bnModeOf (alg : Nat) : BnMode :=
  if alg = 0x18 ∨ alg = 0x19 then .lattice else if alg = 0x11 ∨ alg = 0x14 ∨ alg = 0x16 ∨ alg = 0x17 then .quad else .wide

/-- The operands that a big-number step loads into its core's 8 KiB of operand memory. -/
def Task.bnOperands (t : Task) (k : Nat) : Bytes :=
  if 64 ≤ k then []
  else if t.opclass = clsPk then t.work.take 8192
  else let s := imgStep t.image k; t.rd s.a s.len

/-- A core whose step runs stands in that step's mode and holds its operands; a unit of the prime search runs in WIDE mode. -/
def Core.loadCore (c : Core) (e : Eng) : Eng :=
  match e.run with
  | none => if e.search then { e with mode := some .wide } else e
  | some j =>
    match c.task j.tid with
    | some t => { e with mode := some (bnModeOf (t.bnAlg j.step)), mem := t.bnOperands j.step }
    | none => e

/-- Every big-number core that runs a step. -/
def Core.settleCores (c : Core) : Core :=
  { c with eng := { c.eng with jobs := c.eng.jobs.map (fun x => if x.1 / 256 = 3 then (x.1, c.loadCore x.2) else x) } }

end Sys2Proof.Machine
end

