-- ==== Sys2Proof/Machine/Settle.lean ====
section
/-! DEFINITION. What follows of itself after every command: redundancy, drain states, the end of quiescing, level sources; and run, the frame of every meaning. -/

namespace Sys2Proof.Machine

/-- Case 6 of R38: a pool has used all its spares, or a resolver or lookup unit has failed, or a memory slice has left service. -/
def Core.poolSpent (c : Core) : Bool :=
  c.cont.memSpent ||
  ([1, 2, 3].any (fun k => hasSpares c.g.variant k && (c.sparesLeft k).isEmpty)) ||
  ([4, 5].any (fun k => decide (c.capCount k < 2 * Config.perHalf c.g.variant k)))

/-! ### Redundancy (R38, R401) -/

/-- A complex mirrors: STANDBY, or loading a new image while it keeps mirroring (R47 step 2). -/
def Cont.mirrors (k : Cont) (n : Nat) : Bool :=
  let st := k.cx.getD n .unusable
  st == .standby || (st == .updating && (match k.update with
    | some u => u.trial == n && !u.second && !u.reverting
    | none => false))

/-- Simplex operation (R383). -/
def Cont.simplex (k : Cont) : Bool := !(k.mirrors 0) && !(k.mirrors 1)

/-- HEALTHY sources. -/
def Ent.healthy (e : Ent) : Nat := (e.src.filter (fun s => s.st == .healthy)).length

/-- CNT_REDUNDANCY.CAUSES (R401). Fewer than two sources healthy counts from the moment the sources leave OFF (DESIGN CHOICE, log entry 84). -/
def Core.causes (c : Core) : Nat :=
  b2n (c.cont.cx.any (· == .unusable) || ((c.cont.holder.isSome || c.g.wakeStep == 2) && c.cont.simplex))
  + 2 * b2n (Config.sieve c.g.variant && c.siv.usable.any (!·))
  + 4 * b2n (c.flash.readable.any (!·))
  + 8 * b2n (c.pwr.vin.any (· != 2) || c.pwr.back.any (!·))
  + 16 * b2n (decide (c.pwr.phases < 12))
  + 32 * b2n (decide (c.ent.healthy < 2) && c.ent.src.any (·.st != .off))
  + 64 * b2n c.poolSpent
  + 128 * b2n (!c.cont.dramBad.isEmpty)

/-- GLB_MODE.REDUCED follows its causes; SERVE and SERVE_REDUCED change with it, and source 17 tells of a change in another mode (R35, R38, R402). -/
def Core.settleReduced (c : Core) : Core :=
  let r := c.causes != 0
  if r == c.g.reducedWas then c
  else
    let c := { c with g := { c.g with reducedWas := r } }
    match c.g.mode with
    | .serve => c.setMode .serveReduced
    | .serveReduced => c.setMode .serve
    | _ => c.pulseAll 17

/-! ### Drain states -/

/-- No task of the unit is in flight, requests of CPATH apart. -/
def CC.drained (s : CC) : Bool := s.count (fun t => decide (t.port < 4)) == 0

/-- A property of the control-complex state that no takeover can take back: it holds of the active state, of every record sent and of the last glazed state (R381, R384). -/
def Core.everywhere (c : Core) (p : CC → Bool) : Bool := p c.cc && p c.mirror && c.sent.all (fun x => p x.2.2)

/-- The configuring phase or SETUP begins: the RWL fields unlock (R42, R53). -/
def Core.unlock (c : Core) : Core := { c with g := { c.g with locked := false } }

/-- The end of quiescing: DRAINED, once the last completion is glazed (R381), and SETUP or the configuring phase when ENABLE is 0 (R39, R41, R53). -/
def Core.settleDrain (c : Core) : Core :=
  if !c.quiesced then c
  else
    let c := if c.everywhere CC.drained && !c.g.drained then ({ c with g := { c.g with drained := true } } : Core).noteMode else c
    if c.g.drained && !c.g.enable then
      match c.g.mode with
      | .quiesce => c.unlock.setMode .setup
      | _ => (({ c with g := { c.g with phase := .configuring, drained := false } } : Core).unlock).noteMode
    else c

/-- Enters TRANSIT at the first step of R436 once work in flight has drained and that is glazed (R48, R381); the loss of both inputs has precedence (R35). -/
def Core.settleTransit (c : Core) : Core :=
  match c.g.lcTarget with
  | none => c
  | some t =>
    if c.everywhere CC.idle && c.pwr.losing == 0 then
      let c := c.clearEnables.unlock.setMode .transit
      let c := c.allCC (fun s => { s with cust := { s.cust with challenges := [] } })
      { c with lcs := { c.lcs with transitStep := 1, transitTo := t } }
    else c

/-- DRAINED of a port and of a slice as a read shows it: no task in flight in the glazed state, in a record sent or in the active state. -/
def Core.portShownDrained (c : Core) (n : Nat) : Bool := c.everywhere (fun s => c.portDrained s n)
def Core.slcShownDrained (c : Core) (n : Nat) : Bool := c.everywhere (fun s => c.slcDrained s n)

/-- The locks of ports and slices end: with the global enable, or when DRAINED of the object becomes 1 after its disable (R111; for PORT_SLACK, where R107 does not say when the enable counts as withdrawn, DESIGN CHOICE, log entry 19). -/
def Core.settleLocks (c : Core) : Core :=
  { c with
    ports := (c.ports.zipIdx).map (fun (p, n) =>
      if p.locked && (!c.g.locked || c.portShownDrained n) then { p with locked := false } else p)
    slc := (c.slc.filterMap (fun (n, s) =>
      let s := if s.locked && (!c.g.locked || c.slcShownDrained n) then { s with locked := false } else s
      if s = {} then none else some (n, s))) }

/-- Tasks that have ended and waited for their fence retire when it clears (R95). -/
def Core.settleFence (c : Core) : Core :=
  ((c.cc.tasks.filter (fun e => e.2.fenced && e.2.retirable)).map (·.1)).foldl (fun c n => c.tryRetire n) c

/-- A task of a reset port that has retired leaves flight, its completion discarded and counted (R63). -/
def Core.settleGone (c : Core) : Core :=
  (c.cc.tasks.filter (fun e => e.2.gone && e.2.st == .retired)).foldl (fun c e =>
    (c.updPort e.2.port (fun p => { p with discarded := sat 32 (p.discarded + 1) })).updCC (·.leave e.1)) c

/-- Destination writes of tasks that have left flight are done with when none is left (R93). -/
def Core.settleLoose (c : Core) : Core := c.updCC (·.dropTasks (fun t => t.dropped && t.pieces.isEmpty))

/-- The operand reads of every port that can move are sent (R101). -/
def Core.settleReads (c : Core) : Core := (List.range 4).foldl (fun c n => c.settlePortReads n) c

/-- The interrupt messages of every port that can move leave (R101). -/
def Core.settleMessages (c : Core) : Core := (List.range 4).foldl (fun c n => c.settleMsgs n) c

/-- Rewrites of bank entries that lie more than 1 s back are forgotten (R367). -/
def Core.settleRewrites (c : Core) : Core :=
  if c.siv.rewritten.all (fun e => !later c.now (e.2 + 100000000)) then c
  else { c with siv := { c.siv with rewritten := c.siv.rewritten.filter (fun e => !later c.now (e.2 + 100000000)) } }

/-- Held tokens whose challenge has expired are discarded (R278). -/
def Core.settleTokens (c : Core) : Core :=
  if c.cc.cust.tokens.all (fun t => later t.expiry c.now) then c
  else c.updCC (fun s => { s with cust := { s.cust with tokens := s.cust.tokens.filter (fun t => later t.expiry c.now) } })

/-- When a running ERASE began (R411). -/
def Core.eraseSince (c : Core) : Option W48 :=
  match c.tmp.group with
  | some g => if g.erasing && !g.eraseDone && c.lcState != 4 then some g.eraseAt else none
  | none => none

/-- A running ERASE has done what its time has come for, in the order of R411: the SWK at 0.3 µs, the DRAM key at 1.0 µs, everything volatile at 4.0 µs. -/
def Core.settleErase (c : Core) : Core :=
  match c.eraseSince with
  | none => c
  | some t =>
    if !reached c.now (t + 30) then c
    else if !reached c.now (t + 100) then c.eraseSwk
    else if !reached c.now (t + 400) then c.eraseSwk.eraseDram
    else c.eraseSecrets

/-- Every consequence in turn. -/
def Core.settle (c : Core) : Core :=
  c.settleErase.settleFence.settleGone.settleLoose.settleReduced.settleDrain.settleTransit.settleLocks.settleReads.settleMessages.settleSearch.settleCores.settleTokens.settleRewrites

/-! ### Level sources -/

/-- The level sources of a port that are high (R122, R129), as a mask; captures and notices are read from the glazed state (R121). -/
def Core.levels (c : Core) (port : Nat) : Nat :=
  let sl := c.slicesOf port
  let viol := c.mirror.caps.any (fun e => sl.contains e.1 && e.2.valid)
  let note := c.mirror.caps.any (fun e => sl.contains e.1 && e.2.nValid)
  let groups := c.slc.foldl (fun m e =>
    if sl.contains e.1 && (e.2.posted || e.2.released) then m ||| 2 ^ (192 + c.slcLocal port e.1 / 16) else m) 0
  groups ||| (if viol then 2 ^ 66 else 0) ||| (if note then 2 ^ 67 else 0)

/-- Edges of the levels that a command has raised on a port. -/
def Core.levelFx (before after : Core) (port : Nat) : List Fx :=
  let a := before.levels port
  let b := after.levels port
  (setBits 256 (b &&& (b ^^^ (a &&& b)))).map (fun s => Fx.pulse (2 ^ port) s)

/-- KTR_FREE.COUNT: FRESH slots and slots available under R252, above the domain roots (R269); 0 while there is no SWK (R261). -/
def Core.ktrFree (c : Core) : Nat :=
  if c.batt.swk.isNone then 0 else
  let taken := (c.cc.kt.slots.filter (fun e => decide (0x1000 ≤ e.1) && e.2.state != .fresh &&
    (e.2.state == .live || e.2.state == .retired || !e.2.swept || c.cc.pins e.1))).length
  Config.nodes c.g.variant - 0x1000 - taken

/-- The low-slot condition of R270. -/
def Core.ktrLow (c : Core) : Bool := decide (c.ktrFree < c.r.lowMark)

/-- Port drains that a command has completed, logged (R107). -/
def Core.logPortDrains (before after : Core) : Core :=
  (List.range 4).foldl (fun c n =>
    if after.created n && !before.portDrained before.cc n && after.portDrained after.cc n then c.log 2 n else c) after

/-- The dies once every consequence has followed: settled, port drains logged, the low-slot condition of R270 told. -/
def Core.aftermath (before c : Core) : Core :=
  let c := before.logPortDrains c.settle
  if !before.ktrLow && c.ktrLow then c.edge 1 113 else c

/-- Edges of the levels that a command has raised on any port. -/
def Core.levelEdges (before after : Core) : List Fx := ((List.range 4).map (before.levelFx after)).flatten

/-- The I/O die takes a list of effects in order. -/
def State.applyAll (s : State) (l : List Fx) : State := l.foldl (fun s f => s.applyFx f) s

/-- What a command on the dies leaves: its own effect, its consequences, the edges of levels, and everything handed to the I/O die. -/
def State.after (s : State) (c : Core) : State :=
  let d := s.core.aftermath c
  State.applyAll { s with core := { d with fx := [] } } (d.fx ++ s.core.levelEdges d)

/-- The frame of every meaning: the command changes the dies, and what follows of itself follows. -/
def run (f : Core → Core) (s : State) : Host.Outcome State Fault Refusal :=
  .next (s.after (f { s.core with fx := [] }))

end Sys2Proof.Machine
end

