-- ==== Sys2Proof/Machine/EntryCheck.lean ====
section
/-! DEFINITION. The checks of a fetched entry: R81, the recipe checks of R174 and R190, those of BULK (R301 to R303) and PK_DIRECT (R320 to R324), the operation codes, and the engine classes a task needs (R149). A check that depends on the length or algorithm of KEY0 is made when KEY0 has resolved, with the same status and DETAIL. -/

namespace Sys2Proof.Machine

/-- A status and DETAIL that end a task. -/
abbrev Ended := Nat × Nat

/-- The first failure of a list of checks. -/
def firstBad (l : List (Bool × Ended)) : Option Ended := (l.find? (·.1)).map (·.2)

/-! ### R81 -/

/-- The fetch checks in their order; local slice 0 is told by the flag. -/
def Task.formatCheck (t : Task) (managerSlice : Bool) : Option Ended :=
  firstBad
    [(decide (t.opclass < 1) || decide (5 < t.opclass), (Status.descFormat, 1)),
     (t.eflags ≥ 16, (Status.descFormat, 2)),
     (t.opclass == clsAdmin && !managerSlice, (Status.descFormat, 3)),
     (decide (t.inlineLen > (if t.ext then 72 else 8)), (Status.descFormat, 4)),
     (byteAt 55 t.entry != 0 || !allZero (cut 22 2 t.entry) || !allZero (cut 30 2 t.entry), (Status.descFormat, 5))]

/-! ### Recipes -/

/-- Class set of an image: one bit for each class code of a step (R189). -/
def imgClasses (im : Bytes) : Nat :=
  (imgStepList im).foldl (fun a s => match opClass s.op with
    | some k => setFlag k a
    | none => a) 0

/-- Step 1 of R149: the image of an admitted recipe, or the failure of R174 or R190. -/
def recipeCheck (s : CC) (t : Task) : Except Ended Bytes :=
  match (if t.opcode < 4096 then Table.find t.opcode s.lib else none) with
  | none => .error (Status.recipeUnknown, 0)
  | some slot =>
    let im := slot.image
    if slot.retiring || !bit t.port (imgPorts im) then .error (Status.recipeUnknown, 0)
    else
      match firstBad
        [(decide (t.srcLen > imgSrcMax im), (Status.descFormat, 0x10)),
         (decide (t.dstLen < recipeNeed im t.srcLen), (Status.descFormat, 0x11)),
         (decide (t.inlineLen < imgInlineMin im), (Status.descFormat, 0x12)),
         ((bit 0 (imgKeyreq im) && t.key0 == 0) || (bit 1 (imgKeyreq im) && t.key1 == 0), (Status.descFormat, 0x13))] with
      | some e => .error e
      | none => .ok im

/-! ### Ranges -/

/-- Source and destination ranges share a byte. -/
def Task.rangesOverlap (t : Task) : Bool := rangesMeet' (t.srcIova, t.srcLen) (t.dstIova, t.dstLen)
where
  rangesMeet' (a b : Nat × Nat) : Bool := decide (0 < a.2) && decide (0 < b.2) && decide (a.1 < b.1 + b.2) && decide (b.1 < a.1 + a.2)

/-! ### BULK -/

/-- The digest length of a BULK hash operation. -/
def Task.bkDigest (t : Task) : Nat := hashLen t.bkMode

/-- PARAM of a BULK descriptor is defined and allowed (R302); n is the block length of the key, 16 before it is known. -/
def Task.bkParamOk (t : Task) (n : Nat) : Bool :=
  let noAad := t.bkAad == 0
  let noTlen := t.bkTlen == 0
  let noPad := t.bkPad == 0
  let iv := t.bkIvsrc
  bits 15 14 t.param == 0 && iv != 3 && t.key1 == 0 &&
  (match t.opcode with
   | 0x500 => noAad && noTlen && noPad && decide (t.bkMode ≤ 5) && (t.bkMode != 0 || iv == 0) && (t.bkMode != 2 || iv != 2)
   | 0x501 => noAad && noTlen && noPad && decide (t.bkMode ≤ 5) && (t.bkMode != 0 || iv == 0) && (t.bkMode != 2 || iv != 2) && iv != 1
   | 0x502 => noPad && t.bkMode == 0 && iv != 2 && decide (12 ≤ t.bkTlen) && decide (t.bkTlen ≤ 16)
   | 0x503 => noPad && t.bkMode == 0 && iv == 0 && decide (12 ≤ t.bkTlen) && decide (t.bkTlen ≤ 16)
   | 0x506 => noAad && noTlen && noPad && iv == 0 && decide (t.bkMode ≤ 3) && t.key0 == 0
   | 0x507 => noAad && noPad && iv == 0 && decide (t.bkMode ≤ 3) && decide (4 ≤ t.bkTlen) && decide (t.bkTlen ≤ t.bkDigest)
   | 0x508 => noAad && noPad && iv == 0 && decide (t.bkMode ≤ 3) && decide (4 ≤ t.bkTlen) && decide (t.bkTlen ≤ t.bkDigest)
   | _ => noAad && iv == 0 && [1, 3, 5].contains t.bkMode && (t.bkMode == 5) == noPad && decide (4 ≤ t.bkTlen) && decide (t.bkTlen ≤ n))

/-- A verify operation of BULK. -/
def Task.bkVerify (t : Task) : Bool := t.opcode == 0x505 || t.opcode == 0x508

/-- Inline bytes the operation reads: IV, nonce or expected value. -/
def Task.bkInline (t : Task) (n : Nat) : Nat :=
  match t.opcode with
  | 0x500 => if t.bkMode ≠ 0 ∧ t.bkIvsrc = 0 then n else 0
  | 0x501 => if t.bkMode ≠ 0 ∧ t.bkIvsrc = 0 then n else 0
  | 0x502 => if t.bkIvsrc = 0 then 12 else 0
  | 0x503 => 12
  | _ => if t.bkVerify then t.bkTlen else 0

/-- The source length is allowed (R297, R303). -/
def Task.bkLengthOk (t : Task) (n : Nat) : Bool :=
  match t.opcode with
  | 0x500 => !wholeBlocks t.bkMode || t.srcLen % n == 0
  | 0x501 => !wholeBlocks t.bkMode || t.srcLen % n == 0
  | 0x502 => decide (t.bkAad ≤ t.srcLen)
  | 0x503 => decide (t.bkAad + t.bkTlen ≤ t.srcLen)
  | _ => true

/-- Destination bytes of a BULK operation (R301). -/
def Task.bkDest (t : Task) : Nat :=
  let iv := if t.bkIvsrc = 1 then 16 else 0
  match t.opcode with
  | 0x500 => iv + t.srcLen
  | 0x501 => t.srcLen
  | 0x502 => iv + (t.srcLen - t.bkAad) + t.bkTlen
  | 0x503 => t.srcLen - t.bkAad - t.bkTlen
  | 0x504 => t.bkTlen
  | 0x506 => t.bkDigest
  | 0x507 => t.bkTlen
  | _ => 0

/-- The table of R303 for a block length. -/
def Task.bkTable (t : Task) (nParam nInline nLen : Nat) : Option Ended :=
  let inPlace := (t.opcode == 0x500 || t.opcode == 0x501) && t.bkIvsrc != 1 && t.srcIova == t.dstIova
  firstBad
    [(!t.bkParamOk nParam, (Status.inputFormat, 0x501)),
     (decide (t.inlineLen < t.bkInline nInline), (Status.inputFormat, 0x502)),
     (!t.bkLengthOk nLen, (Status.inputFormat, 0x503)),
     (decide (t.dstLen < t.bkDest), (Status.inputFormat, 0x504)),
     (t.rangesOverlap && !inPlace, (Status.inputFormat, 0x505))]

/-- The entry checks of BULK: what needs the key's block length waits for it. -/
def Task.bulkCheck (t : Task) : Option Ended :=
  if t.opcode < 0x500 ∨ 0x508 < t.opcode then some (Status.descFormat, 1) else t.bkTable 16 8 8

/-- The usage class KEY0 of a BULK operation needs. -/
def Task.bkUsage (t : Task) : Nat := if t.opcode ≤ 0x503 then Usage.data else Usage.mac

/-- Algorithms KEY0 of a BULK operation may have (R197, R303). -/
def Task.bkAlgs (t : Task) : List Nat :=
  match t.opcode with
  | 0x500 => [0, 1, 2, 3, 4]
  | 0x501 => [0, 1, 2, 3, 4]
  | 0x502 => [2, 3, 4]
  | 0x503 => [2, 3, 4]
  | 0x507 => [2, 3, 4, 5]
  | 0x508 => [2, 3, 4, 5]
  | _ => if t.bkMode = 3 then [0] else [0, 1, 2, 3, 4]

/-- The checks of a BULK operation on its resolved key (R303). -/
def Task.bulkKeyCheck (t : Task) (k : Ctx) : Option Ended :=
  if k.usage ≠ t.bkUsage then some (Status.keyUseDenied, 0)
  else if !t.bkAlgs.contains k.alg then some (Status.inputFormat, 0x506)
  else let n := blockBytes k.alg
       t.bkTable n n n

/-! ### PK_DIRECT -/

/-- LEN of a PK_DIRECT PARAM (R321). -/
def Task.pkLen (t : Task) : Nat := bits 31 16 t.param
/-- ALG. -/
def Task.pkAlg (t : Task) : Nat := bits 15 8 t.param
/-- FORMAT: SLOTS. -/
def Task.pkSlots (t : Task) : Bool := bit 4 t.param
/-- SEL. -/
def Task.pkSel (t : Task) : Nat := bits 3 0 t.param

/-- Bytes of an integer whose modulus has a number of bits, in either FORMAT (R318). -/
def intBytes (slots : Bool) (modBits : Nat) : Nat := if slots then 8 * ceilDiv modBits 48 else ceilDiv modBits 8

/-- Hash selector of an RSA scheme: 0 SHA-256, 1 SHA-384, 2 SHA-512 (R323). -/
def schemeHash (s : Nat) : Nat := s % 3

/-- Whether a key algorithm suits a scheme (R323). -/
def schemeSuits (s alg : Nat) : Bool :=
  if s ≤ 6 then alg == 0x10
  else if s = 7 then decide (0x11 ≤ alg) && decide (alg ≤ 0x15)
  else if s ≤ 9 then alg == 0x17
  else s == 10 && alg == 0x18

/-- LEN lies in the scheme's range (R323). -/
def schemeLenOk (s len : Nat) : Bool :=
  if s ≤ 5 then len == hashLen (schemeHash s)
  else if s = 6 then len == 0
  else if s = 7 then decide (1 ≤ len) && decide (len ≤ 64)
  else if s = 9 then len == 64
  else decide (1 ≤ len) && decide (len ≤ 65535)

/-- An RSA key is long enough for a scheme's encoding (R323): DigestInfo is the digest and 19 bytes. -/
def rsaFits (s nbits : Nat) : Bool :=
  let h := hashLen (schemeHash s)
  if s ≤ 2 then decide (ceilDiv nbits 8 ≥ 19 + h + 11)
  else if s ≤ 5 then decide (ceilDiv (nbits - 1) 8 ≥ 2 * h + 2)
  else true

/-- Bytes of a signature of a key algorithm and size (R319). -/
def sigBytes (slots : Bool) (alg nbits : Nat) : Nat :=
  match alg with
  | 0x10 => intBytes slots nbits
  | 0x17 => 64
  | 0x18 => 3309
  | _ => match curveOf alg with
    | some k => 2 * intBytes slots (bitLen k.n)
    | none => 0

/-- Bytes of a public key (R319). -/
def pubBytes (alg nbits : Nat) : Nat :=
  match alg with
  | 0x10 => 10 + ceilDiv nbits 8
  | 0x16 => 32
  | 0x17 => 32
  | 0x18 => 1952
  | 0x19 => 1184
  | _ => match curveOf alg with
    | some k => 1 + 2 * k.c
    | none => 0

/-- The RSA sizes of R319. -/
def rsaSizeOk (nbits : Nat) : Bool := decide (512 ≤ nbits) && decide (nbits ≤ 8192) && nbits % 8 == 0

/-- The RSA size, in bits, of a PK_VERIFY with a supplied key, read from its source length. -/
def Task.pkSuppliedRsa (t : Task) : Option Nat :=
  ((List.range 961).map (fun i => 512 + 8 * i)).find? (fun n => t.srcLen == pubBytes 0x10 n + t.pkLen + sigBytes t.pkSlots 0x10 n)

/-- Bytes of Z of a curve (R318, R324). -/
def zBytes (slots : Bool) (alg : Nat) : Nat :=
  match curveOf alg with
  | some k => intBytes slots (bitLen k.p)
  | none => 32

/-- The operation or scheme needs LATTICE mode (R315, R322). -/
def Task.pkLattice (t : Task) : Bool :=
  t.opcode == 0x403 || t.opcode == 0x404 || ((t.opcode == 0x400 || t.opcode == 0x401) && t.pkSel == 10)

/-- Test 2 of R322. -/
def Task.pkParamOk (t : Task) : Bool :=
  bits 7 5 t.param == 0 && t.key1 == 0 &&
  (match t.opcode with
   | 0x400 => t.pkAlg == 0 && decide (t.pkSel ≤ 10)
   | 0x401 => decide (t.pkSel ≤ 10) && (if t.key0 = 0 then [0x10, 0x11, 0x12, 0x13, 0x14, 0x15, 0x17, 0x18].contains t.pkAlg else t.pkAlg == 0)
   | 0x402 => t.pkAlg == 0 && t.pkLen == 0 && decide (1 ≤ t.pkSel) && decide (t.pkSel ≤ 6)
   | 0x403 => t.pkAlg == 0 && t.pkLen == 0 && t.pkSel == 0 && !t.pkSlots
   | 0x404 => !t.pkSlots && t.pkAlg == 0 && t.pkLen == 0 && t.pkSel == 0 && t.key0 == 0
   | _ => t.pkAlg == 0 && t.pkSel == 0 && t.key0 == 0)

/-- Test 3 of R322 as far as the entry decides it. -/
def Task.pkLengthOk (t : Task) : Bool :=
  let n := t.pkLen
  decide (t.srcLen ≤ 65536) &&
  (match t.opcode with
   | 0x400 => schemeLenOk t.pkSel n && (t.pkSel == 6 || t.srcLen == n)
   | 0x401 => schemeLenOk t.pkSel n &&
       (if t.key0 = 0 then
          (if t.pkAlg = 0x10 then t.pkSuppliedRsa.isSome
           else t.srcLen == pubBytes t.pkAlg 0 + n + sigBytes t.pkSlots t.pkAlg 0)
        else decide (n ≤ t.srcLen))
   | 0x402 => t.srcLen == pubBytes (0x10 + t.pkSel) 0
   | 0x403 => t.srcLen == 1088
   | 0x404 => t.srcLen == 1184
   | _ =>
     let unit := if t.pkSlots then 8 else 1
     decide (1 ≤ n) && n % unit == 0 && decide (n ≤ (if t.pkSlots then 1368 else 1024)) &&
       (if t.opcode = 0x406 then t.srcLen == 3 * n
        else decide (2 * n + unit ≤ t.srcLen) && decide (t.srcLen ≤ 3 * n) && t.srcLen % unit == 0))

/-- Destination bytes as far as the entry decides them. -/
def Task.pkDest (t : Task) : Nat :=
  match t.opcode with
  | 0x400 => if t.pkSel = 8 ∨ t.pkSel = 9 then 64 else if t.pkSel = 10 then 3309 else 0
  | 0x402 => zBytes t.pkSlots (0x10 + t.pkSel)
  | 0x403 => 32
  | 0x404 => 1120
  | 0x405 => t.pkLen
  | 0x406 => t.pkLen
  | _ => 0

/-- The entry checks of PK_DIRECT (R320, R322). -/
def Task.pkCheck (t : Task) (v : Variant) : Option Ended :=
  if t.opcode < 0x400 ∨ 0x406 < t.opcode then some (Status.descFormat, 1)
  else
    firstBad
      [(t.pkLattice && !Config.lattice v, (Status.engineAbsent, 3)),
       (!t.pkParamOk, (Status.inputFormat, 0x401)),
       (!t.pkLengthOk, (Status.inputFormat, 0x402)),
       (decide (t.dstLen < t.pkDest), (Status.inputFormat, 0x403)),
       (t.rangesOverlap, (Status.inputFormat, 0x405)),
       (t.opcode == 0x401 && t.key0 == 0 && !schemeSuits t.pkSel t.pkAlg, (Status.inputFormat, 0x404)),
       (t.opcode == 0x401 && t.key0 == 0 && t.pkAlg == 0x10 && !rsaFits t.pkSel (t.pkSuppliedRsa.getD 0), (Status.inputFormat, 0x404))]

/-- The usage class KEY0 of a PK_DIRECT operation needs. -/
def Task.pkUsage (t : Task) : Nat :=
  match t.opcode with
  | 0x400 => Usage.sign
  | 0x401 => Usage.verify
  | 0x402 => Usage.agree
  | _ => Usage.kem

/-- KEY0's algorithm suits SEL. -/
def Task.pkSuits (t : Task) (k : Ctx) : Bool :=
  match t.opcode with
  | 0x402 => k.alg == 0x10 + t.pkSel
  | 0x403 => k.alg == 0x19
  | _ => schemeSuits t.pkSel k.alg && (k.alg != 0x10 || rsaFits t.pkSel k.bitLen)

/-- Output of PK_SIGN and PK_AGREE under a key (R320, R323, R324). -/
def Task.pkOutput (t : Task) (alg nbits : Nat) : Nat :=
  if t.opcode = 0x400 then sigBytes t.pkSlots alg nbits else zBytes t.pkSlots alg

/-- The output length of a task as the tree shows its key (R389): none where the operation has none of its own or KEY0 names no node. -/
def CC.outLen (s : CC) (t : Task) : Option Nat :=
  if t.opclass = clsPk ∧ (t.opcode = 0x400 ∨ t.opcode = 0x402) then
    ((Table.findD (t.key0 / 2 ^ 24) ({} : KSlot) s.kt.slots).node).map (fun n => t.pkOutput n.alg n.bitLen)
  else none

/-- The checks of a PK_DIRECT operation on its resolved key (R322), and those of its lengths that the key decides. -/
def Task.pkKeyCheck (t : Task) (k : Ctx) : Option Ended :=
  let sb := sigBytes t.pkSlots k.alg k.bitLen
  firstBad
    [(k.usage != t.pkUsage, (Status.keyUseDenied, 0)),
     (!t.pkSuits k, (Status.inputFormat, 0x404)),
     ((t.opcode == 0x402 || t.opcode == 0x403) && !bit 0 k.attrs, (Status.keyUseDenied, 0x406)),
     (t.opcode == 0x400 && t.pkSel == 6 && t.srcLen != sb, (Status.inputFormat, 0x402)),
     (t.opcode == 0x401 && t.srcLen != t.pkLen + sb, (Status.inputFormat, 0x402)),
     (t.opcode == 0x400 && decide (t.dstLen < sb), (Status.inputFormat, 0x403))]

/-! ### Operations without steps -/

/-- The ADMIN operations (R175, R265, R368). -/
def adminCodes : List Nat :=
  [0x100, 0x101, 0x102, 0x200, 0x201, 0x202, 0x203, 0x204, 0x205, 0x206, 0x207, 0x208, 0x209, 0x210, 0x211, 0x212,
   0x600, 0x601, 0x602, 0x603, 0x604]

/-- The CUSTODY operations (R282, R400, R414, R418, R434). -/
def custodyCodes : List Nat :=
  [0x300, 0x301, 0x302, 0x303, 0x304, 0x305, 0x306, 0x307, 0x308, 0x309, 0x30A, 0x30B, 0x30C, 0x310, 0x311, 0x312, 0x313,
   0x320, 0x321, 0x330, 0x331, 0x332, 0x340]

/-- The operations R282 marks H. -/
def custodyH : List Nat := [0x300, 0x301, 0x302, 0x306, 0x30A, 0x30B]

/-- The checks of an ADMIN or CUSTODY entry: the code, the unit it needs, the slice. -/
def Task.opCheck (t : Task) (v : Variant) (managerSlice : Bool) (mode : Nat) : Option Ended :=
  if t.opclass = clsAdmin then
    firstBad
      [(!adminCodes.contains t.opcode, (Status.descFormat, 1)),
       (decide (0x600 ≤ t.opcode) && !Config.sieve v, (Status.engineAbsent, 5))]
  else
    firstBad
      [(!custodyCodes.contains t.opcode, (Status.descFormat, 1)),
       (!managerSlice, (Status.modeRefused, mode))]

/-! ### Classes (R149, R159, R169, R393) -/

/-- The classes a task needs, one bit a class code. -/
def Task.classNeeds (t : Task) (im : Bytes) : Nat :=
  if t.opclass = clsRecipe then imgClasses im
  else if t.opclass = clsPk then 0x48
  else if t.opclass = clsBulk then (if t.bkHash then 4 else 2)
  else if t.opclass = clsAdmin ∧ 0x600 ≤ t.opcode then 0x20
  else 0

/-- A class is present in the variant (R171). -/
def classPresent (v : Variant) (k : Nat) : Bool := k == 0 || k == 6 || (decide (k ≤ 5) && Config.perHalf v k != 0)

/-- Step 2 of R149: a needed class that is absent, disabled, or without a usable engine. Where several are, the spec does not say which of them DETAIL names: the lowest class code, whatever its case (DESIGN CHOICE, log entry 101). -/
def Core.classCheck (c : Core) (needs : Nat) : Option Ended :=
  (setBits 8 needs).findSome? (fun k =>
    if !classPresent c.g.variant k then some (Status.engineAbsent, k)
    else if !c.r.clsOn.getD k true then some (Status.engineAbsent, 0x100 + k)
    else if 1 ≤ k ∧ k ≤ 5 ∧ c.capCount k = 0 then some (Status.engineAbsent, 0x200 + k)
    else none)

/-- Every check of a fetched entry after its mode has been seen to serve it: the failure, or the image of its recipe and the classes it needs (R81, R149). -/
def Core.entryCheck (c : Core) (t : Task) (managerSlice : Bool) : Except Ended (Bytes × Nat) :=
  match t.formatCheck managerSlice with
  | some e => .error e
  | none =>
    let special : Except Ended Bytes :=
      if t.opclass = clsRecipe then recipeCheck c.cc t
      else
        match (if t.opclass = clsBulk then t.bulkCheck
               else if t.opclass = clsPk then t.pkCheck c.g.variant
               else t.opCheck c.g.variant managerSlice c.g.mode.code) with
        | some e => .error e
        | none => .ok []
    match special with
    | .error e => .error e
    | .ok im =>
      match c.classCheck (t.classNeeds im) with
      | some e => .error e
      | none => .ok (im, t.classNeeds im)

/-- A recipe step uses a private key (R326). -/
def RStep.usesPrivate (s : RStep) : Bool := s.op == 0x60 || s.op == 0x62

/-- The random requests a task makes at admission, in bytes (R157, R178, R326): a recipe's RND_LEN and 64 for each step that uses a private key, 64 for a PK_DIRECT operation that does and for an encapsulation, and 64 for a key generation, KT_ROLL included, whose request alone tells whether its sibling is generated. The padding of a key export and a challenge are draws made when the operation runs (log entry 40). -/
def Task.rndSizes (t : Task) : List Nat :=
  if t.opclass = clsRecipe then
    (if imgRndLen t.image = 0 then [] else [imgRndLen t.image]) ++ ((imgStepList t.image).filter (·.usesPrivate)).map (fun _ => 64)
  else if t.opclass = clsAdmin then (if t.opcode = 0x201 ∨ t.opcode = 0x204 ∨ t.opcode = 0x210 then [64] else [])
  else if t.opclass = clsPk then (if t.opcode = 0x401 ∨ t.opcode ≥ 0x405 then [] else [64])
  else []

/-- Random bytes a task draws at admission. -/
def Task.rndLen (t : Task) : Nat := t.rndSizes.sum

/-- KEY0 is resolved at admission: named in a recipe's entry, or needed by the operation. -/
def Task.needsKey0 (t : Task) : Bool :=
  if t.opclass = clsRecipe then t.key0 != 0
  else if t.opclass = clsPk then (t.opcode == 0x400 || t.opcode == 0x402 || t.opcode == 0x403 || (t.opcode == 0x401 && t.key0 != 0))
  else t.opclass == clsBulk && t.opcode != 0x506

/-- KEY1 is resolved at admission. -/
def Task.needsKey1 (t : Task) : Bool := t.opclass == clsRecipe && t.key1 != 0

end Sys2Proof.Machine
end

