-- ==== Sys2Proof/Machine/Control.lean ====
section
/-! DEFINITION. GLB_CTRL and its writes, quiescing and resuming, the configuration-consistency check, and the enables of ports, slices and ring pairs (R39 to R45, R53, R78, R102, R103, R123, R124). -/

namespace Sys2Proof.Machine

/-! ### Host accesses -/

/-- A write that is dropped and counted (R9, R12): LAST_BAR (0 for BAR0, 1 for BAR2) and LAST_OFFSET name it, and source 64 tells the port's manager. -/
def Core.refuseWrite (c : Core) (port bar offset : Nat) : Core :=
  (c.updPort port (fun p => { p with errCount := sat 24 (p.errCount + 1), errOffset := bits 23 3 offset, errBar := bar % 2 })).pulse (2 ^ port) 64

/-- Puts a write in the host-write log (R384). -/
def Core.logHost (c : Core) (port bar offset : Nat) (v : Option Nat) : Core :=
  { c with hostLog := c.hostLog ++ [{ epoch := c.cc.epoch, port := port, bar := bar, offset := offset, value := v.map w64 }] }

/-- A register write from a port: reached only over a live link, dropped without count on a scrapped unit (R62) and by a unit with no complex left (R391), and logged otherwise. -/
def Core.hostWrite (c : Core) (port bar offset v : Nat) (f : Core → Core) : Core :=
  if !c.hostUp port || c.scrapped || c.cont.dead then c else f (c.logHost port bar offset (some v))

/-- The modes in which configuration registers are read-only (R32). The spec does not list the configuration registers: here they are every register of BAR0 but those that R33, R39, R74 and R147 except by name, counters and W1C fields included (DESIGN CHOICE, log entry 10). -/
def Core.frozen (c : Core) : Bool :=
  match c.g.mode with
  | .retain => true
  | .wake => true
  | .seed => true
  | .transit => true
  | .safeHalt => true
  | .zeroized => true
  | _ => false

/-! ### Quiescing (R41, R53) -/

/-- Stops fetching and drains; ABORT takes big-number tasks (R41, R53). ENABLE takes the value written. -/
def Core.quiesce (c : Core) (enable : Bool) : Core :=
  let c := { c with g := { c.g with enable := enable } }
  let c := match c.g.mode with
    | .analysis => { c with g := { c.g with phase := .quiesced } }
    | _ => c.setMode .quiesce
  if c.g.abort then c.abort (fun _ => true) 1 else c

/-- Returns to service (R42, R53): ring positions stay. -/
def Core.resume (c : Core) : Core :=
  match c.g.mode with
  | .analysis =>
    let was := c.g.drained
    let c := { c with g := { c.g with phase := .serving, drained := false } }
    if was then c.noteMode else c
  | _ => c.setMode c.serveMode

/-- The checks of a kind 0 run. -/
def Core.globalChecking (c : Core) : Bool := c.g.checks.any (·.kind == 0)

/-- GLB_MODE.CHECKING: a configuration-consistency check runs, of whatever scope (R37). -/
def Core.anyCheck (c : Core) : Bool := !c.g.checks.isEmpty

/-- Starts the global check (R43); while a check runs the write is ignored (R40). -/
def Core.startGlobalCheck (c : Core) : Core :=
  if c.anyCheck then c else { c with g := { c.g with checks := c.g.checks ++ [{ kind := 0, port := 0, index := 0 }] } }

/-- Cancels the global check (R40). -/
def Core.cancelGlobalCheck (c : Core) : Core :=
  if c.globalChecking then { c with g := { c.g with checks := c.g.checks.filter (·.kind != 0), reason := 0 } } else c

/-- The fields of GLB_CTRL other than HALT, in the modes in which they are writable (R39). ENABLE = 1 is ignored while a check runs (R40). QUIESCE = 1 and ENABLE = 0 outside the modes that R39 names for them are ignored and not held (DESIGN CHOICE, log entry 13). -/
def Core.glbFields (c : Core) (v : Nat) : Core :=
  let en := bit 0 v && (c.g.enable || !c.anyCheck)
  let c := { c with g := { c.g with abort := bit 3 v } }
  let serving := (c.g.mode == .serve || c.g.mode == .serveReduced) || (c.g.mode == .analysis && c.g.phase == .serving)
  let configuring := c.g.mode == .setup || (c.g.mode == .analysis && c.g.phase == .configuring)
  if serving then (if bit 1 v || !en then c.quiesce en else c)
  else if c.quiesced then
    let c := { c with g := { c.g with enable := en } }
    if bit 2 v && en then c.resume else c
  else if configuring then (if bit 0 v then c.startGlobalCheck else c.cancelGlobalCheck)
  else c

/-- A write of GLB_CTRL (R39). HALT takes precedence over the other triggers of the same write (R35); ABORT is a field like any other. -/
def Core.writeGlbCtrl (c : Core) (port v : Nat) : Core :=
  c.hostWrite port 0 0x50 v (fun c =>
    if port ≠ 0 ∨ c.g.mode = .zeroized ∨ (c.g.mode = .wake ∧ c.g.wakeFault ≠ 0) then c.refuseWrite port 0 0x50
    else if bit 4 v then (if c.frozen then c else { c with g := { c.g with abort := bit 3 v } }).enterSafeHalt 2 0
    else if c.frozen then c
    else c.glbFields v)

/-! ### The configuration-consistency check (R43 to R45) -/

/-- A reason register's value (R45). -/
def reasonWord (code kind object sub : Nat) : W48 := w48 (code + 2 ^ 16 * object + 2 ^ 28 * kind + 2 ^ 32 * sub)

/-- What a check covers: the unit, a port or a slice, with the ports it looks at. -/
structure CheckScope where
  kind : Nat
  port : Nat
  slice : Nat
deriving DecidableEq, Repr

/-- Ports a check looks at, in order. -/
def Core.checkPorts (c : Core) (k : CheckScope) : List Nat :=
  if k.kind = 0 then ((List.range 4).filter (fun n => c.created n && (c.port n).enable)) else [k.port]

/-- Local slices of a port that count as enabled for a check: those whose ENABLE is 1, and the one being enabled. -/
def Core.checkEnabled (c : Core) (k : CheckScope) (port : Nat) : List Nat :=
  (List.range (c.port port).slcCount).filter (fun l =>
    (c.slice ((c.port port).slcBase + l)).enable || (k.kind == 2 && k.port == port && k.slice == l))

/-- Local slices a check examines. -/
def Core.checkSlices (c : Core) (k : CheckScope) (port : Nat) : List Nat :=
  if k.kind = 2 then [k.slice] else c.checkEnabled k port

/-- Local ring pairs a check examines: those of a port by ring number over all its slices, where R44's order can also be read slice by slice (DESIGN CHOICE, log entry 92). -/
def Core.checkRings (c : Core) (k : CheckScope) (port : Nat) : List Nat :=
  ((c.ringsOf port).filter (fun r => (c.ringOf r).enable && (k.kind != 2 || (c.ringOf r).slice == k.slice))).map (c.ringLocal port)

/-- Two ranges (base, count) overlap. -/
def rangesMeet (a b : Nat × Nat) : Bool := decide (0 < a.2) && decide (0 < b.2) && decide (a.1 < b.1 + b.2) && decide (b.1 < a.1 + a.2)

/-- SPLIT_EXCEEDS at a port (R68). -/
def Core.splitBad (c : Core) (n : Nat) : Bool :=
  let p := c.port n
  let v := c.g.variant
  if c.created n then
    decide (p.slcBase + p.slcCount > Config.slices v) || decide (p.ringBase + p.ringCount > Config.ringPairs v)
      || decide (p.quota > Config.inflight v)
      || (List.range n).any (fun m => c.created m &&
          (rangesMeet ((c.port m).slcBase, (c.port m).slcCount) (p.slcBase, p.slcCount)
            || rangesMeet ((c.port m).ringBase, (c.port m).ringCount) (p.ringBase, p.ringCount)))
  else p.slcBase != 0 || p.slcCount != 0 || p.ringBase != 0 || p.ringCount != 0 || p.quota != 0

/-- The port at which the quotas of the ports summed first exceed the variant's operations in flight (QUOTA_SUM). -/
def quotaOver (limit : Nat) (quota : Nat → Nat) : List Nat → Nat → Option Nat
  | [], _ => none
  | n :: r, acc => if acc + quota n > limit then some n else quotaOver limit quota r (acc + quota n)

/-- Tests 1 to 4 of R44. SPLIT_EXCEEDS names the lowest port at which it shows, with KIND 1, where the spec leaves KIND and OBJECT open (DESIGN CHOICE, log entry 15). -/
def Core.checkUnit (c : Core) (k : CheckScope) : Option W48 :=
  if k.kind = 2 then none
  else
    match (List.range 4).find? c.splitBad with
    | some n => some (reasonWord 0x0009 1 n 0)
    | none =>
      let enabled := (List.range 4).filter (fun n => c.created n && ((c.port n).enable || (k.kind == 1 && k.port == n)))
      match quotaOver (Config.inflight c.g.variant) (fun n => (c.port n).quota) enabled 0 with
      | some n => some (reasonWord 0x0008 1 (if k.kind = 1 then k.port else n) 0)
      | none =>
        match (c.checkPorts k).find? (fun n => (c.port n).slack == 0) with
        | some n => some (reasonWord 0x000C 1 n 0)
        | none =>
          let count := bits 6 0 c.r.longPool.toNat
          let lbits := bits 29 16 c.r.longPool.toNat
          if k.kind = 0 ∧ (count = 0 ∨ count ≥ (c.enginesUp 3).length ∨ lbits < 512 ∨ lbits > 8192) then some (reasonWord 0x000D 0 0 0)
          else none

/-- The valid windows of a slice with their numbers, in order (R112). -/
def Slc.validWindows (s : Slc) : List (Nat × Window) := s.windows.filter (fun e => bit 5 e.2.attr)

/-- Bytes of a window as a range; pages past 2^64 are not part of it (R112). -/
def Window.range (w : Window) : Nat × Nat := (w.base, min (w.base + w.len) (2 ^ 64) - w.base)

/-- WINDOW_ALIGN in a slice: the first window that fails. -/
def Slc.alignBad (s : Slc) : Option Nat :=
  ((s.validWindows).find? (fun e => e.2.base % 4096 != 0 || e.2.len % 4096 != 0 || e.2.len == 0)).map (·.1)

/-- WINDOW_OVERLAP in a slice: the higher-numbered window of the first overlapping pair. Which pair is found first the spec leaves open: the one whose higher-numbered window is lowest (DESIGN CHOICE, log entry 91). -/
def Slc.overlapBad (s : Slc) : Option Nat :=
  ((s.validWindows).find? (fun e => s.validWindows.any (fun o => decide (o.1 < e.1) && rangesMeet o.2.range e.2.range))).map (·.1)

/-- A range of n bytes lies wholly in one valid window with a permission bit and the ring tag. -/
def Slc.ringInside (s : Slc) (a n perm : Nat) : Bool :=
  s.validWindows.any (fun e => bit perm e.2.attr && bit 2 e.2.attr && decide (e.2.base ≤ a) && decide (a + n ≤ e.2.base + e.2.len) && decide (a + n ≤ 2 ^ 64))

/-- Tests 5 to 8 of R44 over the slices of a port, for one test number. SLICE_PASID_DUP names the higher-numbered slice of the first pair found (DESIGN CHOICE, log entry 14). -/
def Core.checkSliceTest (c : Core) (k : CheckScope) (port test : Nat) : Option W48 :=
  let en := c.checkEnabled k port
  let at_ (l : Nat) : Slc := c.slice ((c.port port).slcBase + l)
  (c.checkSlices k port).findSome? (fun l =>
    match test with
    | 5 => if l ≠ 0 ∧ !en.contains 0 then some (reasonWord 0x000B 2 l 0) else none
    | 6 => if en.any (fun o => o != l && (k.kind == 2 || decide (o < l)) && (at_ o).pasid == (at_ l).pasid) then
        some (reasonWord 0x0007 2 l 0) else none
    | 7 => ((at_ l).alignBad).map (reasonWord 0x0005 4 l)
    | _ => ((at_ l).overlapBad).map (reasonWord 0x0006 4 l))

/-- Tests 9 to 13 of R44 for one ring pair of a port. -/
def Core.ringBad (c : Core) (k : CheckScope) (port r test : Nat) : Bool :=
  let g := c.ringOf ((c.port port).ringBase + r)
  let s := c.slice ((c.port port).slcBase + g.slice)
  match test with
  | 9 => !(c.checkEnabled k port).contains g.slice
  | 10 => decide (g.log2 < 6) || decide (g.log2 > 16)
  | 11 => g.sq % 4096 != 0 || g.cq % 4096 != 0
  | 12 => !s.ringInside g.sq (64 * 2 ^ g.log2) 0 || !s.ringInside g.cq (32 * 2 ^ g.log2) 1
  | _ => g.msgEn && g.msgAddr == 0

/-- The reason code of a ring test. -/
def ringTestCode (test : Nat) : Nat :=
  match test with
  | 9 => 0x0004
  | 10 => 0x0002
  | 11 => 0x0001
  | 12 => 0x0003
  | _ => 0x000A

/-- The whole check: the reason of its first failure, none when it passes (R44). -/
def Core.check (c : Core) (k : CheckScope) : Option W48 :=
  match c.checkUnit k with
  | some r => some r
  | none =>
    match [5, 6, 7, 8].findSome? (fun t => (c.checkPorts k).findSome? (fun n => c.checkSliceTest k n t)) with
    | some r => some r
    | none => [9, 10, 11, 12, 13].findSome? (fun t => (c.checkPorts k).findSome? (fun n =>
        ((c.checkRings k n).find? (fun r => c.ringBad k n r t)).map (fun r => reasonWord (ringTestCode t) 3 r 0)))

/-- Starts what the global enable covers on a port (R78, R110): the port where it is enabled, with its slices, or else its enabled slices alone. -/
def Core.startCovered (c : Core) (port : Nat) : Core :=
  if (c.port port).enable then c.startPort port
  else ((c.slicesOf port).filter (fun s => (c.slice s).enable)).foldl (fun c s => c.startSlice port s) c

/-- Accepts the global enable (R43): service begins and everything it covers is started. -/
def Core.acceptGlobal (c : Core) : Core :=
  let c := { c with g := { c.g with enable := true, locked := true, reason := 0 } }
  let c := match c.g.mode with
    | .analysis => { c with g := { c.g with phase := .serving } }
    | _ => c.setMode c.serveMode
  ((List.range 4).filter c.created).foldl (fun c n => c.startCovered n) c

/-- Sets the reason register of a check's object (R43, R45). -/
def Core.setReason (c : Core) (k : CheckScope) (r : W48) : Core :=
  if k.kind = 0 then { c with g := { c.g with reason := r } }
  else if k.kind = 1 then c.updPort k.port (fun p => { p with reason := r })
  else c.updSlice ((c.port k.port).slcBase + k.slice) (fun x => { x with reason := r })

/-- A check that has passed: the global enable is accepted, or the object's own; with no global enable in force the object's enable is recorded and starts nothing (R43), also where its check was asked before QUIESCE passed to SETUP. -/
def Core.checkPassed (c : Core) (k : CheckScope) : Core :=
  if k.kind = 0 then c.acceptGlobal
  else if k.kind = 1 then (if c.g.locked then c.startPort k.port else c.updPort k.port (fun p => { p with enable := true }))
  else
    let s := (c.port k.port).slcBase + k.slice
    if !c.g.locked then c.updSlice s (fun x => { x with enable := true })
    else (c.updSlice s (fun x => { x with enable := true })).startSlice k.port s

/-- The end of a check (R44, R45): its reason register is updated, and the enable is accepted, or event source 161 tells the manager that wrote it (R36). The check of an enable recorded in SETUP leaves the record as it is, for the global check to test again (R43; DEDUCED, log entry 9). -/
def Core.endCheck (c : Core) (kind port slice : Nat) : Core :=
  if !c.g.checks.contains ⟨kind, port, slice⟩ then c
  else
    let c := { c with g := { c.g with checks := c.g.checks.filter (fun k => k != (⟨kind, port, slice⟩ : Check)) } }
    let k : CheckScope := { kind := kind, port := port, slice := slice }
    match c.check k with
    | none => (c.setReason k 0).checkPassed k
    | some r => (c.setReason k r).pulse (if kind = 0 then 1 else 2 ^ port) 161

/-! ### Enables of ports, slices and ring pairs -/

/-- A check of an object runs. -/
def Core.checking (c : Core) (kind port idx : Nat) : Bool := c.g.checks.contains ⟨kind, port, idx⟩

/-- Requests a check, or ignores the request while it or the global check runs (R43). -/
def Core.requestCheck (c : Core) (kind port idx : Nat) : Core :=
  if c.checking kind port idx then c
  else { c with g := { c.g with checks := c.g.checks ++ [{ kind := kind, port := port, index := idx }] } }

/-- Cancels a check. -/
def Core.cancelCheck (c : Core) (kind port idx : Nat) : Core :=
  { c with g := { c.g with checks := c.g.checks.filter (fun k => k != (⟨kind, port, idx⟩ : Check)) } }

/-- A write of PORT_CTRL (R43, R102, R107). Where no global enable is in force the enable is recorded at once, and its check runs all the same, also where it reads 1 already. The ABORT that qualifies a disable is the one the same write carries (DESIGN CHOICE, log entry 20). ENABLE = 1 of a port enabled in service is ignored, with no check (DESIGN CHOICE, log entry 93). -/
def Core.writePortCtrl (c : Core) (port v : Nat) : Core :=
  c.hostWrite port 0 0x10000 v (fun c =>
    if c.frozen then c.refuseWrite port 0 0x10000
    else
      let c := c.updPort port (fun p => { p with abort := bit 1 v })
      if c.globalChecking then c
      else if bit 0 v then
        (if (c.port port).enable && c.g.locked then c
         else (if c.g.locked then c else c.updPort port (fun p => { p with enable := true })).requestCheck 1 port 0)
      else if c.checking 1 port 0 then (c.cancelCheck 1 port 0).updPort port (fun p => { p with reason := 0, enable := false })
      else if (c.port port).enable then
        let c := c.updPort port (fun p => { p with enable := false })
        if bit 1 v then c.abort (·.port == port) 2 else c
      else c)

/-- BAR0 offset of a slice register. -/
def slcOffset (l o : Nat) : Nat := 0x40000 + l * 0x100 + o
/-- BAR0 offset of a ring register. -/
def ringOffset (l o : Nat) : Nat := 0x80000 + l * 0x40 + o

/-- Another slice of the port is enabled (R124). -/
def Core.otherSliceOn (c : Core) (port : Nat) : Bool :=
  ((List.range (c.port port).slcCount).drop 1).any (fun l => (c.slice ((c.port port).slcBase + l)).enable)

/-- A write of SLC_CTRL (R43, R109, R123, R124). With its port enabled its check runs; with no global enable in force, or with the port not enabled, the enable is recorded at once, and the global or port check covers it; recording it while the port is not enabled is the model's choice (DESIGN CHOICE, log entry 94). ENABLE = 1 of a slice enabled in service is ignored, with no check (DESIGN CHOICE, log entry 93). The ABORT that qualifies a disable is the one the same write carries (DESIGN CHOICE, log entry 20). -/
def Core.writeSlcCtrl (c : Core) (port l v : Nat) : Core :=
  c.hostWrite port 0 (slcOffset l 0) v (fun c =>
    match c.slcNo port l with
    | none => c.refuseWrite port 0 (slcOffset l 0)
    | some s =>
      if c.frozen || (l == 0 && !bit 0 v && c.otherSliceOn port) then c.refuseWrite port 0 (slcOffset l 0)
      else
        let c := c.updSlice s (fun x => { x with abort := bit 1 v })
        if c.globalChecking then c
        else if bit 0 v then
          (if (c.slice s).enable && c.g.locked then c
           else
             let on := (c.port port).enable
             let c := if c.g.locked && on then c else c.updSlice s (fun x => { x with enable := true })
             if on then c.requestCheck 2 port l else c)
        else if c.checking 2 port l then (c.cancelCheck 2 port l).updSlice s (fun x => { x with reason := 0, enable := false })
        else if (c.slice s).enable then
          let c := c.updSlice s (fun x => { x with enable := false })
          if bit 1 v then c.abort (·.slice == s) 4 else c
        else c)

/-- Disables a ring pair (R103): its staged completions are discarded and counted, it sends no message, and an extended entry that it holds is dropped with its reservation. -/
def Core.disableRing (c : Core) (r : Nat) (abort : Bool) : Core :=
  let c := c.updRing r (fun g => { g with enable := false, armedAt := none })
  let c := { c with ports := c.ports.map (fun (p : Port) => { p with msgs := p.msgs.filter (·.ring != r) }) }
  let c := if abort then c.abort (·.ring == r) 3 else c
  c.allCC (fun s => (s.dropFetch (fun t => t.ring == r && t.held)).discardWhere (·.ring == r))

/-- Hands one interrupt message of a ring pair to the port's mover, where it is enabled with MSG_EN (R97, R99). For the order of R101 it has the deadline and sequence number of the ring pair's last arming, a message for a mailbox too, which has no task (DESIGN CHOICE, log entry 98). -/
def Core.ringMessage (c : Core) (port r : Nat) : Core :=
  let g := c.ringOf r
  if g.msgEn && g.enable then
    c.updPort port (fun p => { p with msgs := p.msgs ++ [{ ring := r, addr := g.msgAddr, data := g.msgData, deadline := g.armedFor.1, seq := g.armedFor.2 }] })
  else c

/-- Sends the message that an armed ring pair owes, and disarms it (R98). With MSG_EN 0 it disarms all the same, and no message is sent (DESIGN CHOICE, log entry 96). -/
def Core.ringFire (c : Core) (port r : Nat) : Core :=
  (c.ringMessage port r).updRing r (fun g => { g with armedAt := none, since := 0 })

/-- An armed ring pair whose written completions number at least COAL_COUNT owes its message at once (R98); a COAL_COUNT of 0 acts as 1. -/
def Core.ringDue (c : Core) (port r : Nat) : Core :=
  let g := c.ringOf r
  if g.armedAt.isSome && decide (max 1 g.coalCount ≤ g.since) then c.ringFire port r else c

/-- A slice's RWL fields, and those of its ring pairs, are locked (R77, R111). -/
def Core.sliceLocked (c : Core) (port l : Nat) : Bool :=
  match c.slcNo port l with
  | some s => (c.slice s).locked
  | none => false

/-- The slice counts as enabled for R78: its enable has been accepted, not only recorded (DEDUCED). -/
def Slc.on (x : Slc) : Bool := x.enable && x.locked

/-- The fields of RING_CTRL beside ENABLE, and ENABLE = 1 recorded, in a mode in which they are writable. -/
def Core.ringFields (c : Core) (r v : Nat) (locked : Bool) : Core :=
  c.updRing r (fun g => { g with
    coalCount := bits 23 16 v, coalTime := bits 15 8 v, msgEn := if locked then g.msgEn else bit 4 v, abort := bit 1 v,
    enable := g.enable || bit 0 v })

/-- A write of RING_CTRL (R77, R78, R103). ENABLE = 1 is dropped and counted while the owning slice is enabled: once its enable has been accepted, not while it is only recorded. ENABLE = 0 is accepted at any time, also where the mode makes the other fields read-only. A lowered COAL_COUNT takes effect at once (R98). -/
def Core.writeRingCtrl (c : Core) (port l v : Nat) : Core :=
  c.hostWrite port 0 (ringOffset l 0x38) v (fun c =>
    match c.ringNo port l with
    | none => c.refuseWrite port 0 (ringOffset l 0x38)
    | some r =>
      let g := c.ringOf r
      let sliceOn := match c.ringSlice port r with
        | some s => (c.slice s).on
        | none => false
      let locked := c.sliceLocked port g.slice
      if (bit 0 v && (c.frozen || sliceOn)) || (!c.frozen && locked && bit 4 v != g.msgEn) then c.refuseWrite port 0 (ringOffset l 0x38)
      else
        let c := if c.frozen then c else c.ringFields r v locked
        if !bit 0 v && g.enable then c.disableRing r (bit 1 v && !c.frozen) else c.ringDue port r)

/-! ### Meanings -/

/-- GLB_CTRL_HALT (R39): a write of GLB_CTRL whose HALT bit is 1. -/
def execGlbCtrlHalt (port : Nat) (value : W64) (s : State) : Host.Outcome State Fault Refusal :=
  run (fun c => c.writeGlbCtrl port (value.toNat ||| 0x10)) s

/-- GLB_CTRL_QUIESCE (R41): a write of GLB_CTRL whose QUIESCE bit is 1. -/
def execGlbCtrlQuiesce (port : Nat) (value : W64) (s : State) : Host.Outcome State Fault Refusal :=
  run (fun c => c.writeGlbCtrl port (value.toNat ||| 2)) s

/-- GLB_CTRL_RESUME (R42): a write of GLB_CTRL whose RESUME bit is 1. -/
def execGlbCtrlResume (port : Nat) (value : W64) (s : State) : Host.Outcome State Fault Refusal :=
  run (fun c => c.writeGlbCtrl port (value.toNat ||| 4)) s

/-- GLB_CTRL_ENABLE (R43): a write of GLB_CTRL whose ENABLE bit is 1. -/
def execGlbCtrlEnable (port : Nat) (value : W64) (s : State) : Host.Outcome State Fault Refusal :=
  run (fun c => c.writeGlbCtrl port (value.toNat ||| 1)) s

/-- GLB_CTRL_ENABLE_CLEAR (R39): a write of GLB_CTRL whose ENABLE bit is 0. -/
def execGlbCtrlEnableClear (port : Nat) (value : W64) (s : State) : Host.Outcome State Fault Refusal :=
  run (fun c => c.writeGlbCtrl port (value.toNat &&& 0xFFFFFFFFFFFE)) s

/-- CONFIG_CHECK_END (R44). -/
def execConfigCheckEnd (kind port slice : Nat) (s : State) : Host.Outcome State Fault Refusal :=
  run (fun c => c.endCheck kind port slice) s

/-- PORT_CTRL_ENABLE (R43). -/
def execPortCtrlEnable (port : Nat) (value : W64) (s : State) : Host.Outcome State Fault Refusal :=
  run (fun c => c.writePortCtrl port (value.toNat ||| 1)) s

/-- PORT_CTRL_ENABLE_CLEAR (R102). -/
def execPortCtrlEnableClear (port : Nat) (value : W64) (s : State) : Host.Outcome State Fault Refusal :=
  run (fun c => c.writePortCtrl port (value.toNat &&& 0xFFFFFFFFFFFE)) s

/-- SLC_CTRL_ENABLE (R43). -/
def execSlcCtrlEnable (port slice : Nat) (value : W64) (s : State) : Host.Outcome State Fault Refusal :=
  run (fun c => c.writeSlcCtrl port slice (value.toNat ||| 1)) s

/-- SLC_CTRL_ENABLE_CLEAR (R123). -/
def execSlcCtrlEnableClear (port slice : Nat) (value : W64) (s : State) : Host.Outcome State Fault Refusal :=
  run (fun c => c.writeSlcCtrl port slice (value.toNat &&& 0xFFFFFFFFFFFE)) s

/-- RING_CTRL_ENABLE (R78). -/
def execRingCtrlEnable (port ring : Nat) (value : W64) (s : State) : Host.Outcome State Fault Refusal :=
  run (fun c => c.writeRingCtrl port ring (value.toNat ||| 1)) s

/-- RING_CTRL_ENABLE_CLEAR (R103). -/
def execRingCtrlEnableClear (port ring : Nat) (value : W64) (s : State) : Host.Outcome State Fault Refusal :=
  run (fun c => c.writeRingCtrl port ring (value.toNat &&& 0xFFFFFFFFFFFE)) s

end Sys2Proof.Machine
end

