-- ==== Sys2Proof/Machine/Mailbox.lean ====
section
/-! DEFINITION. Doorbells (R86, R87), mailboxes (R126 to R131), the slice registers with effects of their own (R112, R119, R120, R129), and the event-controller registers (R134 to R148). -/

namespace Sys2Proof.Machine

/-! ### Doorbells -/

/-- Puts a port into PORT_FAULT for a doorbell that arrived in order among the host writes: fault and edge stand in every copy of the state, as the replay of the host-write log would leave them, and the edge waits for the epoch in progress (R87, R105, R137, R384). A further error on a faulted port is dropped. -/
def Core.doorbellFault (c : Core) (port code ring : Nat) : Core :=
  if (c.cc.faults.getD port {}).on then c
  else
    let ep := c.cc.epoch
    (c.allCC (fun s => { s with
      faults := upd port (fun _ => { on := true, code := code, ring := ring }) s.faults
      edges := s.edges ++ [(ep, 2 ^ port, 65)] })).log 1 (port * 2 ^ 16 + code)

/-- The tail doorbell (R86, R87): judged against the published head H. -/
def Core.tail (c : Core) (port r v : Nat) : Core :=
  let n := (c.ringOf r).n
  let h := (c.mirror.pos r).f
  let t := (c.cc.pos r).t
  if v ≥ n then c.doorbellFault port 1 (c.ringLocal port r)
  else if ringDist n v h < ringDist n t h then c.doorbellFault port 2 (c.ringLocal port r)
  else c.allCC (fun s => s.updPos r (fun p => { p with t := v }))

/-- The head doorbell (R86, R87). -/
def Core.head (c : Core) (port r v : Nat) : Core :=
  let n := (c.ringOf r).n
  let p := c.cc.pos r
  if v ≥ n then c.doorbellFault port 3 (c.ringLocal port r)
  else if ringDist n v p.c > ringDist n p.w p.c then c.doorbellFault port 4 (c.ringLocal port r)
  else c.allCC (fun s => s.updPos r (fun p => { p with c := v }))

/-- A doorbell write: BAR2 page of the local ring pair, dropped without count where the ring pair is out of service (R86). -/
def Core.doorbell (c : Core) (port l offset : Nat) (v : W64) (f : Core → Nat → Nat → Nat → Core) : Core :=
  c.hostWrite port 1 (l * 0x1000 + offset) v.toNat (fun c =>
    match c.ringNo port l with
    | none => c.refuseWrite port 1 (l * 0x1000 + offset)
    | some r => if c.doorbellLive port r then f c port r (bits 15 0 v.toNat) else c)

/-- TAIL_DOORBELL (R87). -/
def execTailDoorbell (port ring : Nat) (value : W64) (s : State) : Host.Outcome State Fault Refusal :=
  run (fun c => c.doorbell port ring 0 value Core.tail) s

/-- HEAD_DOORBELL (R87). -/
def execHeadDoorbell (port ring : Nat) (value : W64) (s : State) : Host.Outcome State Fault Refusal :=
  run (fun c => c.doorbell port ring 8 value Core.head) s

/-! ### Mailboxes -/

/-- Notifies the tenant by one message of the home ring pair (R130). -/
def Core.notifyTenant (c : Core) (port s : Nat) : Core :=
  match (c.slice s).home with
  | some r => c.ringMessage port r
  | none => c

/-- Slot k of the mailbox: 0 T0, 1 T1, 2 M0, 3 M1. -/
def Slc.slotAt (x : Slc) (k : Nat) : MbxSlot := x.mbx.getD k {}
/-- Changes a mailbox slot. -/
def Slc.updSlot (x : Slc) (k : Nat) (f : MbxSlot → MbxSlot) : Slc := { x with mbx := upd k f x.mbx }

/-- Slot k is outbound in the manager's view, or in the tenant's (R126). -/
def outbound (manager : Bool) (k : Nat) : Bool := if manager then decide (2 ≤ k) else decide (k < 2)

/-- A write of a word to an outbound slot that is not its post (R127). -/
def Slc.storeWord (x : Slc) (k w : Nat) (v : W64) : Slc :=
  if (x.slotAt k).full then { x with dropped := sat 16 (x.dropped + 1) }
  else x.updSlot k (fun m => { m with words := upd w (fun _ => v) m.words })

/-- The post of an empty outbound slot (R127, R129). -/
def Slc.post (x : Slc) (manager : Bool) (k : Nat) (v : W64) : Slc :=
  let x := x.updSlot k (fun m => { full := true, words := upd 7 (fun _ => v) m.words })
  if manager then { x with mPosts := (x.mPosts + 1) % 256 }
  else { x with tPosts := (x.tPosts + 1) % 256, posted := true }

/-- The release of a full inbound slot (R127, R129). -/
def Slc.release (x : Slc) (manager : Bool) (k : Nat) : Slc :=
  let x := x.updSlot k (fun _ => {})
  if manager then x else { x with released := true }

/-- A write to a mailbox word from the manager's or the tenant's view of a unit-wide slice (R127 to R131). -/
def Core.mailboxWrite (c : Core) (port s : Nat) (manager : Bool) (k w : Nat) (v : W64) : Core :=
  let x := c.slice s
  if !x.started || 4 ≤ k || 8 ≤ w then c
  else if outbound manager k then
    if w = 7 ∧ !(x.slotAt k).full then
      let c := c.updSlice s (·.post manager k v)
      if manager then c.notifyTenant port s else c
    else c.updSlice s (·.storeWord k w v)
  else if w = 7 ∧ (x.slotAt k).full then
    let c := c.updSlice s (·.release manager k)
    if manager then c.notifyTenant port s else c
  else c

/-- A mailbox access of a port to a local slice: the manager through BAR0, the tenant through the home page, where there is one. -/
def Core.mailboxAccess (c : Core) (port : Nat) (manager : Bool) (l k w : Nat) (v : W64) : Core :=
  if !c.hostUp port || c.scrapped then c
  else
    match c.slcNo port l with
    | none => if manager then c.refuseWrite port 0 (0x180000 + l * 0x100 + k * 0x40 + w * 8) else c
    | some s => if manager || (c.slice s).home.isSome then c.mailboxWrite port s manager k w v else c

/-- MAILBOX_WORD_WRITE (R127). -/
def execMailboxWordWrite (port : Nat) (manager : Bool) (slice slot word : Nat) (value : W64) (s : State) : Host.Outcome State Fault Refusal :=
  run (fun c => c.mailboxAccess port manager slice slot word value) s

/-- MAILBOX_POST (R127): word 7 of an outbound slot. -/
def execMailboxPost (port : Nat) (manager : Bool) (slice slot : Nat) (value : W64) (s : State) : Host.Outcome State Fault Refusal :=
  run (fun c => c.mailboxAccess port manager slice slot 7 value) s

/-- MAILBOX_RELEASE (R127): word 7 of an inbound slot. -/
def execMailboxRelease (port : Nat) (manager : Bool) (slice slot : Nat) (value : W64) (s : State) : Host.Outcome State Fault Refusal :=
  run (fun c => c.mailboxAccess port manager slice slot 7 value) s

/-! ### Slice registers -/

/-- A write to a register of a local slice; frozen where the mode makes configuration registers read-only, unless it belongs to the mailbox (R33, R131). -/
def Core.sliceWrite (c : Core) (port l o : Nat) (v : W64) (mailbox : Bool) (f : Core → Nat → Core) : Core :=
  c.hostWrite port 0 (slcOffset l o) v.toNat (fun c =>
    match c.slcNo port l with
    | none => c.refuseWrite port 0 (slcOffset l o)
    | some s => if c.frozen && !mailbox then c.refuseWrite port 0 (slcOffset l o) else f c s)

/-- Clears what a capture shows; violations of epochs that are not glazed, which the host cannot see yet, stay (R119, R121). -/
def Core.clearCapture (c : Core) (s : Nat) : Core :=
  if (c.mirror.cap s).valid then c.allCC (fun cc => cc.updCap s (·.clearViol)) else c

/-- Clears what a notice shows (R120, R121). -/
def Core.clearNotice (c : Core) (s : Nat) : Core :=
  if (c.mirror.cap s).nValid then c.allCC (fun cc => cc.updCap s (·.clearNote)) else c

/-- A write of SLC_MBX_STAT (R129). -/
def Core.writeMbxStat (c : Core) (port l : Nat) (v : W64) : Core :=
  c.sliceWrite port l 0x80 v true (fun c s =>
    c.updSlice s (fun x => { x with posted := x.posted && !v.toNat.testBit 0, released := x.released && !v.toNat.testBit 1 }))

/-- A write of SLC_VIOL_INFO (R119). -/
def Core.writeViolInfo (c : Core) (port l : Nat) (v : W64) : Core :=
  c.sliceWrite port l 0x48 v false (fun c s => if v.toNat.testBit 0 then c.clearCapture s else c)

/-- A write of SLC_NOTICE (R120). -/
def Core.writeNotice (c : Core) (port l : Nat) (v : W64) : Core :=
  c.sliceWrite port l 0x68 v false (fun c s => if v.toNat.testBit 0 then c.clearNotice s else c)

/-- A write of SLC_WIN_SEL (R112). -/
def Core.writeWinSel (c : Core) (port l : Nat) (v : W64) : Core :=
  c.sliceWrite port l 0x20 v false (fun c s => c.updSlice s (fun x => { x with winSel := bits 5 0 v.toNat, winHi := none }))

/-- SLC_MBX_STAT_CLEAR (R129). -/
def execSlcMbxStatClear (port slice : Nat) (value : W64) (s : State) : Host.Outcome State Fault Refusal :=
  run (fun c => c.writeMbxStat port slice value) s

/-- SLC_VIOL_INFO_CLEAR (R119): a write of 1 to VALID. -/
def execSlcViolInfoClear (port slice : Nat) (value : W64) (s : State) : Host.Outcome State Fault Refusal :=
  run (fun c => c.writeViolInfo port slice (value ||| 1)) s

/-- SLC_NOTICE_CLEAR (R120): a write of 1 to VALID. -/
def execSlcNoticeClear (port slice : Nat) (value : W64) (s : State) : Host.Outcome State Fault Refusal :=
  run (fun c => c.writeNotice port slice (value ||| 1)) s

/-- SLC_WIN_SEL_WRITE (R112). -/
def execSlcWinSelWrite (port slice : Nat) (value : W64) (s : State) : Host.Outcome State Fault Refusal :=
  run (fun c => c.writeWinSel port slice value) s

/-! ### Event-controller registers -/

/-- A host reaches the event controller of its port: it sits on the I/O die, and a scrapped unit shows nothing of it (R62, R384, R391). -/
def State.evcReach (s : State) (port : Nat) : Bool := s.core.hostUp port && !s.core.scrapped

/-- A write to a register of an event controller. -/
def State.evcWrite (s : State) (port offset v : Nat) (f : Evc → Evc) : Host.Outcome State Fault Refusal :=
  if s.evcReach port then .next ({ s with core := s.core.logHost port 0 offset v }.updEvc port f) else .next s

/-- A write to an offset of the event-controller block that holds no register (R70). -/
def State.evcHole (s : State) (port offset v : Nat) : Host.Outcome State Fault Refusal :=
  run (fun c => c.hostWrite port 0 offset v (fun c => c.refuseWrite port 0 offset)) s

/-- EVC_CLAIM (R140): the read takes the highest-ranked deliverable source, or a source masked less than 250 ns ago that the race lets through (R144); on a scrapped unit it reads zero (R146). -/
def execEvcClaim (port : Nat) (s : State) : Host.Outcome State Fault Refusal :=
  if !s.core.hostUp port then .next s
  else if s.core.scrapped then .next { s with out := s.out ++ [.readData port 0] }
  else
    let now := s.core.now
    let e := s.evcOf port
    let race (src : Nat) : Bool := Config.maskRace (s.core.free * 256 + src)
    let s := if (e.lingering now).isEmpty then s else { s with core := { s.core with free := s.core.free + 1 } }
    match e.claimPick now race with
    | none => .next { s with out := s.out ++ [.readData port 0] }
    | some src =>
      let e' := e.take src
      .next { (s.updEvc port (fun _ => e')) with out := s.out ++ [.readData port (w64 (e'.claimValue src))] }

/-- EVC_EOI (R142). -/
def execEvcEoi (port : Nat) (value : W64) (s : State) : Host.Outcome State Fault Refusal :=
  s.evcWrite port 0x20008 value.toNat (·.eoi (bits 7 0 value.toNat))

/-- EVC_PEND_WRITE (R134). -/
def execEvcPendWrite (port index : Nat) (value : W64) (s : State) : Host.Outcome State Fault Refusal :=
  if index < 6 then s.evcWrite port (0x20100 + 8 * index) value.toNat (·.pendWrite index value.toNat)
  else s.evcHole port (0x20100 + 8 * index) value.toNat

/-- EVC_ENABLE_WRITE (R144). -/
def execEvcEnableWrite (port index : Nat) (value : W64) (s : State) : Host.Outcome State Fault Refusal :=
  if index < 6 then s.evcWrite port (0x20140 + 8 * index) value.toNat (fun e => e.enableWrite index value.toNat s.core.now)
  else s.evcHole port (0x20140 + 8 * index) value.toNat

/-- EVC_PRIO_WRITE (R143). -/
def execEvcPrioWrite (port index : Nat) (value : W64) (s : State) : Host.Outcome State Fault Refusal :=
  if index < 22 then s.evcWrite port (0x20200 + 8 * index) value.toNat (·.prioWrite index value.toNat)
  else s.evcHole port (0x20200 + 8 * index) value.toNat

/-- EVC_HOLD_WRITE (R145). -/
def execEvcHoldWrite (port : Nat) (value : W64) (s : State) : Host.Outcome State Fault Refusal :=
  s.evcWrite port 0x20018 value.toNat (·.holdWrite value.toNat)

/-- EVC_MASK_SETTLE (R144): the claim can no longer return the source, and device time has reached that moment. -/
def execEvcMaskSettle (port source : Nat) (s : State) : Host.Outcome State Fault Refusal :=
  match Table.find source (s.evcOf port).settling with
  | none => .next s
  | some t => .next ({ s with core := s.core.moveTo t }.updEvc port (fun e => { e with settling := Table.del source e.settling }))

/-- A requested message on a vector can be sent (R139, R145): MSI-X enabled, nothing masked, HOLD 0, the link in L0. A function in D3hot sends it too (R135). -/
def State.msixReady (s : State) (port vector : Nat) : Bool :=
  let p := s.core.port port
  let e := s.evcOf port
  decide (vector < 16) && e.req.testBit vector && !e.hold && p.msixEnable && !p.funcMask && !(p.msix.getD vector {}).masked
    && p.link == .l0 && s.core.created port && !p.resetting

/-- MSIX_MESSAGE_SEND (R139): one message for the vector however many requests it holds, without PASID and without relaxed ordering (R58, R59). -/
def execMsixMessageSend (port vector : Nat) (s : State) : Host.Outcome State Fault Refusal :=
  let m := (s.core.port port).msix.getD vector {}
  if s.msixReady port vector then
    .next { (s.updEvc port (fun e => { e with req := clearBits e.req (2 ^ vector) })) with
      out := s.out ++ [.message port m.addr m.data] }
  else .next s

end Sys2Proof.Machine
end

