-- ==== Sys2Proof/Machine/Ports.lean ====
section
/-! DEFINITION. Host ports: link and reset events (R62, R63), accesses that are dropped (R9, R60), translations (R58), the split area (R66 to R68) and the user tag area (R74, R75). -/

namespace Sys2Proof.Machine

/-! ### Link and reset -/

/-- Lanes of a created port (R61). -/
def Core.lanes (c : Core) : Nat := 16 / c.nPorts

/-- A port leaves reset and trains when PERSTn_N is high, the clock is stable and no REFCLK DEGRADE holds it in detect (R62, R407). -/
def Port.leaveReset (p : Port) : Port :=
  if p.perstLow || !p.refStable || p.detect == 1 || p.link != .down then p else { p with training := true, detect := 0 }

/-- A port whose function is powered: created, and not in RETAIN. -/
def Core.portOn (c : Core) (port : Nat) : Bool := c.created port && c.g.mode != .retain

/-- PERST_ASSERT (R63). A port without a function keeps only the level of its pin, for the next power-up (R61, R62). -/
def Core.perstAssert (c : Core) (port : Nat) : Core :=
  if (c.port port).perstLow then c
  else if !c.portOn port then c.updPort port (fun p => { p with perstLow := true })
  else (c.resetPort port).updPort port (fun p =>
    { p with perstLow := true, link := .down, speed := 0, width := 0, training := false, detect := if p.detect = 0 then 0 else 2 })

/-- A change of a port's pins, after which a created port may leave reset; without a function the level alone is kept (R61, R62). -/
def Core.pinChange (c : Core) (port : Nat) (f : Port → Port) : Core :=
  c.updPort port (fun p => if c.portOn port then (f p).leaveReset else f p)

/-- PERST_RELEASE (R62). -/
def Core.perstRelease (c : Core) (port : Nat) : Core := c.pinChange port (fun p => { p with perstLow := false })

/-- REFCLK_STABLE (R62, R407). -/
def Core.refclkStable (c : Core) (port : Nat) : Core := c.pinChange port (fun p => { p with refStable := true })

/-- The port's link runs at 2.5 GT/s only: in the WAKE of a scrapped unit, from its start (R48, R62). -/
def Core.slowLink (c : Core) : Bool := c.g.mode == .wake && c.lcState == 4

/-- LINK_UP (R55, R62): training ends, or a link that left L0 returns to it. A scrapped unit trains at 2.5 GT/s only. -/
def Core.linkUp (c : Core) (port speed width : Nat) : Core :=
  let p := c.port port
  if !c.portOn port || speed < 1 || 5 < speed || width < 1 || c.lanes < width then c
  else if p.training || p.link == .low then
    c.updPort port (fun p => { p with link := .l0, training := false, speed := if c.slowLink then 1 else speed, width := width })
  else c

/-- The function is reached over the link, in D0 or in D3hot. -/
def Core.linked (c : Core) (port : Nat) : Bool := c.portOn port && (c.port port).link != .down

/-- PORT_RESET_END (R63, R147): each level that is high latches pending again. -/
def Core.portResetEnd (c : Core) (port : Nat) : Core :=
  if !(c.port port).resetting then c
  else
    (setBits 256 (c.levels port)).foldl (fun c s => c.pulse (2 ^ port) s)
      (c.updPort port (fun p => { p with resetting := false }))

/-- PERST_ASSERT (R63). -/
def execPerstAssert (port : Nat) (s : State) : Host.Outcome State Fault Refusal := run (fun c => c.perstAssert port) s

/-- FUNCTION_LEVEL_RESET (R63). -/
def execFunctionLevelReset (port : Nat) (s : State) : Host.Outcome State Fault Refusal :=
  run (fun c => if c.linked port then c.resetPort port else c) s

/-- D3HOT_TO_D0 (R55, R63): No_Soft_Reset is 0. -/
def execD3hotToD0 (port : Nat) (s : State) : Host.Outcome State Fault Refusal :=
  run (fun c => if c.linked port && (c.port port).d3 then c.resetPort port else c) s

/-- PERST_RELEASE (R62). -/
def execPerstRelease (port : Nat) (s : State) : Host.Outcome State Fault Refusal := run (fun c => c.perstRelease port) s

/-- LINK_UP (R62). -/
def execLinkUp (port speed width : Nat) (s : State) : Host.Outcome State Fault Refusal := run (fun c => c.linkUp port speed width) s

/-- REFCLK_STABLE (R62). -/
def execRefclkStable (port : Nat) (s : State) : Host.Outcome State Fault Refusal := run (fun c => c.refclkStable port) s

/-- PORT_RESET_END (R63, R147). -/
def execPortResetEnd (port : Nat) (s : State) : Host.Outcome State Fault Refusal := run (fun c => c.portResetEnd port) s

/-- LINK_LEAVES_L0 (R135): edges still set pending bits; messages wait (R139). -/
def execLinkLeavesL0 (port : Nat) (s : State) : Host.Outcome State Fault Refusal :=
  run (fun c => if c.linked port && (c.port port).link == .l0 then c.updPort port (fun p => { p with link := .low }) else c) s

/-- D3HOT_ENTRY (R135). -/
def execD3hotEntry (port : Nat) (s : State) : Host.Outcome State Fault Refusal :=
  run (fun c => if c.linked port && !(c.port port).resetting then c.updPort port (fun p => { p with d3 := true }) else c) s

/-! ### Translations (R58) -/

/-- Holds a granted translation; the oldest of 4,096 leaves for a new one (DESIGN CHOICE). -/
def Core.holdTranslation (c : Core) (port pasid iova : Nat) : Core :=
  let e := (pasid, iova / 4096)
  let p := c.port port
  if !p.ats || p.translations.contains e then c
  else
    let old := p.translations
    c.updPort port (fun p => { p with translations := old.drop (old.length - 4095) ++ [e] })

/-- Writes bytes to host memory in requests of at most the programmed maximum payload size (R55). -/
def Core.sendWrite (c : Core) (port pasid iova : Nat) (data : Bytes) (relaxed : Bool) : Core :=
  (requests (c.port port).maxPayload iova data.length).foldl (fun c x => c.send (.write port pasid x.1 (cut (x.1 - iova) x.2 data) relaxed)) c

/-- Reports an error through AER: counted, and the first one's header logged (R55, R60). -/
def Core.reportAer (c : Core) (port kind address : Nat) : Core :=
  c.updPort port (fun p => { p with aer := p.aer + 1, aerLog := p.aerLog.or (some (kind, address)) })

/-- ATS_INVALIDATION_REQUEST (R58): transfers are issued as they are checked, so nothing delays the completion. -/
def execAtsInvalidationRequest (port pasid page : Nat) (s : State) : Host.Outcome State Fault Refusal :=
  run (fun c =>
    if c.hostUp port && (c.port port).ats then
      (c.updPort port (fun p => { p with translations := p.translations.filter (· != (pasid, page)) })).send (.atsDone port pasid page)
    else c) s

/-! ### Accesses that reach no register -/

/-- MISALIGNED_ACCESS (R9): an access to BAR0 or BAR2; R9 does not apply to BAR4 (R57). -/
def execMisalignedAccess (port bar offset : Nat) (write : Bool) (s : State) : Host.Outcome State Fault Refusal :=
  run (fun c =>
    if !c.hostUp port || !(bar == 0 || bar == 2) then c
    else
      let c := if write then c else c.send (.readData port 0)
      if c.scrapped then c else (if write then c.logHost port (bar / 2) offset none else c).refuseWrite port (bar / 2) offset) s

/-- POISONED_WRITE (R60): dropped, reported through AER, not counted as an access error. An ECRC failure is one only where checking is on (R55); the write is a host write of the log (R384). -/
def execPoisonedWrite (port bar offset : Nat) (ecrc : Bool) (s : State) : Host.Outcome State Fault Refusal :=
  run (fun c =>
    if c.hostUp port ∧ (bar = 0 ∨ bar = 2 ∨ bar = 4) ∧ offset < 2 ^ 24 ∧ (!ecrc || (c.port port).ecrcCheck) = true then
      (if bar = 4 then c else c.logHost port (bar / 2) offset none).reportAer port 0 offset
    else c) s

/-! ### Split area (R66 to R68) -/

/-- The ports whose range holds a unit-wide number: the owning port, and where ranges overlap, which the spec does not decide, all of them (DESIGN CHOICE, log entry 18). -/
def ownersOf (ranges : List (Nat × Nat)) (k : Nat) : List Nat :=
  (List.range 4).filter (fun n => let r := ranges.getD n (0, 0); decide (r.1 ≤ k) && decide (k < r.1 + r.2))

/-- Slice ranges of the four ports. -/
def Core.slcRanges (c : Core) : List (Nat × Nat) := c.ports.map (fun p => (p.slcBase, p.slcCount))
/-- Ring-pair ranges of the four ports. -/
def Core.ringRanges (c : Core) : List (Nat × Nat) := c.ports.map (fun p => (p.ringBase, p.ringCount))

/-- Returns to reset values what changes its owning port (R68). -/
def Core.dropMoved (old c : Core) : Core :=
  let so := old.slcRanges; let sn := c.slcRanges
  let ro := old.ringRanges; let rn := c.ringRanges
  let c := { c with
    slc := c.slc.filter (fun e => ownersOf so e.1 == ownersOf sn e.1)
    ring := c.ring.filter (fun e => ownersOf ro e.1 == ownersOf rn e.1) }
  c.allCC (fun s => { s with
    caps := s.caps.filter (fun e => ownersOf so e.1 == ownersOf sn e.1)
    rings := s.rings.filter (fun e => ownersOf ro e.1 == ownersOf rn e.1) })

/-- A write of PORT_SPLIT_SLC_n or PORT_SPLIT_RING_n (R66, R68): the manager of port 0 alone, all fields locked by the global enable. -/
def Core.writeSplit (c : Core) (port n : Nat) (rings : Bool) (v : Nat) : Core :=
  let off := 0x10100 + n * 0x20 + (if rings then 8 else 0)
  c.hostWrite port 0 off v (fun c =>
    if port ≠ 0 ∨ 4 ≤ n ∨ c.frozen ∨ c.g.locked then c.refuseWrite port 0 off
    else c.dropMoved (c.updPort n (fun p =>
      if rings then { p with ringBase := bits 11 0 v, ringCount := bits 28 16 v }
      else { p with slcBase := bits 9 0 v, slcCount := bits 26 16 v })))

/-- PORT_SPLIT_WRITE (R68). -/
def execPortSplitWrite (port target : Nat) (rings : Bool) (value : W64) (s : State) : Host.Outcome State Fault Refusal :=
  run (fun c => c.writeSplit port target rings value.toNat) s

/-! ### User tag area (R74, R75) -/

/-- A write of the tag area: the manager of port 0 alone, in every mode a host reaches but ZEROIZED (R33). -/
def Core.tagWrite (c : Core) (port offset v : Nat) (f : Core → Core) : Core :=
  c.hostWrite port 0 offset v (fun c =>
    if port ≠ 0 ∨ c.g.mode = .zeroized ∨ c.r.tagBusy then c.refuseWrite port 0 offset else f c)

/-- Reloads the staged copy (R74). -/
def Core.tagDiscard (c : Core) : Core := { c with r := { c.r with tagStaged := c.flash.tag } }

/-- Starts a commit (R75). -/
def Core.tagCommit (c : Core) : Core :=
  { c with r := { c.r with tagBusy := true }, flash := { c.flash with writesLeft := c.flash.writesLeft - 1 } }

/-- A write of TAG_CTRL: DISCARD takes effect before COMMIT (DESIGN CHOICE). -/
def Core.writeTagCtrl (c : Core) (port v : Nat) : Core :=
  c.tagWrite port 0x200210 v (fun c =>
    if bit 0 v && c.flash.writesLeft == 0 then c.refuseWrite port 0 0x200210
    else
      let c := if bit 1 v then c.tagDiscard else c
      if bit 0 v then c.tagCommit else c)

/-- A write of TAG_DATA_n (R74). -/
def Core.writeTagData (c : Core) (port n v : Nat) : Core :=
  c.tagWrite port (0x200000 + 8 * n) v (fun c =>
    { c with r := { c.r with tagStaged := patch (6 * n) (leBytes (if n = 42 then 4 else 6) v) c.r.tagStaged } })

/-- TAG_CTRL_COMMIT (R75). -/
def execTagCtrlCommit (port : Nat) (value : W64) (s : State) : Host.Outcome State Fault Refusal :=
  run (fun c => c.writeTagCtrl port (value.toNat ||| 1)) s

/-- TAG_CTRL_DISCARD (R74). -/
def execTagCtrlDiscard (port : Nat) (value : W64) (s : State) : Host.Outcome State Fault Refusal :=
  run (fun c => c.writeTagCtrl port (value.toNat ||| 2)) s

/-- TAG_COMMIT_END (R75): the staged copy, which no write changes while BUSY is 1, stands in both flash copies. -/
def execTagCommitEnd (s : State) : Host.Outcome State Fault Refusal :=
  run (fun c => if c.r.tagBusy then { c with r := { c.r with tagBusy := false }, flash := { c.flash with tag := c.r.tagStaged } } else c) s

end Sys2Proof.Machine
end

