-- ==== Sys2Proof/Machine/Admission.lean ====
section
/-! DEFINITION. Admission: reservation and entry fetch (R91 to R95), the arrival of an entry (R80 to R82, R149 to R157), descriptors in SAFE_HALT and ZEROIZED (R50, R52), the source operand (R114 to R117), and fetch errors (R60). -/

namespace Sys2Proof.Machine

/-! ### Turns and reservations -/

/-- Credits of one port's pool (R92). -/
def Core.creditPool (c : Core) : Nat := 262144 / c.nPorts

/-- The task of a ring pair whose entry is being fetched. -/
def CC.fetchOf (s : CC) (port r : Nat) : Option (Nat × Task) :=
  s.tasks.find? (fun e => e.2.st == .fetching && e.2.ring == r && e.2.port == port)

/-- A fenced task of the ring pair has not retired (R95). -/
def CC.fenceHolds (s : CC) (port r : Nat) : Bool :=
  s.tasks.any (fun e => e.2.ring == r && e.2.port == port && e.2.fenced && e.2.st != .retired)

/-- Slots between F and T. -/
def Core.waiting (c : Core) (r : Nat) : Nat := ringDist (c.ringOf r).n (c.cc.pos r).t (c.cc.pos r).f

/-- The ring pair has something to fetch: a new entry, or the second slot of a held one (R90, R94, R95). -/
def Core.wants (c : Core) (port r : Nat) : Bool :=
  c.fetchAllowed port r &&
    (match c.cc.fetchOf port r with
     | some (_, t) => t.held && decide (2 ≤ c.waiting r)
     | none => !c.cc.fenceHolds port r && decide (0 < c.waiting r))

/-- The cluster with the most free records, the lower number first, none when every one is full (R24). Slices that have left service take their records with them (R399). -/
def Core.pickCluster (c : Core) : Option Nat :=
  let slice := Config.inflight c.g.variant / 8 / 256
  let cap (k : Nat) : Nat := slice * (256 - Table.findD (8 * 256 + k) 0 c.cont.memOut)
  let free := (List.range 8).map (fun k => cap k - c.cc.recordsUsed k)
  let gone := Table.findD (7 * 256 + c.cont.holder.getD 0) 0 c.cont.memOut * (8 * slice)
  let best := free.foldl max 0
  if 0 < best ∧ gone < free.foldl (· + ·) 0 then free.findIdx? (· == best) else none

/-- What R91 reserves. -/
structure Grant where
  slot : Nat
  cluster : Nat
  credits : Nat
  hasRecord : Bool
deriving DecidableEq, Repr

/-- Reserves everything together or nothing (R91); SAFE_HALT and ZEROIZED need only a staging slot and a quota unit. The destination length is not known before the entry is read, so the largest need of R92 is reserved and trimmed afterwards (DESIGN CHOICE). -/
def Core.grant (c : Core) (port : Nat) : Option Grant :=
  match Table.freeKey (Config.inflight c.g.variant) c.cc.tasks with
  | none => none
  | some slot =>
    if c.cc.quotaUsed port ≥ (c.port port).quota then none
    else if c.halted then some { slot := slot, cluster := 0, credits := 0, hasRecord := false }
    else if c.cc.creditsUsed port + 64 > c.creditPool then none
    else match c.pickCluster with
      | none => none
      | some k => some { slot := slot, cluster := k, credits := 64, hasRecord := true }

/-- The ring pairs of a port that want a fetch, in turn order: from the one after the last served on (R94). -/
def Core.turnRings (c : Core) (port : Nat) : List Nat :=
  let w := (c.ringsOf port).filter (c.wants port)
  let k := c.cc.turnRing.getD port 0
  w.filter (fun r => decide (k ≤ c.ringLocal port r)) ++ w.filter (fun r => decide (c.ringLocal port r < k))

/-- Address of a slot of a submission ring (R76). -/
def Ring.slotAddr (g : Ring) (i : Nat) : Nat := (g.sq + 64 * i) % 2 ^ 64

/-- A submission fetch that fails: precise capture, PORT_FAULT with FETCH_ERROR naming the ring pair, and the reservation returned (R60, R115, R117). A transport error is also reported through AER. -/
def Core.fetchFail (c : Core) (tid : Nat) (t : Task) (cause iova : Nat) : Core :=
  let c := if cause = 5 then c.reportAer t.port 1 iova else c
  let c := c.updCC (fun s =>
    let s := s.updCap t.slice (fun p => p.violate s.epoch 0 1 cause (c.ringLocal t.port t.ring) 0 iova)
    { s with tasks := Table.del tid s.tasks })
  c.portFault t.port 5 (c.ringLocal t.port t.ring)

/-- Requests a slot of the entry: the window check, then the read, or the request of the translation that is missing (R58, R114). -/
def Core.requestSlot (c : Core) (tid : Nat) (t : Task) (i : Nat) : Core :=
  let a := (c.ringOf t.ring).slotAddr i
  let s := c.slice t.slice
  let cause := s.cause a 0 2 true
  if cause ≠ 0 then c.fetchFail tid t cause a
  else if c.granted t.port s.pasid a [a / 4096] then c.sendRead t.port s.pasid a 64 false
  else c.askTranslation t.port s.pasid a

/-- The turn of one ring pair: a held entry's second slot, whose fetch takes a turn of its own (DESIGN CHOICE, log entry 21), or a new reservation and the fetch of the entry at F. -/
def Core.turn (c : Core) (port r : Nat) : Option Core :=
  let pos := c.cc.pos r
  let n := (c.ringOf r).n
  match c.cc.fetchOf port r with
  | some (tid, t) => some ((c.updTask tid (fun t => { t with held := false })).requestSlot tid t ((pos.f + 1) % n))
  | none =>
    match c.grant port, c.ringSlice port r with
    | some g, some s =>
      let t : Task := { port := port, ring := r, slice := s, cluster := g.cluster, credits := g.credits, hasRecord := g.hasRecord,
                        domain := (c.slice s).domain }
      some ((c.updCC (fun cc => { cc with tasks := Table.put g.slot t cc.tasks })).requestSlot g.slot t pos.f)
    | _, _ => none

/-- The first port in turn, and its first ring pair, that a turn serves (R94): a port is passed over that has not the resources, a free tag among them (R55), or where something that stands before a fetch can move (R101). -/
def Core.nextTurn (c : Core) : Option (Nat × Nat × Core) :=
  let k := c.nPorts
  (((List.range k).map (fun i => (c.cc.turnPort + i) % k)).filter (fun port => c.fetchTurn port && c.tagFree port)).findSome? (fun port =>
    (c.turnRings port).findSome? (fun r => (c.turn port r).map (fun c' => (port, r, c'))))

/-- ADMISSION_RESERVE (R91, R94, R101): the next turn, once every ready step has been offered its engines. -/
def Core.admissionReserve (c : Core) : Core :=
  if !c.leaseHeld || c.offersLeft then c
  else
    match c.nextTurn with
    | none => c
    | some (port, r, c') =>
      c'.updCC (fun s => { s with
        turnPort := (port + 1) % c.nPorts
        turnRing := upd port (fun _ => c.ringLocal port r + 1) s.turnRing })

/-- ADMISSION_RESERVE (R91). -/
def execAdmissionReserve (s : State) : Host.Outcome State Fault Refusal := run Core.admissionReserve s

/-! ### The arrival of an entry -/

/-- Credits a destination length needs (R92). -/
def creditNeed (dst : Nat) : Nat := ceilDiv (min dst 4096) 64

/-- Moves F past an entry; entries before the tail shown at a takeover are suspect (R385). -/
def Core.advance (c : Core) (r slots : Nat) : Core × Bool :=
  let n := (c.ringOf r).n
  let p := c.cc.pos r
  let left := match p.suspectTo with
    | some t => ringDist n t p.f
    | none => 0
  (c.updCC (fun s => s.updPos r (fun p => { p with
      f := (p.f + slots) % n
      suspectTo := if left ≤ slots then none else p.suspectTo })), p.suspectTo.isSome && left != 0)

/-- The task of an arrived entry: deadline of R82, form of R118, trays of R26 and R179. -/
def Core.filled (c : Core) (t : Task) (suspect : Bool) : Task :=
  let rel := if t.relDeadline = 0 then (c.port t.port).slack else t.relDeadline
  { t with
    st := .admitted
    held := false
    suspect := suspect
    deadline := c.now + BitVec.ofNat 48 rel
    due := c.clock + rel
    strict := !(c.slice t.slice).report || t.strictWrite
    fenced := t.fence
    slot := t.opcode
    outLen := c.cc.outLen t
    credits := if c.halted then 0 else creditNeed t.dstLen
    trays := patch 0 (if t.ext then cut 8 64 t.inline else []) (zeros 384) }

/-- Steps 3 to 6 of R149: the sequence number, the flags, the requests. A fenced task has FENCE_CLEAR where no earlier task of its ring pair is left. -/
def Core.start (c : Core) (tid : Nat) (t : Task) (im : Bytes) (needs : Nat) : Core :=
  let t := { t with image := im, needs := needs, seq := (c.cc.seq + 1) % 2 ^ 48 }
  let t := { t with flags := admissionFlags t.fenced (t.srcLen != 0) t.needsKey0 t.needsKey1 (t.rndLen != 0) }
  c.updCC (fun s => ({ (s.updTask tid (fun _ => t)) with seq := t.seq } : CC).fence)

/-- A halted unit's answer to a descriptor (R50, R52): the custody operations marked H on the manager slice of port 0 are served, every other descriptor is refused at once; a fenced one waits for the earlier tasks of its ring pair (R95). -/
def Core.haltedEntry (c : Core) (tid : Nat) (t : Task) : Core :=
  let mode := c.g.mode.code
  let managerSlice := c.slcLocal t.port t.slice == 0
  let t := { t with seq := (c.cc.seq + 1) % 2 ^ 48, flags := admissionFlags t.fenced (t.srcLen != 0) false false false }
  let turnedAway := c.updCC (fun s => (s.updTask tid (fun _ => { t with refused := true })).fence)
  if t.opclass = clsCustody ∧ t.port = 0 ∧ managerSlice ∧ custodyH.contains t.opcode then
    if (t.opcode = 0x30B ∧ c.g.mode = .safeHalt) ∨ (t.opcode = 0x30A ∧ c.g.mode = .zeroized) then turnedAway.refuse tid Status.modeRefused mode
    else match t.formatCheck managerSlice with
      | some e => turnedAway.refuse tid e.1 e.2
      | none => c.updCC (fun s => ({ (s.updTask tid (fun _ => t)) with seq := t.seq } : CC).fence)
  else if c.g.mode = .zeroized then turnedAway.refuse tid Status.modeRefused mode
  else turnedAway.refuse tid Status.safeHalt c.g.haltGroup

/-- The whole entry has arrived: it is admitted or ends at once (R149). -/
def Core.admitEntry (c : Core) (tid : Nat) (t : Task) : Core :=
  let adv := c.advance t.ring t.slots
  let c := adv.1
  let t := c.filled t adv.2
  let managerSlice := c.slcLocal t.port t.slice == 0
  if c.halted then c.haltedEntry tid t
  else
    match c.entryCheck t managerSlice with
    | .error e => ((c.updTask tid (fun _ => { t with seq := (c.cc.seq + 1) % 2 ^ 48, refused := true })).updCC CC.fence).refuse tid e.1 e.2
    | .ok (im, needs) => c.start tid t im needs

/-- The outcome of a fetch as the port takes it: an ECRC failure (3) is none where ECRC checking is off (R55). -/
def Core.fetchOutcome (c : Core) (port outcome : Nat) : Nat :=
  if outcome = 3 ∧ (c.port port).ecrcCheck = false then 0 else outcome

/-- ENTRY_FETCH_COMPLETE: outcome 0 is a good completion, 3 an ECRC failure, 4 a translation that is not granted, anything else another transport error. An error is told also where fetching has stopped meanwhile (R60). -/
def Core.entryFetched (c : Core) (tid : Nat) (data : Bytes) (outcome : Nat) : Core :=
  match c.task tid with
  | none => c
  | some t =>
    if t.st != .fetching || t.held || !c.leaseHeld then c
    else
      let g := c.ringOf t.ring
      let f := (c.cc.pos t.ring).f
      let second := (f + 1) % g.n
      let a := g.slotAddr (if t.entry.isEmpty then f else second)
      let pasid := (c.slice t.slice).pasid
      let outcome := c.fetchOutcome t.port outcome
      if outcome = 4 then
        (if c.granted t.port pasid a [a / 4096] then c else c.fetchFail tid t 4 a)
      else if outcome ≠ 0 then c.fetchFail tid t 5 a
      else if !c.fetchAllowed t.port t.ring || (!c.halted && !t.hasRecord) then
        c.updCC (fun s => { s with tasks := Table.del tid s.tasks })
      else
        let c := if c.granted t.port pasid a [a / 4096] then c
          else (c.holdTranslation t.port pasid a).sendRead t.port pasid a 64 false
        let e := t.entry ++ data
        let t := { t with entry := cut 0 (if e.length < 128 then 64 else 128) e }
        if !t.ext then c.admitEntry tid { t with entry := t.entry.take 64 }
        else
          let cause := (c.slice t.slice).cause (g.slotAddr second) 0 2 true
          if c.waiting t.ring < 2 then c.updTask tid (fun _ => { t with entry := t.entry.take 64, held := true })
          else if cause ≠ 0 then c.fetchFail tid t cause (g.slotAddr second)
          else if t.entry.length < 128 then (c.updTask tid (fun _ => t)).requestSlot tid t second
          else c.admitEntry tid t

/-- ENTRY_FETCH_COMPLETE (R149). -/
def execEntryFetchComplete (tid : Nat) (data : Bytes) (outcome : Nat) (s : State) : Host.Outcome State Fault Refusal :=
  run (fun c => c.entryFetched tid data outcome) s

/-! ### The source operand -/

/-- A refused read of the source: the capture, and the early end with WINDOW_VIOLATION, RESULT0 the first byte of the failing piece. Nothing is written to the destination: what EMIT steps have staged and not yet written is dropped (R60, R117). -/
def Core.sourceFail (c : Core) (tid : Nat) (t : Task) (cause iova : Nat) : Core :=
  let c := if cause = 5 then c.reportAer t.port 1 iova else c
  let c := c.updCC (fun s => (s.updCap t.slice (fun p => p.violate s.epoch t.seq 2 cause (c.ringLocal t.port t.ring) t.tag iova)).updTask tid
    (fun t => { t with res0 := some iova, res1 := some 0, pieces := [] }))
  c.endEarly tid Status.windowViolation (0x20 + cause)

/-- Pieces of an operand read in turn, the first k of them sent already: each other is checked and issued, and the first failure stops the transfer (R114, R115). -/
def Core.readPieces (c : Core) (tid : Nat) (t : Task) (refused bad : List Nat) : Nat → List (Nat × Nat) → Core × Bool
  | _, [] => (c, true)
  | k + 1, (a, _) :: rest =>
    if bad.contains (a / 4096) then (c.sourceFail tid t 5 a, false)
    else c.readPieces tid t refused bad k rest
  | 0, (a, n) :: rest =>
    let s := c.slice t.slice
    let cause := s.cause a 0 3 (c.granted t.port s.pasid a refused)
    if cause ≠ 0 then ((if cause = 4 then c.askTranslation t.port s.pasid a else c).sourceFail tid t cause a, false)
    else
      let c := ((c.askTranslation t.port s.pasid a).holdTranslation t.port s.pasid a).sendRead t.port s.pasid a n (c.port t.port).relaxed
      if bad.contains (a / 4096) then (c.sourceFail tid t 5 a, false)
      else c.readPieces tid t refused bad 0 rest

/-- The bytes land: at SRC for a recipe (R179), in the work area otherwise (R305, R320); the SRC flag is set once the whole source has arrived (R154). -/
def Task.landSource (t : Task) (data : Bytes) : Task :=
  let t := { t with asked := none }
  if t.opclass = clsBulk then
    let (a, n) := t.nextPart
    let d := cut 0 n data
    { t with
      work := t.work ++ d.take (t.bkText - a), tagIn := t.tagIn ++ d.drop (t.bkText - a), landed := a + n
      flags := if a + n = t.srcEnd then setFlag 1 t.flags else t.flags }
  else
    let d := cut 0 t.srcLen data
    let t := if t.opclass = clsRecipe then { t with trays := patch (imgSrc t.image) d t.trays } else { t with work := d }
    { t with flags := setFlag 1 t.flags }.skipAll

/-- OPERAND_READ_COMPLETE (R157, R307): the read that the task has issued ends; pages named as refused are those whose translation is not granted, pages named as bad those whose completion is a transport error. -/
def Core.operandRead (c : Core) (tid : Nat) (data : Bytes) (refused bad : List Nat) : Core :=
  match c.task tid with
  | none => c
  | some t =>
    if !t.awaitsSource || !c.leaseHeld then c
    else if t.gone then c.endEarly tid Status.windowViolation 0x25
    else
      match t.asked with
      | none => c
      | some (first, n, sent) =>
        match c.readPieces tid t refused bad sent (splitPieces (t.srcIova + first) n) with
        | (c, true) => (c.updTask tid (·.landSource data)).tryRetire tid
        | (c, false) => c

/-- Pages whose completion a port takes as a transport error: those with an ECRC failure only where checking is on (R55). -/
def Core.badPages (c : Core) (tid : Nat) (bad ecrc : List Nat) : List Nat :=
  match c.task tid with
  | some t => if (c.port t.port).ecrcCheck then bad ++ ecrc else bad
  | none => bad

/-- OPERAND_READ_COMPLETE (R157). -/
def execOperandReadComplete (tid : Nat) (data : Bytes) (refusedPages badPages ecrcPages : List Nat) (s : State) : Host.Outcome State Fault Refusal :=
  run (fun c => c.operandRead tid data refusedPages (c.badPages tid badPages ecrcPages)) s

/-- READ_COMPLETION_TIMEOUT (R60): a transport error of the outstanding read, at its first piece. -/
def Core.readTimeout (c : Core) (tid : Nat) : Core :=
  match c.task tid with
  | none => c
  | some t =>
    if t.st == .fetching then
      (if t.held then c
       else
        let g := c.ringOf t.ring
        let f := (c.cc.pos t.ring).f
        c.fetchFail tid t 5 (g.slotAddr (if t.entry.isEmpty then f else (f + 1) % g.n)))
    else if t.awaitsSource && t.gone then c.endEarly tid Status.windowViolation 0x25
    else if t.awaitsSource then
      match t.asked with
      | some (first, _, _) => c.sourceFail tid t 5 (t.srcIova + first)
      | none => c
    else c

/-- READ_COMPLETION_TIMEOUT (R60). -/
def execReadCompletionTimeout (tid : Nat) (s : State) : Host.Outcome State Fault Refusal := run (fun c => c.readTimeout tid) s

end Sys2Proof.Machine
end

