-- ==== Sys2Proof/Machine/PayFns.lean ====
section
/-! DEFINITION. The computations of the payment opcodes: PAN and PIN operands, verification values, DUKPT, EMV keys and cryptograms, key blocks (R195 to R235). -/

namespace Sys2Proof.Machine

/-- A computation that may fail with an outcome of R186. -/
abbrev SR (α : Type) := Except StepOut α

/-- Fails with a sub-code of R190. -/
def failSub {α : Type} (n : Nat) : SR α := .error (.sub n)

namespace Sub
def pinBlockFormat : Nat := 0x01
def pinLength : Nat := 0x02
def digitInvalid : Nat := 0x03
def lookupMiss : Nat := 0x04
def domainMismatch : Nat := 0x05
def memberEmpty : Nat := 0x06
def dataLength : Nat := 0x07
def ksnExhausted : Nat := 0x08
def keyblockHeader : Nat := 0x09
def keyAlgorithm : Nat := 0x0A
end Sub

/-- Requires a condition, or fails with an outcome. -/
def must (b : Bool) (o : StepOut) : SR Unit := if b then .ok () else .error o

/-- The key of a selector; none leaves KEY_NOT_FOUND (R183). -/
def Task.keyAt (t : Task) (sel : Nat) : SR Ctx :=
  match t.ksel sel with
  | some c => .ok c
  | none => .error (.fail Status.keyNotFound)

/-- The key's usage class is one of a list (R199). -/
def needUsage (c : Ctx) (l : List Nat) : SR Unit := must (l.contains c.usage) (.fail Status.keyUseDenied)
/-- A BRANCH or ROOT key serves no step and no operation ("The Key Tree", under R239). -/
def needLeaf (c : Ctx) : SR Unit := must (c.usage != Usage.branch && c.usage != Usage.root) (.fail Status.keyUseDenied)
/-- The key's algorithm is one of a list (R197). -/
def needAlg (c : Ctx) (l : List Nat) : SR Unit := must (l.contains c.alg) (.sub Sub.keyAlgorithm)

/-- A key tray's context and bytes (R198). -/
def keyOut (d usage alg : Nat) (exportable : Bool) (key : Bytes) : StepRes :=
  { writes := [(d, key)]
    ctx := some (0x10 + d / 32,
      { usage := usage, alg := alg, bitLen := 8 * key.length, attrs := b2n exportable * attrExportable, key := key }) }

/-- Bytes written to a tray address. -/
def dataOut (d : Nat) (v : Bytes) : StepRes := { writes := [(d, v)] }
/-- The outcome of a test. -/
def testOut (b : Bool) : StepRes := { out := if b then .yes else .no }

/-! ### Digits and PANs (R195, R196) -/

/-- The digits of a PAN operand of 10 bytes, when it is valid (R195). -/
def panDigits (op : Bytes) : SR (List Nat) :=
  let ns := nibs 20 op
  let ds := ns.takeWhile (· != 15)
  let rest := ns.drop ds.length
  if 12 ≤ ds.length ∧ ds.length ≤ 19 ∧ ds.all (· ≤ 9) ∧ rest.all (· == 15) then .ok ds
  else failSub Sub.digitInvalid

/-- The n digits of a digit string (R196). -/
def digitsOf (n : Nat) (op : Bytes) : SR (List Nat) :=
  let ds := nibs n op
  if ds.all (· ≤ 9) then .ok ds else failSub Sub.digitInvalid

/-- The rightmost n of a list. -/
def lastN {α : Type} (n : Nat) (l : List α) : List α := l.drop (l.length - n)

/-- Digits taken from nibbles: those from 0 to 9 in order, then those from A to F less 10, until n are taken (R213). -/
def decimals (n : Nat) (ns : List Nat) : List Nat := (ns.filter (· ≤ 9) ++ (ns.filter (10 ≤ ·)).map (· - 10)).take n

/-- The nibbles of a byte string. -/
def allNibs (b : Bytes) : List Nat := nibs (2 * b.length) b

/-! ### PIN blocks (R200 to R209) -/

/-- Bytes of a PIN block (R201). -/
def pinBlockLen (fmt : Nat) : Nat := if fmt = 4 then 16 else 8

/-- The algorithms a PIN block key may have for a format (R197). -/
def pinAlgs (fmt : Nat) : List Nat := if fmt = 4 then [2, 3, 4] else [0, 1]

/-- PAN field (R202); the PAN's digits, empty for format 1. -/
def panField (fmt : Nat) (ds : List Nat) : Bytes :=
  match fmt with
  | 1 => zeros 8
  | 4 => cut 0 16 (packNibs 0 ((ds.length - 12) :: ds))
  | _ =>
    let d := lastN 12 ds.dropLast
    packNibs 0 (List.replicate (16 - d.length) 0 ++ d)

/-- PIN field for digits and the bytes of the fill area (R201, R204). -/
def pinField (fmt : Nat) (pin : List Nat) (fill : Bytes) : Bytes :=
  let n := pin.length
  let filler (j : Nat) : Nat :=
    match fmt with
    | 0 => 15
    | 1 => nib j fill
    | 3 => 10 + byteAt j fill % 6
    | _ => 10
  packNibs 0 (fmt :: n :: pin ++ (List.range (14 - n)).map filler) ++ (if fmt = 4 then cut 0 8 fill else [])

/-- Enciphers a PIN field (R203). -/
def pinEncipher (k : CKey) (fmt : Nat) (field pan : Bytes) : Bytes :=
  if fmt = 4 then k.enc (xorB (k.enc field) pan) else k.enc (xorB field pan)

/-- Deciphers a PIN block to its PIN field (R203). -/
def pinDecipher (k : CKey) (fmt : Nat) (block pan : Bytes) : Bytes :=
  if fmt = 4 then k.dec (xorB (k.dec block) pan) else xorB (k.dec block) pan

/-- The PIN of a deciphered PIN field, when it has the declared format (R206). -/
def pinOfField (fmt : Nat) (field : Bytes) : SR (List Nat) :=
  let ns := nibs 16 field
  let n := ns.getD 1 0
  let pin := (ns.drop 2).take n
  let fill := ns.drop (n + 2)
  let fillOk : Bool := match fmt with
    | 0 => fill.all (· == 15)
    | 1 => true
    | 3 => fill.all (10 ≤ ·)
    | _ => fill.all (· == 10)
  if ns.getD 0 0 = fmt ∧ 4 ≤ n ∧ n ≤ 12 ∧ pin.all (· ≤ 9) ∧ fillOk then .ok pin else failSub Sub.pinBlockFormat

/-- The PIN record of R200. -/
def pinRecord (pin : List Nat) : Bytes :=
  byte pin.length :: packNibs 15 (pin ++ List.replicate (12 - pin.length) 15) ++ zeros 9

/-- The PIN of a PIN record (R200). -/
def pinOfRecord (r : Bytes) : SR (List Nat) := do
  let n := byteAt 0 r
  must (decide (4 ≤ n) && decide (n ≤ 12)) (.sub Sub.pinLength)
  let ns := nibs 12 (r.drop 1)
  must ((ns.take n).all (· ≤ 9) && (ns.drop n).all (· == 15) && allZero (cut 7 9 r)) (.sub Sub.digitInvalid)
  return ns.take n

/-- Bytes of the fill area of an output format (R204). -/
def fillLen (fmt : Nat) : Nat :=
  match fmt with
  | 0 => 0
  | 3 => 10
  | _ => 8

/-- The PAN's digits where a format of the step uses the PAN, none otherwise (R205). -/
def panFor (fmts : List Nat) (op : Bytes) : SR (List Nat) :=
  if fmts.all (· == 1) then .ok [] else panDigits op

/-- PIN_TRANSLATE (R207): block, PAN operand and fill area. -/
def pinTranslate (k1 k2 : Ctx) (fin fout : Nat) (block pan fill : Bytes) : SR Bytes := do
  needUsage k1 [Usage.pinEnc]
  needUsage k2 [Usage.pinEnc]
  needAlg k1 (pinAlgs fin)
  needAlg k2 (pinAlgs fout)
  let ds ← panFor [fin, fout] pan
  let pin ← pinOfField fin (pinDecipher (CKey.of k1.alg k1.key) fin block (panField fin ds))
  return pinEncipher (CKey.of k2.alg k2.key) fout (pinField fout pin fill) (panField fout ds)

/-- The PIN of a PIN block under a key (R206, R209). -/
def pinOfBlock (k : Ctx) (fmt : Nat) (block pan : Bytes) : SR (List Nat) := do
  let ds ← panFor [fmt] pan
  pinOfField fmt (pinDecipher (CKey.of k.alg k.key) fmt block (panField fmt ds))

/-- PIN_DECRYPT (R209). -/
def pinDecrypt (k : Ctx) (fmt : Nat) (block pan : Bytes) : SR Bytes := do
  needUsage k [Usage.pinEnc]
  needAlg k (pinAlgs fmt)
  let pin ← pinOfBlock k fmt block pan
  return pinRecord pin

/-- PIN_ENCRYPT (R203). -/
def pinEncrypt (k : Ctx) (fmt : Nat) (record pan fill : Bytes) : SR Bytes := do
  needUsage k [Usage.pinEnc]
  needAlg k (pinAlgs fmt)
  let pin ← pinOfRecord record
  let ds ← panFor [fmt] pan
  return pinEncipher (CKey.of k.alg k.key) fmt (pinField fmt pin fill) (panField fmt ds)

/-! ### PIN verification (R210 to R213) -/

/-- The checks that every PIN verification opcode makes on its keys (R197, R199). -/
def pinVerKeys (k1 k2 : Ctx) (fmt : Nat) : SR Unit := do
  needUsage k1 [Usage.pinEnc]
  needUsage k2 [Usage.pinVer]
  needAlg k1 (pinAlgs fmt)
  needAlg k2 [0, 1]

/-- The operands of the offset method: check length, table and PAN checked (R210, R211). The offset's digits are required where the opcode reads them. -/
def offsetOperands (vrec table : Bytes) (withOffset : Bool) : SR (Nat × List Nat) := do
  let _ ← panDigits (cut 0 10 vrec)
  let l := byteAt 10 vrec
  must (decide (4 ≤ l) && decide (l ≤ 12)) (.sub Sub.pinLength)
  must ((table.take 16).all (fun b => decide (b.toNat ≤ 9))) (.sub Sub.digitInvalid)
  let off ← if withOffset then digitsOf l (cut 20 6 vrec) else .ok []
  return (l, off)

/-- The natural PIN (R212). -/
def naturalPin (k : Ctx) (l : Nat) (vrec table : Bytes) : List Nat :=
  (nibs l (tdeaEnc k.key (cut 12 8 vrec))).map (fun v => byteAt v table)

/-- PIN_VERIFY_OFFSET (R212). -/
def pinVerifyOffset (k1 k2 : Ctx) (fmt : Nat) (block vrec table : Bytes) : SR Bool := do
  pinVerKeys k1 k2 fmt
  let (l, off) ← offsetOperands vrec table true
  let pin ← pinOfBlock k1 fmt block (cut 0 10 vrec)
  let d := List.zipWith (fun p o => (p + 10 - o) % 10) (pin.take l) off
  return decide (l ≤ pin.length) && d == naturalPin k2 l vrec table

/-- PIN_OFFSET_GEN (R212): 6 bytes. -/
def pinOffsetGen (k1 k2 : Ctx) (fmt : Nat) (block vrec table : Bytes) : SR Bytes := do
  pinVerKeys k1 k2 fmt
  let (l, _) ← offsetOperands vrec table false
  let pin ← pinOfBlock k1 fmt block (cut 0 10 vrec)
  must (decide (l ≤ pin.length)) (.sub Sub.pinLength)
  let d := List.zipWith (fun p n => (p + 10 - n) % 10) (pin.take l) (naturalPin k2 l vrec table)
  return packNibs 15 (d ++ List.replicate (12 - l) 15)

/-- The PVV of a PIN (R213): the PVKI is the digit in byte 10 of the record. -/
def pvvOf (k : Ctx) (ds pin : List Nat) (pvki : Nat) : List Nat :=
  let tsp := lastN 11 ds.dropLast ++ [pvki] ++ pin.take 4
  decimals 4 (allNibs (tdeaEnc k.key (packNibs 0 tsp)))

/-- The PVV for a PIN block and a verification record, and the reference PVV where it is read (R213). -/
def pvvMethod (k1 k2 : Ctx) (fmt : Nat) (block vrec : Bytes) (withRef : Bool) : SR (List Nat × List Nat) := do
  pinVerKeys k1 k2 fmt
  let ds ← panDigits (cut 0 10 vrec)
  must (decide (byteAt 10 vrec ≤ 9)) (.sub Sub.digitInvalid)
  let ref ← if withRef then digitsOf 4 (cut 12 2 vrec) else .ok []
  let pin ← pinOfBlock k1 fmt block (cut 0 10 vrec)
  return (pvvOf k2 ds pin (byteAt 10 vrec), ref)

/-! ### Card verification values (R214, R215) -/

/-- CVV_GEN's digit string of 3 digits (R215). -/
def cvvOf (k : Ctx) (kind : Nat) (card : Bytes) : SR Bytes := do
  needUsage k [Usage.cvk]
  needAlg k [0]
  let ds ← panDigits (cut 0 10 card)
  let exp ← digitsOf 4 (cut 10 2 card)
  let svc ← match kind with
    | 0 => digitsOf 3 (cut 12 2 card)
    | 1 => .ok [0, 0, 0]
    | _ => .ok [9, 9, 9]
  let all := ds ++ exp ++ svc
  let b := packNibs 0 (all ++ List.replicate (32 - all.length) 0)
  let x := xorB (desEnc (cut 0 8 k.key) (cut 0 8 b)) (cut 8 8 b)
  return digitString (decimals 3 (allNibs (tdeaEnc k.key x)))

/-! ### MAC and KCV (R216 to R219) -/

/-- The algorithms a MAC key may have (R197). -/
def macAlgs (kind : Nat) : List Nat := if kind = 3 then [0] else [0, 1, 2, 3, 4]

/-- The leftmost m bytes of a MAC step (R216, R218). -/
def stepMac (k : Ctx) (arg : Nat) (data : Bytes) : SR Bytes := do
  needUsage k [Usage.mac]
  needAlg k (macAlgs (bits 2 0 arg))
  let m := bits 9 5 arg
  must (decide (m ≤ blockBytes k.alg)) (.sub Sub.dataLength)
  return (macOf k.alg k.key (bits 2 0 arg) (bits 4 3 arg) data).take m

/-- The key check value of a symmetric key (R219). -/
def kcvOf (alg : Nat) (key : Bytes) : Bytes :=
  if isTdea alg then (tdeaEnc key (zeros 8)).take 3
  else (cmac (CKey.aes (aesKeys key)) (zeros 16)).take 3

/-! ### DUKPT (R220 to R226) -/

/-- The constant that NRKGP and the initial key use. -/
def dukptMask : Bytes := beBytes 16 0xC0C0C0C000000000C0C0C0C000000000

/-- NRKGP (R220). -/
def nrkgp (k r : Bytes) : Bytes :=
  let half (k : Bytes) : Bytes :=
    let kr := cut 8 8 k
    xorB (desEnc (cut 0 8 k) (xorB r kr)) kr
  half (xorB k dukptMask) ++ half k

/-- The set bits of a counter of n bits, highest first, with the value each step of the derivation reaches. -/
def counterSteps (n c : Nat) : List Nat :=
  ((List.range n).reverse.filter (c.testBit ·)).foldl (fun acc b => acc ++ [acc.getLastD 0 + 2 ^ b]) []

/-- The usage class of a TDEA DUKPT variant and its constant per half (R221). -/
def dukptVariant (v : Nat) : Nat × Nat :=
  match v with
  | 0 => (Usage.pinEnc, 0xFF)
  | 1 => (Usage.mac, 0xFF00)
  | 2 => (Usage.mac, 0xFF000000)
  | 3 => (Usage.data, 0xFF0000)
  | _ => (Usage.data, 0xFF00000000)

/-- DUKPT_TDEA_DERIVE (R220 to R222): usage and key. -/
def dukptTdea (bdk : Ctx) (variant : Nat) (ksn : Bytes) : SR (Nat × Bytes) := do
  needUsage bdk [Usage.bdk]
  needAlg bdk [0]
  let v := beNat ksn
  let ctr := v % 2 ^ 21
  must (ctr != 0 && decide ((setBits 21 ctr).length ≤ 10)) (.sub Sub.ksnExhausted)
  let init := beBytes 10 (v - ctr)
  let s := init.take 8
  let ik := tdeaEnc bdk.key s ++ tdeaEnc (xorB bdk.key dukptMask) s
  let r0 := beNat (init.drop 2)
  let k := (counterSteps 21 ctr).foldl (fun k b => nrkgp k (beBytes 8 (r0 + b))) ik
  let (usage, c) := dukptVariant variant
  let vk := xorB k (beBytes 8 c ++ beBytes 8 c)
  return (usage, if variant ≥ 3 then tdeaEnc vk (vk.take 8) ++ tdeaEnc vk (vk.drop 8) else vk)

/-- One key of the AES DUKPT derivation (R223): data with bytes 8 to 15 given. -/
def dukptAesKey (parent : Bytes) (usage alg : Nat) (tail : Bytes) : Bytes :=
  let bits := algBits alg
  let k := CKey.aes (aesKeys parent)
  let blk (i : Nat) : Bytes := k.enc ([1, byte i] ++ beBytes 2 usage ++ beBytes 2 alg ++ beBytes 2 bits ++ tail)
  (blk 1 ++ (if bits > 128 then blk 2 else [])).take (bits / 8)

/-- Usage indicator and usage class of ARG[3:0] (R225). -/
def dukptAesUsage (u : Nat) : Nat × Nat :=
  match u with
  | 0 => (0x1000, Usage.pinEnc)
  | 1 => (0x2000, Usage.mac)
  | 2 => (0x2001, Usage.mac)
  | 3 => (0x2002, Usage.mac)
  | 4 => (0x3000, Usage.data)
  | 5 => (0x3001, Usage.data)
  | _ => (0x3002, Usage.data)

/-- DUKPT_AES_DERIVE (R225, R226): usage and key. The working-key algorithm is coded as R240 codes it. -/
def dukptAes (bdk : Ctx) (use alg : Nat) (ksn : Bytes) : SR (Nat × Bytes) := do
  needUsage bdk [Usage.bdk]
  needAlg bdk [2, 3, 4]
  let ctr := beNat (cut 8 4 ksn)
  must (ctr != 0 && decide ((setBits 32 ctr).length ≤ 16)) (.sub Sub.ksnExhausted)
  must (decide (algBits alg ≤ algBits bdk.alg)) (.sub Sub.keyAlgorithm)
  let ik := dukptAesKey bdk.key 0x8001 bdk.alg (cut 0 8 ksn)
  let tail (c : Nat) : Bytes := cut 4 4 ksn ++ beBytes 4 c
  let k := (counterSteps 32 ctr).foldl (fun k b => dukptAesKey k 0x8000 bdk.alg (tail b)) ik
  let (ind, usage) := dukptAesUsage use
  return (usage, dukptAesKey k ind alg (tail ctr))

/-! ### EMV (R227 to R230) -/

/-- The string Y of EMV_MK_DERIVE (R227). -/
def emvY (optB : Bool) (ds psn : List Nat) : Bytes :=
  let s := ds ++ psn
  if optB ∧ ds.length > 16 then
    let s := if s.length % 2 = 1 then 0 :: s else s
    packNibs 0 (decimals 16 (allNibs (sha1 (packNibs 0 s))))
  else
    let r := lastN 16 s
    packNibs 0 (List.replicate (16 - r.length) 0 ++ r)

/-- EMV_MK_DERIVE (R227): the card master key. -/
def emvMk (imk : Ctx) (optB : Bool) (pan psn : Bytes) : SR Bytes := do
  needUsage imk [Usage.imk]
  needAlg imk [0, 2, 3, 4]
  let ds ← panDigits pan
  let sn ← digitsOf 2 psn
  let y := emvY optB ds sn
  let ny := y.map (· ^^^ 0xFF)
  let k := CKey.of imk.alg imk.key
  return if isTdea imk.alg then oddParity (k.enc y ++ k.enc ny)
    else (k.enc (y ++ ny) ++ k.enc (ny ++ y)).take (symKeyBytes imk.alg)

/-- EMV_SK_DERIVE (R228): the session key. -/
def emvSk (mk : Ctx) (method : Nat) (atc un : Bytes) : SR Bytes := do
  needUsage mk [Usage.cardMk]
  let tail := if method = 1 then (0 : Byte) :: un else zeros 5
  let r := atc ++ [0xF0] ++ tail
  let r' := atc ++ [0x0F] ++ tail
  let k := CKey.of mk.alg mk.key
  return if isTdea mk.alg then oddParity (k.enc r ++ k.enc r')
    else (k.enc (r ++ zeros 8) ++ k.enc (r' ++ zeros 8)).take (symKeyBytes mk.alg)

/-- ARQC_VERIFY (R229). -/
def arqcVerify (sk : Ctx) (method : Nat) (data arqc : Bytes) : SR Bool := do
  needUsage sk [Usage.cardSk]
  must (isTdea sk.alg || method == 0) (.sub Sub.keyAlgorithm)
  let m := if isTdea sk.alg then macOf sk.alg sk.key 3 (if method = 1 then 1 else 2) data else cmacAlg sk.alg sk.key data
  return m.take 8 == arqc

/-- ARPC_GEN (R230): B is the ARC or the CSU. -/
def arpcOf (k : Ctx) (method : Nat) (arqc arc csu : Bytes) : SR Bytes := do
  needUsage k [Usage.cardSk, Usage.cardMk]
  return if method = 0 then
      let x := xorB arqc (arc ++ zeros 6)
      let ck := CKey.of k.alg k.key
      if isTdea k.alg then ck.enc x else (ck.enc (x ++ zeros 8)).take 8
    else
      let m := if isTdea k.alg then macOf k.alg k.key 3 2 (arqc ++ csu) else cmacAlg k.alg k.key (arqc ++ csu)
      m.take 4 ++ zeros 4

/-! ### Key blocks (R231 to R235) -/

/-- A character code of an ASCII byte. -/
def ascii (s : String) : Bytes := s.toList.map (fun ch => byte ch.toNat)

/-- The usage class and mode of use of a key usage (R232). -/
def kbUsage (u : Bytes) : Option (Nat × Nat) :=
  let tab : List (String × Nat × Nat) :=
    [("P0", Usage.pinEnc, 0x42), ("V1", Usage.pinVer, 0x43), ("V2", Usage.pinVer, 0x43), ("C0", Usage.cvk, 0x43),
     ("M1", Usage.mac, 0x43), ("M3", Usage.mac, 0x43), ("M6", Usage.mac, 0x43), ("D0", Usage.data, 0x42),
     ("E0", Usage.imk, 0x58), ("B0", Usage.bdk, 0x58), ("K0", Usage.kek, 0x42), ("K1", Usage.kek, 0x42)]
  (tab.find? (fun e => ascii e.1 == u)).map (·.2)

/-- Block length of a version (R231). -/
def kbLength (ver : Nat) : Nat := if ver = 0x42 then 96 else 144
/-- Key data field bytes of a version. -/
def kbField (ver : Nat) : Nat := if ver = 0x42 then 32 else 48
/-- MAC bytes of a version. -/
def kbMacLen (ver : Nat) : Nat := if ver = 0x42 then 8 else 16

/-- An ASCII decimal digit. -/
def isDigit (b : Byte) : Bool := decide (0x30 ≤ b.toNat) && decide (b.toNat ≤ 0x39)

/-- A header keeps R231 and R232, the length field apart from its value. -/
def kbHeaderOk (h : Bytes) : Bool :=
  let ver := byteAt 0 h
  let al := byteAt 7 h
  (ver == 0x42 || ver == 0x44) && (cut 1 4 h).all isDigit && (al == 0x54 || al == 0x41) &&
    (match kbUsage (cut 5 2 h) with
     | some (_, m) => byteAt 8 h == m
     | none => false) &&
    (byteAt 11 h == 0x45 || byteAt 11 h == 0x4E) && cut 12 4 h == ascii "0000"

/-- The version suits the KEK (R197). -/
def kbSuits (ver alg : Nat) : Bool := (ver == 0x42 && isTdea alg) || (ver == 0x44 && isAes alg)

/-- A block key of the KEK (R233): usage 0 encrypts, 1 authenticates. -/
def kbKey (kek : Ctx) (usage : Nat) : Bytes :=
  let k := CKey.of kek.alg kek.key
  let len := symKeyBytes kek.alg
  let blk (i : Nat) : Bytes := cmac k ([byte i] ++ beBytes 2 usage ++ [0] ++ beBytes 2 kek.alg ++ beBytes 2 (algBits kek.alg))
  (blk 1 ++ blk 2 ++ blk 3).take len

/-- An uppercase hexadecimal digit. -/
def hexDigit (n : Nat) : Byte := byte (if n < 10 then 0x30 + n else 0x37 + n)
/-- Uppercase hexadecimal. -/
def hexOf (b : Bytes) : Bytes := (allNibs b).map hexDigit
/-- The value of an uppercase hexadecimal digit. -/
def unhexDigit (b : Byte) : Option Nat :=
  let n := b.toNat
  if 0x30 ≤ n ∧ n ≤ 0x39 then some (n - 0x30) else if 0x41 ≤ n ∧ n ≤ 0x46 then some (n - 0x37) else none
/-- Bytes of an uppercase hexadecimal string. -/
def unhex (b : Bytes) : Option Bytes := (b.mapM unhexDigit).map (packNibs 0)

/-- Strength in bits (R234); none for a key that R234 gives no strength. -/
def kbStrength (alg : Nat) : Nat :=
  match alg with
  | 0 => 80
  | 1 => 112
  | 2 => 128
  | 3 => 192
  | 4 => 256
  | _ => 0

/-- The checks of KEYBLOCK_WRAP in order (R234), for an output of at most n bytes. -/
def kbWrapChecks (kek key : Ctx) (header : Bytes) (n : Nat) : SR Unit := do
  needUsage kek [Usage.kek]
  needLeaf key
  must (bit 0 key.attrs) (.fail Status.keyUseDenied)
  must (kbSuits (byteAt 0 header) kek.alg && decide (kbStrength key.alg ≤ kbStrength kek.alg)) (.sub Sub.keyAlgorithm)
  must (kbHeaderOk header && (kbUsage (cut 5 2 header)).map (·.1) == some key.usage
      && byteAt 7 header == (if isTdea key.alg then 0x54 else 0x41) && decide (key.alg ≤ 4)) (.sub Sub.keyblockHeader)
  must (decide (kbLength (byteAt 0 header) ≤ n)) (.sub Sub.dataLength)

/-- Padding bytes of a key in a block of a version. -/
def kbPad (ver : Nat) (key : Ctx) : Nat := kbField ver - 2 - key.key.length

/-- The key block (R233, R234), for padding bytes drawn. -/
def kbWrap (kek key : Ctx) (header pad : Bytes) : Bytes :=
  let ver := byteAt 0 header
  let len := kbLength ver
  let h := patch 1 [0x30, hexDigit (len / 100 % 10), hexDigit (len / 10 % 10), hexDigit (len % 10)] (header.take 16)
  let kd := beBytes 2 (8 * key.key.length) ++ key.key ++ pad
  let mac := cmac (CKey.of kek.alg (kbKey kek 1)) (h ++ kd)
  h ++ hexOf (cipherMode (CKey.of kek.alg (kbKey kek 0)) 1 true mac kd).1 ++ hexOf mac

/-- The key data field of a block (R235 steps 4 and 5, with the hexadecimal characters of step 1): its MAC verifies, and the key's length suits the header's algorithm and the field. Gives the algorithm and the key. -/
def kbOpen (kek : Ctx) (block : Bytes) (len : Nat) : SR (Nat × Bytes) := do
  let h := cut 0 16 block
  let ver := byteAt 0 h
  match unhex ((block.take len).drop 16) with
  | none => failSub Sub.keyblockHeader
  | some bs =>
    let mac := bs.drop (kbField ver)
    let kd := (cipherMode (CKey.of kek.alg (kbKey kek 0)) 1 false mac (bs.take (kbField ver))).1
    must (cmac (CKey.of kek.alg (kbKey kek 1)) (h ++ kd) == mac) (.fail Status.authFail)
    let kbits := beNat (kd.take 2)
    let alg := if byteAt 7 h = 0x54 then (if kbits = 128 then some 0 else if kbits = 192 then some 1 else none)
      else if kbits = 128 then some 2 else if kbits = 192 then some 3 else if kbits = 256 then some 4 else none
    match alg with
    | none => failSub Sub.keyblockHeader
    | some a =>
      must (decide (2 + symKeyBytes a ≤ kbField ver)) (.sub Sub.keyblockHeader)
      return (a, cut 2 (symKeyBytes a) kd)

/-- KEYBLOCK_UNWRAP's checks and result (R235): usage, algorithm, exportability and key. The expected usage class is none for KT_IMPORT, which takes the header's. -/
def kbUnwrap (kek : Ctx) (block : Bytes) (len : Nat) (expect : Option Nat) : SR (Nat × Nat × Bool × Bytes) := do
  needUsage kek [Usage.kek]
  let h := cut 0 16 block
  let ver := byteAt 0 h
  let field := (cut 1 4 h).foldl (fun a b => 10 * a + (b.toNat - 0x30)) 0
  must (kbHeaderOk h && field == len && len == kbLength ver && (unhex ((block.take len).drop 16)).isSome) (.sub Sub.keyblockHeader)
  must (kbSuits ver kek.alg) (.sub Sub.keyAlgorithm)
  let usage := ((kbUsage (cut 5 2 h)).map (·.1)).getD 0
  must (expect.isNone || expect == some usage) (.sub Sub.keyblockHeader)
  let (a, key) ← kbOpen kek block len
  return (usage, a, byteAt 11 h == 0x45, key)

end Sys2Proof.Machine
end

