-- ==== Sys2Proof/Machine/Tamper.lean ====
section
/-! DEFINITION. Tamper monitors: classes and floors (R407 to R409), detections and alarm groups (R410 to R412), ERASE (R411), stimulus tests (R406), battery-only operation (R415 to R417), and the alarm configuration and log operations (R414, R418). -/

namespace Sys2Proof.Machine

/-! ### Classes and floors -/

/-- The FIELDED floor of each alarm source (R403). -/
def fieldedFloors : List Nat :=
  [3, 3, 3, 3, 3, 0, 0, 1, 2, 1, 1, 1, 1, 2, 2, 2, 2, 2, 3, 0, 0, 0, 0, 3, 2, 2, 2, 2, 2]

/-- The floors of the current life-cycle state (R408). -/
def Core.floors (c : Core) : List Nat := if c.fielded then fieldedFloors else List.replicate 29 0

/-- The sources that run in the battery domain (R403). -/
def isBattery (a : Nat) : Bool := decide (a ≤ 6) || (decide (19 ≤ a) && decide (a ≤ 23))

/-- Sources whose detection is an occurrence and not a lasting condition: a glitch, an invalid encoding, a debug access, an uncorrectable word, a failed stimulus. They re-arm at once (DESIGN CHOICE). -/
def isMomentary (a : Nat) : Bool := [16, 17, 24, 26, 28].contains a

/-- The class in force of a source (R408, R409). -/
def Core.alarmClass (c : Core) (a : Nat) : Nat :=
  if c.tmp.cfgRead then c.tmp.cfg.cls.getD a 0
  else if isBattery a then c.batt.cls.getD a 0
  else max (alarmDefaults.getD a 0) (fieldedFloors.getD a 0)

/-- The source is enabled (R409). -/
def Core.alarmEnabled (c : Core) (a : Nat) : Bool :=
  if c.tmp.cfgRead then bit a c.tmp.cfg.enables
  else if isBattery a then bit a c.batt.enables
  else true

/-- A created port's reference clock is good. -/
def Core.goodClock (c : Core) (n : Nat) : Bool := c.created n && (c.port n).refStable && !bit (9 + n) c.tmp.level

/-- TMP_STATUS.OSC_UNCHECKED: OSC has no good created reference clock (R405). -/
def Core.oscUnchecked (c : Core) : Bool := (List.range 4).all (fun n => !c.goodClock n)

/-- The source is at work: its unit is powered, the loop is enabled, the port is created, OSC has a reference (R403, R409). -/
def Core.alarmWorks (c : Core) (a : Nat) : Bool :=
  decide (a < 29) && (c.g.mode != .retain || (isBattery a && c.batt.counter.isSome)) && c.alarmEnabled a &&
  (if 9 ≤ a ∧ a ≤ 12 then c.created (a - 9)
   else if a = 13 then !c.oscUnchecked
   else true)

/-- The source can detect now: it is at work, and for DEBUG the life-cycle state makes the access an alarm (R403, R442). -/
def Core.alarmLive (c : Core) (a : Nat) : Bool := c.alarmWorks a && (a != 24 || c.lcState == 1 || c.lcState == 2)

/-! ### Group numbers and logs -/

/-- The highest group number in the alarm log. -/
def topGroup (l : List AlarmEnt) : Nat := l.foldl (fun a e => max a e.group) 0

/-- The next group number: one above the last group's; from the alarm log once the battery-domain counter is lost (R410, R417). -/
def Core.nextGroup (c : Core) : Nat :=
  match c.batt.counter with
  | some n => (n + 1) % 2 ^ 48
  | none => (topGroup c.flash.alarmLog + 1) % 2 ^ 48

/-- Takes the next group number. -/
def Core.takeGroup (c : Core) : Core := { c with batt := { c.batt with counter := some c.nextGroup } }

/-- An entry put into the alarm log in the order of group numbers (R418). -/
def insertAlarm (e : AlarmEnt) (l : List AlarmEnt) : List AlarmEnt :=
  l.filter (fun x => decide (x.group ≤ e.group)) ++ [e] ++ l.filter (fun x => decide (e.group < x.group))

/-- The last entry of the alarm log; zeros where it is empty. -/
def lastAlarmOf (l : List AlarmEnt) : AlarmEnt :=
  l.getLast?.getD { group := 0, time := 0, seconds := 0, mode := 0, state := 0, cls := 0, flags := 0, members := 0, overflow := 0 }

/-- An entry of the alarm log, which keeps the 4,096 most recent groups (R418). -/
def Core.logAlarm (c : Core) (e : AlarmEnt) : Core :=
  let l := insertAlarm e c.flash.alarmLog
  let a := lastAlarmOf l
  { c with
    flash := { c.flash with alarmLog := l.drop (l.length - 4096) }
    tmp := { c.tmp with lastGroup := a.group, lastSources := a.members, lastClass := a.cls } }

/-- An entry of the battery log: the first 16 groups, further ones counted (R416). -/
def Batt.logGroup (b : Batt) (e : BattEnt) : Batt :=
  if b.log.length < 16 then { b with log := b.log ++ [e] } else { b with overflow := sat 8 (b.overflow + 1) }

/-- Whether the group has run its crowbar. -/
def OpenGroup.crowbar (g : OpenGroup) : Bool := if g.inRetain then decide (2 ≤ g.cls) else g.erasing

/-- The battery-log entry of a group. -/
def OpenGroup.battEnt (g : OpenGroup) : BattEnt :=
  { group := g.number, seconds := g.seconds, members := g.members, crowbar := g.crowbar }

/-! ### Closing a group (R410) -/

/-- The change of mode of a closing group: ZEROIZED, SAFE_HALT, or none; none on a scrapped unit (R408, R410). -/
def Core.groupMode (c : Core) (g : OpenGroup) : Core :=
  if c.lcState == 4 then c
  else if g.cls = 3 then c.enterZeroized (g.number % 2 ^ 16)
  else if g.cls = 2 then c.enterSafeHalt 1 (g.number % 2 ^ 16)
  else c

/-- The group closes: the mode changes once, the log takes it, and source 32 + a tells of each member a (R410, R423). -/
def Core.closeGroup (c : Core) : Core :=
  match c.tmp.group with
  | none => c
  | some g =>
    let c := { c with tmp := { c.tmp with group := none } }
    if g.inRetain then { c with batt := c.batt.logGroup g.battEnt }
    else
      let c := (c.groupMode g).logAlarm
        { group := g.number, time := g.openAt, seconds := 0, mode := g.mode, state := c.lcState, cls := g.cls,
          flags := 2 * b2n g.injected + 4 * b2n g.crowbar, members := g.members, overflow := 0 }
      if c.lcState == 4 then c else (setBits 29 g.members).foldl (fun c a => c.pulseAll (32 + a)) c

/-- The group may close: its window has passed and its ERASE, if any, has ended (R410). -/
def OpenGroup.mayClose (g : OpenGroup) (now : W48) : Bool :=
  if g.inRetain then true else (!g.erasing || g.eraseDone) && later now (g.openAt + 100)

/-- A further detection joins the group: within 1.0 µs of its opening, or while its ERASE runs (R410); in RETAIN only in the second of the battery domain's clock in which the group opened (R415). -/
def OpenGroup.takes (g : OpenGroup) (now : W48) (seconds : Nat) : Bool :=
  if g.inRetain then g.seconds == seconds && reached (g.openAt + 100) now
  else reached (g.openAt + 100) now || (g.erasing && !g.eraseDone)

/-- The class under which a detection counts: that of the open group it joins, or the one in force (R413). -/
def Core.classFor (c : Core) (a : Nat) : Nat :=
  match c.tmp.group with
  | some g => if g.takes c.now c.batt.seconds then g.classes.getD a 0 else c.alarmClass a
  | none => c.alarmClass a

/-- The battery domain's clock has come to a second; it never goes back (R415). -/
def Core.battClock (c : Core) (seconds : Nat) : Core :=
  if c.g.mode == .retain then { c with batt := { c.batt with seconds := max c.batt.seconds seconds } } else c

/-! ### Responses (R407) -/

/-- Every engine stops at its current step (R410, R411). -/
def Core.stopEngines (c : Core) : Core := { c with eng := { c.eng with jobs := [] } }

/-- A port taken out by its REFCLK source: reset, and its link held in detect (R407). -/
def Core.holdPort (c : Core) (n : Nat) : Core :=
  (c.resetPort n).updPort n (fun p =>
    { p with link := .down, training := false, speed := 0, width := 0, refStable := false, detect := if p.perstLow then 2 else 1 })

/-- The ideal diode of an input opens (R407, R447). -/
def Core.openInput (c : Core) (i : Nat) : Core :=
  if i < 2 ∧ c.pwr.vin.getD i 0 ≠ 4 then
    ({ c with pwr := { c.pwr with vin := upd i (fun _ => 4) c.pwr.vin, back := upd i (fun _ => false) c.pwr.back } } : Core).pulseAll 12
  else c

/-- What a DEGRADE takes out (R403). -/
def Core.degrade (c : Core) (a input : Nat) : Core :=
  if a = 7 then c.openInput input
  else if 9 ≤ a ∧ a ≤ 12 then c.holdPort (a - 9)
  else if a = 24 then { c with lcs := { c.lcs with disabled := true } }
  else c

/-- The group begins an ERASE, unless it already runs one (R411). -/
def OpenGroup.beginErase (now : W48) (g : OpenGroup) : OpenGroup :=
  if g.erasing then g else { g with erasing := true, eraseAt := now }

/-- An ERASE begins. -/
def Core.startErase (c : Core) : Core := { c with tmp := { c.tmp with group := c.tmp.group.map (OpenGroup.beginErase c.now) } }

/-- The response of a detection, which starts at once; each class includes the weaker ones (R407, R410). -/
def Core.respond (c : Core) (a input cls : Nat) : Core :=
  if c.lcState == 4 then c
  else if c.g.mode == .retain then
    if 2 ≤ cls then { c with batt := { c.batt with swk := none } } else c
  else
    let c := if 3 ≤ cls ∨ (cls = 2 ∧ !c.halted) then c.stopEngines else c
    let c := if 3 ≤ cls then c.startErase else c
    if 1 ≤ cls then c.degrade a input else c

/-- The detection joins the open group or opens one (R410). -/
def Core.joinGroup (c : Core) (a cls : Nat) (injected : Bool) : Core :=
  let c := match c.tmp.group with
    | some g => if g.takes c.now c.batt.seconds then c else c.closeGroup
    | none => c
  match c.tmp.group with
  | some g =>
    { c with tmp := { c.tmp with group := some { g with members := g.members ||| 2 ^ a, cls := max g.cls cls, injected := g.injected || injected } } }
  | none =>
    let c := c.takeGroup
    let g : OpenGroup :=
      { number := c.batt.counter.getD 0, openAt := c.now, mode := c.g.mode.code, members := 2 ^ a, cls := cls, erasing := false,
        eraseDone := false, injected := injected, classes := (List.range 29).map c.alarmClass, inRetain := c.g.mode == .retain,
        seconds := if c.g.mode == .retain then c.batt.seconds else 0, eraseAt := c.now }
    { c with tmp := { c.tmp with group := some g } }

/-- A detection of source a with a class: it is seen, joins a group, and its response starts. -/
def Core.detectAs (c : Core) (a cls input : Nat) (injected : Bool) : Core :=
  let c := { c with tmp := { c.tmp with seen := c.tmp.seen ||| 2 ^ a } }
  (c.joinGroup a cls injected).respond a input cls

/-- The battery domain stops: SWK, battery log and counter are lost (R417). -/
def Batt.lose (b : Batt) : Batt := { b with swk := none, log := [], overflow := 0, counter := none, failedStimulus := [], lost := true }

/-- The condition of a source has persisted since an earlier detection: for VIN_OVER that of the input (R412, R448). -/
def Tmp.persists (t : Tmp) (a input : Nat) : Bool := if a = 7 then bit input t.overs else bit a t.level

/-- The condition of a source is present: of the momentary sources none is. -/
def Tmp.present (t : Tmp) (a input : Nat) : Tmp :=
  if isMomentary a then t
  else { t with level := t.level ||| 2 ^ a, overs := if a = 7 then t.overs ||| 2 ^ input else t.overs, unprotected := t.unprotected || a == 6 }

/-- Both inputs have stopped carrying load and an internal rail fails: PWROK_OUT falls at once (R451). -/
def Core.railFails (c : Core) : Core :=
  if c.pwr.vin.any (fun s => s == 1 || s == 2 || s == 3) then c else { c with pwr := { c.pwr with pwrok := false } }

/-- A detection of source a at a second of the battery domain's clock, unless the source cannot detect or its condition has persisted since an earlier one (R412). -/
def Core.detect (c : Core) (a seconds input : Nat) : Core :=
  if !c.alarmLive a || c.tmp.persists a input then c
  else
    let c := ({ c with tmp := c.tmp.present a input } : Core).battClock seconds
    if a = 6 ∧ c.g.mode = .retain then { c with batt := c.batt.lose, tmp := { c.tmp with group := none } }
    else
      let c := c.detectAs a (c.classFor a) input false
      if a = 8 then c.railFails else c

/-! ### The commands -/

/-- ALARM_DETECT (R403). -/
def execAlarmDetect (source seconds input : Nat) (s : State) : Host.Outcome State Fault Refusal :=
  run (fun c => c.detect source seconds input) s

/-- ALARM_GROUP_CLOSE (R410): at the end of the window, or of the ERASE. -/
def execAlarmGroupClose (s : State) : Host.Outcome State Fault Refusal :=
  run (fun c =>
    match c.tmp.group with
    | some g => if g.erasing && !g.eraseDone then c else if g.inRetain then c.closeGroup else (c.moveTo (g.openAt + 100)).closeGroup
    | none => c) s

/-- The end of a running ERASE (R411): at the latest 5 µs after its start, and at that moment unless device time stands later already (DESIGN CHOICE, log entry 104). -/
def Core.eraseEnd (c : Core) : Core :=
  match c.tmp.group with
  | some g =>
    if g.erasing && !g.eraseDone then
      let c := c.moveTo (g.eraseAt + 500)
      ({ c with tmp := { c.tmp with group := some { g with eraseDone := true } } } : Core).eraseSecrets
    else c
  | none => c

/-- ERASE_END (R411). -/
def execEraseEnd (s : State) : Host.Outcome State Fault Refusal := run Core.eraseEnd s

/-- ALARM_REARM (R412). -/
def execAlarmRearm (source : Nat) (s : State) : Host.Outcome State Fault Refusal :=
  run (fun c => { c with tmp := { c.tmp with level := c.tmp.level &&& ((2 ^ 29 - 1) ^^^ (2 ^ source)), overs := if source = 7 then 0 else c.tmp.overs } }) s

/-- MONITOR_STIMULUS (R406): while main power is present; the stimulus of a disabled loop is not run. -/
def execMonitorStimulus (source channel : Nat) (detected : Bool) (s : State) : Host.Outcome State Fault Refusal :=
  run (fun c => if detected || c.g.mode == .retain || 29 ≤ source || 2 ≤ channel || !c.alarmEnabled source then c else c.detect 28 0 0) s

/-- RETAIN_STIMULUS (R406): failures are logged in the battery log as source 28 and tested again at the next WAKE. -/
def execRetainStimulus (failing : List Nat) (seconds : Nat) (s : State) : Host.Outcome State Fault Refusal :=
  run (fun c =>
    let bad := failing.filter (fun k => isBattery (k / 2) && c.alarmEnabled (k / 2))
    if c.g.mode != .retain || c.batt.counter.isNone || bad.isEmpty then c
    else
      let c := ({ c with batt := { c.batt with failedStimulus := (c.batt.failedStimulus ++ bad).eraseDups } } : Core).battClock seconds
      c.joinGroup 28 0 false) s

/-- RETENTION_PROTECT_RESTORE (R417). -/
def execRetentionProtectRestore (s : State) : Host.Outcome State Fault Refusal :=
  run (fun c => if c.g.mode == .retain then c else { c with tmp := { c.tmp with unprotected := false } }) s

/-- BATTERY_DOMAIN_LOSS (R417): while main power is absent. -/
def execBatteryDomainLoss (s : State) : Host.Outcome State Fault Refusal :=
  run (fun c => if c.g.mode == .retain then { c with batt := c.batt.lose, tmp := { c.tmp with group := none } } else c) s

/-! ### WAKE and the battery log (R416, R417) -/

/-- WAKE has read the alarm configuration from flash, or from the defaults raised to the floors when neither copy is readable; the battery domain takes its copy (R409). -/
def Core.readAlarmCfg (c : Core) : Core :=
  let cfg := if c.flash.readable.any (·) then c.flash.cfg
    else { AlarmCfg.default with cls := (List.zipWith max alarmDefaults c.floors) }
  { c with
    tmp := { c.tmp with cfg := cfg, cfgRead := true }
    batt := { c.batt with cls := cfg.cls, enables := cfg.enables } }

/-- WAKE copies the battery log to the alarm log, tells of it and clears it (R416). -/
def Core.copyBattLog (c : Core) : Core :=
  if c.batt.log.isEmpty then { c with tmp := { c.tmp with retainEvents := false } }
  else
    let ents := c.batt.log.zipIdx
    let c' := ents.foldl (fun c (e, i) => c.logAlarm
        { group := e.group, time := 0, seconds := e.seconds, mode := 0, state := c.lcState,
          cls := (setBits 29 e.members).foldl (fun m a => max m (if a = 28 then 0 else c.batt.cls.getD a 0)) 0,
          flags := 1 + 4 * b2n e.crowbar, members := e.members, overflow := if i = 0 then c.batt.overflow else 0 }) c
    ({ c' with
        batt := { c'.batt with log := [], overflow := 0 }
        tmp := { c'.tmp with retainEvents := true } } : Core).pulseAll 63

/-! ### TM_CONFIGURE (R413, R414) -/

/-- The configuration a request states, with the measured loops as references. -/
def cfgOf (b : Bytes) (ohms : List Nat) : AlarmCfg :=
  let en := (List.range 29).foldl (fun m a => if bit 2 (byteAt a b) then m + 2 ^ a else m) 0
  { cls := (List.range 29).map (fun a => bits 1 0 (byteAt a b))
    enables := en
    thresholds := (List.range 4).map (fun n => byteAt (32 + n) b)
    refs := (List.range 4).map (fun n => if bit (19 + n) en then ohms.getD n 0 else 0) }

/-- The checks of R414 in their order: DETAIL of the first that fails. -/
def tmCheck (b : Bytes) (ohms floors : List Nat) : Option Nat :=
  let loops := (List.range 4).filter (fun n => bit 2 (byteAt (19 + n) b))
  if b.length ≠ 64 ∨ (List.range 29).any (fun a => bits 7 3 (byteAt a b) != 0) ∨ !allZero (cut 29 3 b) ∨ !allZero (cut 36 28 b)
      ∨ loops.any (fun n => decide (byteAt (32 + n) b < 5) || decide (byteAt (32 + n) b > 50)) then some 0x320
  else if (List.range 29).any (fun a => decide (bits 1 0 (byteAt a b) < floors.getD a 0)) then some 0x321
  else if (List.range 29).any (fun a => !(decide (19 ≤ a) && decide (a ≤ 22)) && !bit 2 (byteAt a b)) then some 0x322
  else if loops.any (fun n => decide (ohms.getD n 0 < 1000) || decide (ohms.getD n 0 > 10000)) then some 0x323
  else none

/-- The open group closes before a standing source opens one of its own, unless its ERASE runs, which every detection joins (R410, R413). -/
def Core.closeFor (c : Core) : Core :=
  match c.tmp.group with
  | some g => if (g.erasing && !g.eraseDone) || g.classes == (List.range 29).map c.alarmClass then c else c.closeGroup
  | none => c

/-- The inputs a standing source concerns: those of VIN_OVER, and 0 for any other. -/
def Tmp.inputsOf (t : Tmp) (a : Nat) : List Nat := if a = 7 then setBits 2 t.overs else [0]

/-- A source whose condition is present is detected under its new class (R413). -/
def Core.detectRaised (c : Core) (a : Nat) : Core :=
  (c.tmp.inputsOf a).foldl (fun c i => c.closeFor.detectAs a (c.alarmClass a) i false) c

/-- A new configuration in force: a source whose class rises while its condition is present opens a group at once under the new class, before which a group that is open closes under its own (R413; that it closes then, before its 1.0 µs have passed, DESIGN CHOICE, log entry 103). -/
def Core.applyAlarmCfg (c : Core) (cfg : AlarmCfg) : Core :=
  let old := c.tmp.cfg
  let c := match c.tmp.group with
    | some g => if g.mayClose c.now then c.closeGroup else c
    | none => c
  let c := { c with
    tmp := { c.tmp with cfg := cfg, level := c.tmp.level &&& ((2 ^ 29 - 1) ^^^ ((2 ^ 23 - 2 ^ 19) &&& ((2 ^ 29 - 1) ^^^ cfg.enables))) }
    batt := { c.batt with cls := cfg.cls, enables := cfg.enables }
    flash := { c.flash with cfg := cfg } }
  let raised := (setBits 29 c.tmp.level).filter (fun a => decide (old.cls.getD a 0 < cfg.cls.getD a 0))
  raised.foldl Core.detectRaised c

/-! ### TM_LOG_READ (R418) -/

/-- The 32 bytes of a log entry. -/
def AlarmEnt.bytes (e : AlarmEnt) : Bytes :=
  leBytes 6 e.group ++ leBytes 6 e.time.toNat ++ leBytes 4 e.seconds
    ++ [byte e.mode, byte e.state, byte e.cls, byte e.flags] ++ leBytes 4 e.members ++ [byte e.overflow] ++ zeros 7

/-- a lies at or above b under the half-range rule applied to 32 bits (R7, R418). -/
def atOrAbove32 (a b : Nat) : Bool := decide ((a + 2 ^ 32 - b % 2 ^ 32) % 2 ^ 32 < 2 ^ 31)

/-- The number of the next group not written beyond the log's end: that of an open group, which is not yet logged, or the next one (R418). -/
def Core.nextUnlogged (c : Core) : Nat :=
  match c.tmp.group with
  | some g => g.number
  | none => c.nextGroup

/-- The entries a read returns, and the low 32 bits of the next group number not written. -/
def logFrom (l : List AlarmEnt) (param room next : Nat) : List AlarmEnt × Nat :=
  let r := l.dropWhile (fun e => !atOrAbove32 (e.group % 2 ^ 32) param)
  let w := r.take room
  (w, (match r.drop room with
    | e :: _ => e.group
    | [] => next) % 2 ^ 32)

end Sys2Proof.Machine
end

