-- ==== Sys2Proof/Machine/Entropy.lean ====
section
/-! DEFINITION. The entropy unit: health tests and source states (R341 to R343), seed pools (R344, R345), the DRBG instances and their draws (R346 to R350), and the loss of sources (R351, R352). -/

namespace Sys2Proof.Machine

/-! ### Seeds and instances -/

/-- The unit serial as 12 bytes (R432). -/
def Core.serialBytes (c : Core) : Bytes := beBytes 12 c.lcs.serial

/-- A seed: the leftmost 256 bits of SHA-512 over a block of 2,048 raw bits (R344). -/
def seedOf (block : Bytes) : Bytes := (sha512 block).take 32

/-- The half of a noise source (R339). -/
def sourceHalf (n : Nat) : Nat := n / 2

/-- The half of a dispatch cluster (R24). -/
def clusterHalf (k : Nat) : Nat := k / 4

/-- Takes one seed, from a half's own pool first (R346). -/
def Ent.takeSeed (e : Ent) (half : Nat) : Option (Bytes × Ent) :=
  let from_ (h : Nat) : Option (Bytes × Ent) := match e.pools.getD h [] with
    | s :: r => some (s, { e with pools := upd h (fun _ => r) e.pools })
    | [] => none
  (from_ half).or (from_ (1 - half))

/-- The instance of a cluster. -/
def Ent.inst (e : Ent) (k : Nat) : Drbg := e.drbg.getD k {}

/-- An instance from two seeds (R346). -/
def freshInstance (serial seed1 seed2 : Bytes) (k : Nat) : Drbg :=
  drbgInstantiate (seed1 ++ seed2.take 16 ++ serial ++ [byte k])

/-- Instantiates a cluster's instance from two pool seeds; none where fewer than two stand in the pools. -/
def Ent.instantiate (e : Ent) (serial : Bytes) (k : Nat) : Option Ent :=
  match e.takeSeed (clusterHalf k) with
  | none => none
  | some (s1, e) =>
    match e.takeSeed (clusterHalf k) with
    | none => none
    | some (s2, e) => some { e with drbg := upd k (fun _ => freshInstance serial s1 s2 k) e.drbg }

/-- All eight instances, from sixteen seeds of the pools (R350); none where the pools hold fewer. -/
def Ent.instantiateAll (e : Ent) (serial : Bytes) : Option Ent :=
  ((List.range 8).foldlM (fun (e : Ent) k => e.instantiate serial k) e).map (fun e => { e with run := true, seeded := true })

/-- The instance is due to reseed: 4,096 Generate calls have been made (R346). -/
def Drbg.due (d : Drbg) : Bool := decide (4096 ≤ d.calls)

/-- How a draw ends. -/
inductive Draw where
  /-- A reseed is due and both pools are empty (R347). -/
  | wait
  /-- The instances have stopped (R352). -/
  | stopped
  | got (data : Bytes) (c : Core)
deriving DecidableEq, Repr

/-- One Generate call of a cluster's instance for n bytes, after the reseed that is due (R346). An instance that has lost its state waits for two seeds (R348). -/
def Core.draw (c : Core) (k n : Nat) : Draw :=
  if !c.ent.run then .stopped
  else
    let d := c.ent.inst k
    if d.lost then .wait
    else if d.due then
      match c.ent.takeSeed (clusterHalf k) with
      | none => .wait
      | some (seed, e) =>
        let (b, d) := (d.reseed seed).generate n
        .got b { c with ent := { e with drbg := upd k (fun _ => d) e.drbg }, r := { c.r with entReseeds := sat 40 (c.r.entReseeds + 1) } }
    else
      let (b, d) := d.generate n
      .got b { c with ent := { c.ent with drbg := upd k (fun _ => d) c.ent.drbg } }

/-- Every instance that has lost its state takes two pool seeds, as far as they go (R348). -/
def Ent.revive (e : Ent) (serial : Bytes) : Ent :=
  (List.range 8).foldl (fun (e : Ent) k => if (e.inst k).lost then (e.instantiate serial k).getD e else e) e

/-- A mismatch or a failed known-answer test of a cluster's instance: counted, source 84 raised, its state discarded, and the instance instantiated afresh from two pool seeds, or as soon as two stand there (R348). Instances that have stopped hold no state. -/
def Core.mismatch (c : Core) (k : Nat) : Core :=
  let c := ({ c with r := { c.r with entFaults := sat 8 (c.r.entFaults + 1) } } : Core).pulseAll 84
  if !c.ent.run then c
  else { c with ent := ({ c.ent with drbg := upd k (fun _ => { lost := true }) c.ent.drbg } : Ent).revive c.serialBytes }

/-! ### Random requests (R157, R346, R352) -/

/-- The task's random request is outstanding. -/
def Task.awaitsRandom (t : Task) : Bool := (t.st == .admitted || t.st == .running) && !bit 4 t.flags

/-- A draw of the task's own work is outstanding (R347): the recipe step that made it, or 32 for an operation. -/
def Task.awaitsDraw (t : Task) : Option Nat :=
  if t.st == .admitted || t.st == .running then (t.draws.find? (fun e => e.2.data.isNone)).map (·.1) else none

/-- The random bytes land: RND_LEN bytes at RND of a recipe's trays, the rest beside them (R178, R326). -/
def Task.landRandom (t : Task) (b : Bytes) : Task :=
  let n := if t.opclass = clsRecipe then imgRndLen t.image else 0
  { t with
    trays := patch (imgRnd t.image) (b.take n) t.trays
    rnd := b.drop n
    waitSeed := false
    flags := setFlag 4 t.flags }.skipAll

/-- DETAIL of a draw that no source serves: that of the recipe step that made it (R186), else 0. -/
def drawDetail (k : Nat) : Nat := if k < 32 then 0x8000 + 0x100 * k else 0

/-- A random request that cannot be served: counted, and the task ends with ENTROPY_UNAVAILABLE (R157, R352). -/
def Core.noEntropy (c : Core) (tid detail : Nat) : Core :=
  ({ c with r := { c.r with entRefused := sat 16 (c.r.entRefused + 1) } } : Core).endEarly tid Status.entropyUnavailable detail

/-- Draws of several sizes, one Generate call each, all of them or none: where one has to wait the whole waits (R346). -/
def Core.drawAll (c : Core) (k : Nat) : List Nat → Draw
  | [] => .got [] c
  | n :: l =>
    match c.draw k n with
    | .got b c =>
      (match c.drawAll k l with
       | .got d c => .got (b ++ d) c
       | x => x)
    | x => x

/-- Serves a task's random request of admission: one Generate call for each request that it declares (R346). -/
def Core.serveRandom (c : Core) (tid : Nat) (t : Task) : Core :=
  match c.drawAll t.cluster t.rndSizes with
  | .stopped => c.noEntropy tid 0
  | .wait => c.updTask tid (fun t => { t with waitSeed := true })
  | .got b c => (c.updTask tid (·.landRandom b)).tryRetire tid

/-- A draw of a task's work under its step, or 32 for an operation: the bytes that a seed released since has brought it, else a draw now; one that has to wait is recorded with what it asks for (R347). -/
def Core.drawAt (c : Core) (tid k n : Nat) (t : Task) : Draw :=
  match Table.find k t.draws with
  | some r =>
    match r.data with
    | some b => .got b (c.updTask tid (fun t => { t with draws := Table.del k t.draws }))
    | none => .wait
  | none => c.draw t.cluster n

/-- Records a draw that waits. -/
def Core.awaitDraw (c : Core) (tid k n : Nat) : Core := c.updTask tid (fun t => { t with draws := Table.put k { size := n } t.draws })

/-- Serves the draw that a task's work waits for. -/
def Core.serveDraw (c : Core) (tid k : Nat) (t : Task) : Core :=
  match c.draw t.cluster (Table.findD k { size := 0 } t.draws).size with
  | .got b c => c.updTask tid (fun t => { t with draws := Table.put k { size := b.length, data := some b } t.draws })
  | _ => c

/-- Tasks that wait for a seed, the earliest first. -/
def Core.seedWaiters (c : Core) : List (Nat × Task) :=
  (c.cc.tasks.filter (fun e => (e.2.waitSeed && e.2.awaitsRandom) || e.2.awaitsDraw.isSome)).mergeSort
    (fun a b => a.2.seq == b.2.seq || earlierSeq a.2.seq b.2.seq)

/-- Serves what a waiting task waits for. -/
def Core.serveWaiter (c : Core) (tid : Nat) (t : Task) : Core :=
  match t.awaitsDraw with
  | some k => c.serveDraw tid k t
  | none => c.serveRandom tid t

/-- RANDOM_REQUEST_SERVE (R346, R348). A mismatch named for a task with no request of admission outstanding is one of a draw that its own work makes. -/
def Core.randomRequest (c : Core) (tid : Nat) (mismatch : Bool) : Core :=
  match c.task tid with
  | none => c
  | some t =>
    if c.halted || !(t.st == .admitted || t.st == .running) then c
    else
      let c := if mismatch && c.ent.run then c.mismatch t.cluster else c
      if t.awaitsRandom then c.serveRandom tid t else c

/-- RANDOM_REQUEST_SERVE (R346). -/
def execRandomRequestServe (tid : Nat) (mismatch : Bool) (s : State) : Host.Outcome State Fault Refusal :=
  run (fun c => c.randomRequest tid mismatch) s

/-! ### Sources -/

/-- Failures count from SEED onward, and on a unit in ANALYSIS within WAKE (R342, R343). -/
def Core.countsExclusion (c : Core) : Bool := c.g.mode != .wake || c.lcState == 3

/-- Changes a noise source. -/
def Core.updSrc (c : Core) (n : Nat) (f : Src → Src) : Core := { c with ent := { c.ent with src := upd n f c.ent.src } }

/-- Every instance stops, the pools are zeroed and every waiting request ends (R352). Where no instance serves yet, the pools alone are zeroed. -/
def Core.stopEntropy (c : Core) : Core :=
  if !c.ent.run then { c with ent := c.ent.wipe }
  else
    let ends (c : Core) (e : Nat × Task) : Core := c.noEntropy e.1 ((e.2.awaitsDraw.map drawDetail).getD 0)
    let waiting := c.cc.tasks.filter (fun e => e.2.awaitsRandom || e.2.awaitsDraw.isSome)
    (waiting.foldl ends { c with ent := c.ent.wipe }).pulseAll 83

/-- A source becomes EXCLUDED for a cause of ENT_SRC_n (R341, R351, R352). -/
def Core.exclude (c : Core) (n cause : Nat) : Core :=
  let before := c.ent.healthy
  let count := c.countsExclusion
  let c := (c.updSrc n (fun s => { s with st := .excluded, cause := cause, retest := false,
                                           exclusions := if count then min 2 (s.exclusions + 1) else s.exclusions })).pulseAll 80
  let after := c.ent.healthy
  let c := if before = 2 ∧ after = 1 then c.pulseAll 82 else c
  if after = 0 ∧ before = 1 then c.stopEntropy else c

/-- HEALTH_TEST_FAIL (R341): the counter that reaches its cutoff is recorded. -/
def Core.healthFail (c : Core) (n : Nat) (proportion : Bool) : Core :=
  match c.ent.src[n]? with
  | none => c
  | some s =>
    if (s.st != .testing && s.st != .healthy) || c.g.mode == .retain then c
    else
      let cause := (if s.st == .testing then 1 else 3) + b2n proportion
      let done := s.st == .testing && c.g.mode == .wake
      let c := c.updSrc n (fun s => if proportion then { s with worstApt := max s.worstApt 795 } else { s with worstRun := max s.worstRun 41 })
      let c := if done then { c with ent := { c.ent with wakeDone := c.ent.wakeDone + 1 } } else c
      c.exclude n cause

/-- HEALTH_TEST_FAIL (R341). -/
def execHealthTestFail (source : Nat) (proportion : Bool) (s : State) : Host.Outcome State Fault Refusal :=
  run (fun c => c.healthFail source proportion) s

/-- STARTUP_TEST_END (R342, R343): the longest run and the highest count of the 4,096 bits decide, and both counters are recorded, at most up to the cutoff that ends the test. A retest that ends once no source is HEALTHY brings its source back no more: sources then return only by R51 or at WAKE (R352; DEDUCED, log entry 24). -/
def Core.startupEnd (c : Core) (n run_ apt : Nat) : Core :=
  match c.ent.src[n]? with
  | none => c
  | some s =>
    if s.st != .testing || c.g.mode == .retain then c
    else
      let c := c.updSrc n (fun s => { s with worstRun := max s.worstRun (min 41 run_), worstApt := max s.worstApt (min 795 apt) })
      if 41 ≤ run_ then c.healthFail n false
      else if 795 ≤ apt then c.healthFail n true
      else
      let lost := s.retest && c.ent.healthy == 0
      let c := c.updSrc n (fun s => { s with st := if lost then .excluded else .healthy, retest := false })
      let c := if lost then c.pulseAll 80 else c
      let c := if c.g.mode = .wake then { c with ent := { c.ent with wakeDone := c.ent.wakeDone + 1, wakePass := true } } else c
      if s.retest && !lost then c.pulseAll 81 else c

/-- STARTUP_TEST_END (R342). -/
def execStartupTestEnd (source run_ apt : Nat) (s : State) : Host.Outcome State Fault Refusal :=
  run (fun c => c.startupEnd source run_ apt) s

/-! ### Blocks and their seeds (R341, R344, R345) -/

/-- The raw bits of a block in the order the source made them: the leftmost bit of each byte first (DESIGN CHOICE, log entry 23). -/
def rawBits (block : Bytes) : List Bool := block.flatMap (fun b => (List.range 8).map (fun i => bit (7 - i) b.toNat))

/-- The two tests of R341 at work over a source's bits. -/
structure Health where
  last : Option Bool := none
  run : Nat := 0
  worstRun : Nat := 0
  /-- Bits of the present window, its first bit, and the bits equal to that. -/
  pos : Nat := 0
  first : Bool := false
  count : Nat := 0
  worstApt : Nat := 0
  /-- The test that has failed first: true for the adaptive proportion. -/
  fails : Option Bool := none

/-- One raw bit (R341). -/
def Health.feed (h : Health) (b : Bool) : Health :=
  if h.fails.isSome then h
  else
    let run := if h.last = some b then h.run + 1 else 1
    let first := if h.pos = 0 then b else h.first
    let count := if h.pos = 0 then 1 else if b = h.first then h.count + 1 else h.count
    { last := some b, run := run, worstRun := max h.worstRun run, pos := (h.pos + 1) % 1024, first := first, count := count
      worstApt := max h.worstApt count
      fails := if 41 ≤ run then some false else if 795 ≤ count then some true else none }

/-- Both tests over the bits of a block. A block begins a window of the proportion test, and a run that reaches into it from an earlier block is told of by HEALTH_TEST_FAIL (DESIGN CHOICE, log entry 23). -/
def blockHealth (block : Bytes) : Health := (rawBits block).foldl Health.feed {}

/-- A block of 2,048 bits that fails neither test. -/
def blockOk (block : Bytes) : Bool := block.length == 256 && (blockHealth block).fails.isNone

/-- What a HEALTHY source's block leaves in WORST_RUN and WORST_APT (R353), and its exclusion where it fails (R341). -/
def Core.testBlock (c : Core) (n : Nat) (block : Bytes) : Core :=
  let h := blockHealth block
  let c := c.updSrc n (fun s => { s with worstRun := max s.worstRun (min 63 h.worstRun), worstApt := max s.worstApt h.worstApt })
  match h.fails with
  | some proportion => c.healthFail n proportion
  | none => c

/-- The HEALTHY source that makes the blocks which commands bring without naming one: the lowest-numbered (DESIGN CHOICE, log entry 105). -/
def Ent.firstHealthy (e : Ent) : Option Nat := e.src.findIdx? (fun s => s.st == .healthy)

/-- What blocks of a DRAM key or an SWK, which fail neither test, leave in WORST_RUN and WORST_APT (R341, R353). -/
def Core.seeBlocks (c : Core) (blocks : List Bytes) : Core :=
  match c.ent.firstHealthy with
  | some n => blocks.foldl (fun c b =>
      let h := blockHealth b
      c.updSrc n (fun s => { s with worstRun := max s.worstRun (min 63 h.worstRun), worstApt := max s.worstApt h.worstApt })) c
  | none => c

/-- Modes in which conditioned blocks become pool seeds: with power, and in WAKE only for the SEED work of a unit in ANALYSIS (R28, R34). -/
def Core.seedsFlow (c : Core) : Bool := c.g.mode != .retain && (c.g.mode != .wake || c.lcState == 3)

/-- SEED_RELEASE (R345): a full pool takes nothing; instances that have lost their state are instantiated, and the requests that wait for a seed are served, the earliest first (R347, R348). -/
def Core.seedRelease (c : Core) (n : Nat) (block : Bytes) : Core :=
  let h := sourceHalf n
  let healthy := match c.ent.src[n]? with
    | some s => s.st == .healthy
    | none => false
  if !healthy || !c.seedsFlow || block.length != 256 then c
  else
    let c := c.testBlock n block
    if (blockHealth block).fails.isSome || decide (32 ≤ (c.ent.pools.getD h []).length) then c
    else
      let e : Ent := { c.ent with pools := upd h (fun p => p ++ [seedOf block]) c.ent.pools }
      let c := { c with ent := e.revive c.serialBytes, r := { c.r with entSeeds := sat 32 (c.r.entSeeds + 1) } }
      c.seedWaiters.foldl (fun c e => c.serveWaiter e.1 e.2) c

/-- SEED_RELEASE (R345). -/
def execSeedRelease (source : Nat) (block : Bytes) (s : State) : Host.Outcome State Fault Refusal :=
  run (fun c => c.seedRelease source block) s

/-- Whether a retest of source n is accepted (R343). -/
def Core.retestOk (c : Core) (n : Nat) : Bool :=
  (c.g.mode == .serve || c.g.mode == .serveReduced || c.g.mode == .quiesce) && decide (0 < c.ent.healthy) &&
    (match c.ent.src[n]? with
     | some s => s.st == .excluded && s.exclusions == 1
     | none => false)

/-- A write of ENT_CTRL (R343, R353): each accepted request puts its source into TESTING; a write that holds a refused one is counted once. -/
def Core.writeEntCtrl (c : Core) (port v : Nat) : Core :=
  c.hostWrite port 0 0x100008 v (fun c =>
    if port ≠ 0 ∨ c.frozen then c.refuseWrite port 0 0x100008
    else
      let want := setBits 4 v
      let c' := (want.filter c.retestOk).foldl (fun c n => c.updSrc n (fun s => { s with st := .testing, retest := true })) c
      if want.all c.retestOk then c' else c'.refuseWrite port 0 0x100008)

/-- ENT_CTRL_RETEST (R343). -/
def execEntCtrlRetest (port : Nat) (value : W64) (s : State) : Host.Outcome State Fault Refusal :=
  run (fun c => c.writeEntCtrl port value.toNat) s

/-! ### SEED (R350) -/

/-- SEED, or the SEED work within WAKE of a unit in ANALYSIS (R34). -/
def Core.seeding (c : Core) : Bool := c.g.mode == .seed || (c.g.mode == .wake && c.lcState == 3 && c.g.wakeFault == 0 && !c.markOpen)

/-- Every source returns to OFF and begins its start-up test at once (R342, R350 step 1). -/
def Ent.startTest (e : Ent) : Ent :=
  let off := e.src.map (fun s => { s with st := .off, retest := false })
  { e with src := off.map (fun s => { s with st := .testing }) }

/-- Step 4 of R51 begins: the sources are tested afresh, EXCLUSIONS return to 0 (R343), and no seed of before the sequence is used. -/
def Ent.startRecovery (e : Ent) : Ent :=
  ({ e with src := e.src.map (fun s => { s with exclusions := 0 }), pools := [[], []], seeded := false } : Ent).startTest

/-- Every source has ended its start-up test. -/
def Ent.tested (e : Ent) : Bool := e.src.all (fun s => s.st == .healthy || s.st == .excluded)

/-- SEED_COMPLETE (R350): every source has ended its start-up test. Known-answer tests that fail are handled as mismatches (R348), sixteen pool seeds instantiate the eight instances, and SETUP follows, or SAFE_HALT with cause ENTROPY when no source passed. -/
def Core.seedComplete (c : Core) (katFails : List Nat) : Core :=
  if !c.seeding || c.ent.seeded || !c.ent.tested then c
  else if c.ent.healthy = 0 then (if c.g.mode = .seed then c.enterSafeHalt 3 0 else c)
  else
    match c.ent.instantiateAll c.serialBytes with
    | none => c
    | some e =>
      let c := ((List.range 8).filter katFails.contains).foldl Core.mismatch c
      let c := { c with ent := e }
      if c.g.mode = .seed then c.unlock.setMode .setup else c

/-- SEED_COMPLETE (R350). -/
def execSeedComplete (katFails : List Nat) (s : State) : Host.Outcome State Fault Refusal := run (fun c => c.seedComplete katFails) s

/-! ### The deterministic construction (R310) -/

/-- The values of R310 apply: no DRBG output is used. -/
def Core.constructed (c : Core) : Bool :=
  match c.g.mode with
  | .wake => true
  | .seed => true
  | .safeHalt => true
  | .zeroized => true
  | _ => c.g.recover

/-- The construction value V (R310). -/
def Core.constructV (c : Core) : Bytes := c.serialBytes ++ [byte c.g.mode.code] ++ beBytes 6 c.cc.detCtr

/-- One value of the deterministic construction, b bytes. The counter is reserved in steps of 65,536 (R257, R310). -/
def Core.construct (c : Core) (b : Nat) : Bytes × Core :=
  let n := c.cc.detCtr
  let v := if 19 ≤ b then c.constructV ++ zeros (b - 19)
    else (sha256 c.serialBytes).take (b - 7) ++ [byte c.g.mode.code] ++ beBytes 6 n
  let next := (n + 1) % 2 ^ 48
  let mark := if next > c.cc.detMark then c.cc.detMark + 65536 else c.cc.detMark
  (v, { c.updCC (fun s => { s with detCtr := next, detMark := mark }) with flash := { c.flash with detMark := mark } })

end Sys2Proof.Machine
end

