-- ==== Sys2Proof/Machine/Engines.lean ====
section
/-! DEFINITION. Engines: marking unusable, spares and the loss of a class (R300, R332, R392, R393), the Crumb tests that protect selection (R397), and the long pool (R164, R165). -/

namespace Sys2Proof.Machine

/-! ### Marking unusable and spares -/

/-- Step k of a task goes back to its heap, and what it had computed is isolated (R163, R392). -/
def Task.backToHeap (t : Task) (k : Nat) : Task :=
  if 64 ≤ k then { t with expand := t.expand.map (fun e => if e.1 + 64 = k then (e.1, e.2.1, 0) else e) }
  else if t.st == .admitted || t.st == .running then
    { t with disp := t.disp &&& ((2 ^ 32 - 1) ^^^ 2 ^ k), results := Table.del k t.results, draws := Table.del k t.draws, checked := t.checked &&& ((2 ^ 32 - 1) ^^^ 2 ^ k) }
  else { t with done := setFlag k t.done, results := Table.del k t.results }

/-- The jobs of an engine. -/
def Eng.jobs (e : Eng) : List Job := e.run.toList ++ e.pre.toList

/-- The engine's running step and its prefetch step return to their heaps (R392). -/
def Core.emptyEngine (c : Core) (cls n : Nat) : Core :=
  let jobs := (Table.findD (engKey cls n) {} c.eng.jobs).jobs
  let c := { c with eng := { c.eng with jobs := Table.del (engKey cls n) c.eng.jobs } }
  jobs.foldl (fun c j => (c.updTask j.tid (·.backToHeap j.step)).tryRetire j.tid) c

/-- The spare that replaces an engine: of its own half first (R393). -/
def Core.pickSpare (c : Core) (cls n : Nat) : Option Nat :=
  let l := c.sparesLeft cls
  let h := engineHalf c.g.variant cls n
  (l.find? (fun m => engineHalf c.g.variant cls m == h)).or l.head?

/-- Tasks that still need a class without a usable engine end (R393). -/
def Core.endClass (c : Core) (cls : Nat) : Core :=
  if c.capCount cls ≠ 0 then c
  else
    ((c.cc.tasks.filter (fun e => (e.2.st == .admitted || e.2.st == .running) &&
        (List.range e.2.steps).any (fun k => e.2.stepClass k == some cls && !bit k e.2.done))).map (·.1)).foldl
      (fun c tid => c.endEarly tid Status.engineAbsent (0x200 + cls)) c

/-- An engine is marked unusable, a DEGRADE action: its steps return to their heaps, a spare takes its place after a Crumb test of itself, sources 5, 6 and 7 tell (R21, R392, R393). -/
def Core.markBad (c : Core) (cls n : Nat) : Core :=
  if c.eng.isBad cls n then c
  else
    let served := c.eng.inService c.g.variant cls n || c.eng.waiting.contains (engKey cls n)
    let before := c.capCount cls
    let spare := if served then c.pickSpare cls n else none
    let c := c.emptyEngine cls n
    let key := engKey cls n
    let c := { c with eng := { c.eng with
        bad := c.eng.bad ++ [key]
        engaged := c.eng.engaged.filter (· != key)
        waiting := c.eng.waiting.filter (· != key) ++ (match spare with
          | some m => [engKey cls m]
          | none => [])
        hot := if cls = 4 then upd n (fun _ => []) c.eng.hot else c.eng.hot } }
    let c := c.pulseAll 5
    let c := if spare.isSome && (c.sparesLeft cls).isEmpty then c.pulseAll 6 else c
    (if c.capCount cls < before then c.pulseAll 7 else c).endClass cls

/-! ### Crumb tests of engines -/

/-- Modes in which Crumb tests run (R396). -/
def Core.crumbMode (c : Core) : Bool :=
  match c.g.mode with
  | .retain => false
  | .wake => false
  | .seed => false
  | .transit => false
  | _ => true

/-- A Crumb test starts: what it needs is formed by the deterministic construction, one value for each (R310, R396; that one is enough DESIGN CHOICE, log entry 109). -/
def Core.startCrumb (c : Core) (k : Crumb) : Core :=
  let c := (c.construct 19).2
  { c with cont := { c.cont with crumbs := c.cont.crumbs ++ [k], crumbAt := some c.now } }

/-- A test that a failure has asked for starts where R396 lets one: fewer than two run, and 10 µs have passed since the last start. -/
def Core.kickCrumb (c : Core) : Core :=
  let spaced := match c.cont.crumbAt with
    | some t => !later (t + 1000) c.now
    | none => true
  match c.cont.crumbDue with
  | k :: l => if c.crumbMode && decide (c.cont.crumbs.length < 2) && spaced then ({ c with cont := { c.cont with crumbDue := l } } : Core).startCrumb k else c
  | [] => c

/-- The Crumb tests that a second check failure asks for at once: the engine's, and that of the tray memory of the task's cluster (R300, R332). They start as soon as R396 lets them, before any other (DESIGN CHOICE, log entry 109). -/
def Core.crumbNow (c : Core) (cls n cluster : Nat) : Core :=
  ({ c with cont := { c.cont with crumbDue := c.cont.crumbDue ++
      [{ kind := cls, target := n, slice := 0, spare := false }, { kind := 8, target := cluster, slice := 0, spare := false }] } } : Core).kickCrumb

/-! ### Selection (R160, R161, R164) -/

/-- A step is issued: its dispatched bit is set and the task runs. An expansion (step 64 and above) is dispatched and sets no bit (R333). -/
def Task.issue (t : Task) (k : Nat) : Task :=
  if 64 ≤ k then { t with expand := t.expand.map (fun e => if e.1 + 64 = k then (e.1, e.2.1, 1) else e) }
  else { t with disp := setFlag k t.disp, st := .running }

/-- Bytes of the IV or nonce that a BULK operation takes under a key. -/
def Task.ivBytes (t : Task) (k : Ctx) : Nat :=
  match t.opcode with
  | 0x500 => if t.bkMode = 0 then 0 else blockBytes k.alg
  | 0x501 => if t.bkMode = 0 then 0 else blockBytes k.alg
  | 0x502 => 12
  | 0x503 => 12
  | _ => 0

/-- The first segment of a BULK operation whose IV or nonce the module generates and has not yet drawn. -/
def Task.drawsIv (t : Task) : Bool := t.opclass == clsBulk && t.bkIvsrc == 1 && t.seg == 0 && t.rnd.isEmpty

/-- The draw of a generated IV or nonce, when the segment that needs it is dispatched (R309). -/
def Core.drawIv (c : Core) (tid : Nat) : Core :=
  match c.task tid with
  | none => c
  | some t =>
    match t.drawsIv, t.ksel 1 with
    | true, some k =>
      (match c.drawAt tid 32 (t.ivBytes k) t with
       | .got b c => c.updTask tid (fun t => { t with rnd := b })
       | .wait => c.awaitDraw tid 32 (t.ivBytes k)
       | .stopped => c.noEntropy tid 0)
    | _, _ => c

/-- PREFETCH_FILL (R161, R162): an empty prefetch slot takes the step offered, and an idle engine starts it at once. -/
def Core.prefetchFill (c : Core) (cls n : Nat) : Core :=
  let e := Table.findD (engKey cls n) {} c.eng.jobs
  if !c.dispatching || cls < 1 || 5 < cls || !(c.enginesUp cls).contains n || c.underTest cls n || e.pre.isSome then c
  else
    match c.offer cls n with
    | none => c
    | some r =>
      let c := c.drawIv r.tid
      if !((c.task r.tid).any (fun t => decide (64 ≤ r.step) || t.ready r.step)) then c
      else
      let e' : Eng := { e with pre := some { tid := r.tid, step := r.step } }
      let c := { c with eng := ({ c.eng with jobs := Table.put (engKey cls n) e' c.eng.jobs } : Engs).kick }
      c.updTask r.tid (·.issue r.step)

/-- PREFETCH_FILL (R161). -/
def execPrefetchFill (cls engine : Nat) (s : State) : Host.Outcome State Fault Refusal := run (fun c => c.prefetchFill cls engine) s

/-- The engine that runs step k of a task: class and number. -/
def Engs.runner (e : Engs) (tid k : Nat) : Option (Nat × Nat) :=
  (e.jobs.find? (fun x => x.2.run == some { tid := tid, step := k })).map (fun x => (x.1 / 256, x.1 % 256))

/-- The engine has finished its step and starts the one in its prefetch slot (R162). -/
def Engs.finish (e : Engs) (tid k : Nat) : Engs :=
  ({ e with jobs := e.jobs.map (fun x => if x.2.run == some { tid := tid, step := k } then (x.1, { x.2 with run := none }) else x) } : Engs).kick

/-! ### The frame of every step -/

/-- The EMIT step that the mover of a port serves next: earliest deadline, then admission, then step index (R101, R159). -/
def Core.emitTurn (c : Core) (port : Nat) : Option (Nat × Nat) :=
  let l := (c.readySteps 6).filter (fun r => match c.task r.tid with
    | some t => t.port == port
    | none => false)
  match firstDue (l.map (fun r => ({ key := r.tid, deadline := r.deadline, seq := r.seq } : Due))) with
  | none => none
  | some d => (l.find? (fun r => r.tid == d.key)).map (fun r => (r.tid, r.step))

/-- Step k of a task is at work: in an engine, or, for TRAY and EMIT, ready at the top of its cluster or at the mover (R159, R160). -/
def Core.atWork (c : Core) (tid : Nat) (t : Task) (k : Nat) : Bool :=
  match t.stepClass k with
  | some 0 =>
    c.dispatching && t.heap.contains k &&
      ((topRanked ((c.readySteps 0).filter (fun r =>
        match c.task r.tid with
        | some u => u.cluster == t.cluster
        | none => false))).map (fun r => (r.tid, r.step)) == some (tid, k))
      && !(c.cc.tasks.any (fun e => e.2.cluster == t.cluster && e.2.runningSteps.any (fun j => e.2.stepClass j == some 0)))
  | some 6 => c.dispatching && c.emitTurn t.port == some (tid, k)
  | some _ => (c.eng.runner tid k).isSome && (t.st == .running) && (Table.find k t.results).isNone
  | none => false

/-- What a meaning of a step does: where step k of the task is at work and satisfies the command's own condition, its result is computed and waits for the step's completion (R192). -/
def Core.compute (c : Core) (tid k : Nat) (is : Task → RStep → Bool) (f : Core → Task → RStep → Core × Option StepRes) : Core :=
  match c.task tid with
  | none => c
  | some t =>
    let s := imgStep t.image k
    if !is t s || !c.atWork tid t k then c
    else
      match f c t s with
      | (c, none) => c
      | (c, some r) => c.updTask tid (fun t => { t.issue k with results := Table.put k r t.results })

/-- A recipe step of an opcode. -/
def isOp (op : Nat) (t : Task) (s : RStep) : Bool := t.opclass == clsRecipe && s.op == op

/-- A recipe step whose result is a function of the task alone. -/
def Core.computeStep (c : Core) (tid k op : Nat) (f : Task → RStep → StepRes) : Core :=
  c.compute tid k (isOp op) (fun c t s => (c, some (f t s)))

/-! ### Completion of a step (R186, R192) -/

/-- Result bytes reach the trays, contexts their selectors, and EMIT bytes the destination staging (R192). -/
def Task.release (t : Task) (r : StepRes) : Task :=
  let t := { t with trays := r.writes.foldl (fun b (w : Nat × Bytes) => patch w.1 w.2 b) t.trays }
  let t := match r.ctx with
    | some (sel, x) => { t with ctxs := Table.put sel x t.ctxs }
    | none => t
  let t := r.emit.foldl (fun t e => if e.2.isEmpty then t else t.stagePieces e.1 e.2) t
  { t with res0 := r.res0.or t.res0, res1 := r.res1.or t.res1 }

/-- A completed segment of a BULK task: its bytes leave the work area and the chain moves on; the last one completes the step (R304). The last segment of pass 1 keeps its GHASH and asks for the ciphertext again (R307). -/
def Task.bulkNext (t : Task) (r : StepRes) : Task :=
  let t := { t.release r with
    chain := r.chain, results := [], failed := 0, work := t.work.drop t.bkSegLen, plain := t.plain ++ r.keep, aadAcc := r.aad.getD t.aadAcc }
  if r.last then { t with done := setFlag 0 t.done, plain := [] }
  else if t.bkTwoPass && !t.pass2 && t.bkLast then
    { t with pass2 := true, tag1 := r.chain, chain := t.aadAcc, work := [], landed := t.bkAadLen, seg := t.bkAadSegs, disp := 0 }
  else { t with seg := t.seg + 1, disp := 0 }

/-- Source bytes that the task's present segment processes, a tag included; the second pass reads none (R307). -/
def Task.segBytes (t : Task) : Nat := t.bkSegLen + (if t.bkLast ∧ t.opcode = 0x503 ∧ !t.pass2 then t.bkTlen else 0)

/-- What the SYM block counts at the end of a step (R313): bytes of BULK work, tags and key-block MACs that failed, and changed sources. -/
def Core.countStep (c : Core) (k : Nat) (t : Task) (r : StepRes) : Core :=
  let tag := (t.opclass == clsBulk && r.out == .ends Status.authFail 0x510)
    || (t.opclass == clsRecipe && (imgStep t.image k).op == 0x41 && r.out == .fail Status.authFail)
  let changed := t.opclass == clsBulk && r.out == .ends Status.authFail 0x511
  { c with r := { c.r with
      bulkUnits := if t.opclass = clsBulk then sat 54 (c.r.bulkUnits + t.segBytes) else c.r.bulkUnits
      authTag := if tag then sat 32 (c.r.authTag + 1) else c.r.authTag
      authChanged := if changed then sat 16 (c.r.authChanged + 1) else c.r.authChanged } }

/-- A completed step of a recipe or of a PK_DIRECT task; the BN step of the latter hands its output to the EMIT step (R320). -/
def Task.stepDone (t : Task) (k : Nat) (r : StepRes) : Task :=
  let t := { t.release r with done := setFlag k t.done, results := Table.del k t.results }
  if t.opclass = clsRecipe then (t.applyOutcome k r.out).skipAll
  else if k = 0 then { t with out := r.chain, flags := setFlag 8 t.flags }
  else t

/-- The verdict of a BULK or PK_DIRECT step: VERIFY_FAIL is a verdict and not an early end. -/
def Task.verdict (t : Task) (st d : Nat) : Task := { t with status := st, detail := d }

/-- Step k ends with its result. -/
def Core.stepEnds (c : Core) (tid k : Nat) (t : Task) (r : StepRes) : Core :=
  let c := ({ c with eng := c.eng.finish tid k } : Core).countStep k t r
  match (if t.opclass = clsRecipe then earlyEnd (imgStep t.image k) k r.out
         else match r.out with
           | .ends st d => if st = Status.verifyFail then none else some (st, d)
           | _ => none) with
  | some (st, d) =>
    (c.updTask tid (fun t =>
      let t := r.emit.foldl (fun t e => t.stagePieces e.1 e.2) { t with res0 := r.res0.or t.res0, res1 := r.res1.or t.res1 }
      let t := if t.opclass = clsBulk ∧ d = 0x511 then { t with pieces := t.pieces ++ (t.cover.map t.zeroRun).flatten } else t
      { t with done := setFlag k t.done, results := Table.del k t.results })).endEarly tid st d
  | none =>
    (c.updTask tid (fun t =>
      let t := if t.opclass = clsBulk then t.bulkNext r else t.stepDone k r
      match t.opclass == clsRecipe, r.out with
      | false, .ends st d => t.verdict st d
      | _, _ => t)).tryRetire tid

/-- A running step of the task stops being one without a result; a big-number job of a resolution is gone (R333). -/
def Task.stopRun (t : Task) (k : Nat) : Task :=
  if 64 ≤ k then { t with expand := Table.del (k - 64) t.expand } else { t with done := setFlag k t.done, results := Table.del k t.results }

/-- SYM_CHECK or PKE_CHECK counts a failed check of an engine (R313, R332). -/
def Core.countCheck (c : Core) (cls n : Nat) (second : Bool) : Core :=
  let r := c.r
  { c with r :=
      if cls = 3 then
        { r with pkeCheckCount := sat 32 (r.pkeCheckCount + 1), pkeCheckCore := n, pkeCheckSecond := if second then sat 8 (r.pkeCheckSecond + 1) else r.pkeCheckSecond }
      else
        { r with symCheckCount := sat 32 (r.symCheckCount + 1), symCheckLane := if cls = 2 then 0x80 + n else n,
                 symCheckSecond := if second then sat 8 (r.symCheckSecond + 1) else r.symCheckSecond } }

/-- A lane or core check fails: the engine is marked unusable and the step runs again elsewhere; at the second failure of the same step the task ends with INTERNAL (R300, R332). -/
def Core.checkFails (c : Core) (tid k cls n : Nat) (t : Task) : Core :=
  let second := bit k t.failed
  let c := c.countCheck cls n second
  if second then
    let c := { c with eng := c.eng.finish tid k }
    let c := c.updTask tid (·.stopRun k)
    (c.crumbNow cls n t.cluster).endEarly tid Status.internal (if cls = 3 then 2 else 1)
  else (c.updTask tid (fun t => { t with failed := setFlag k t.failed })).markBad cls n

/-- A running step of a task that has ended stops being one: its engine is free, and its result is discarded (R158). -/
def Core.stepDiscarded (c : Core) (tid k : Nat) : Core :=
  (({ c with eng := c.eng.finish tid k } : Core).updTask tid (·.stopRun k)).tryRetire tid

/-- The expansion of a lattice key ends: the resolution that asked for it can go on (R333). -/
def Core.expansionEnds (c : Core) (tid k : Nat) (t : Task) (checkFails : Bool) : Core :=
  match c.eng.runner tid k with
  | none => c
  | some (cls, n) =>
    if checkFails then (c.checkFails tid k cls n t).tryRetire tid
    else if t.st != .admitted && t.st != .running then c.stepDiscarded tid k
    else ({ c with eng := c.eng.finish tid k } : Core).updTask tid (fun t =>
      { t with expand := t.expand.map (fun e => if e.1 + 64 = k then (e.1, e.2.1, 2) else e) })

/-- STEP_COMPLETE: a step with its result, a failed check, or a running step of a task that has ended, whose result is discarded (R158, R186) and whose failed check counts all the same (R300, R332). A big-number step of an aborted task does not complete: its core stops (R336). -/
def Core.stepComplete (c : Core) (tid k : Nat) (checkFails : Bool) : Core :=
  match c.task tid with
  | none => c
  | some t =>
    let live := t.st == .admitted || t.st == .running
    if 64 ≤ k then c.expansionEnds tid k t checkFails
    else if !t.runningSteps.contains k || (t.st == .aborting && t.stepClass k == some 3) then c
    else
      match c.eng.runner tid k, Table.find k t.results with
      | some (cls, n), r =>
        if checkFails && (cls == 1 || cls == 2 || cls == 3) then (c.checkFails tid k cls n t).tryRetire tid
        else if !live then c.stepDiscarded tid k
        else (match r with
          | some r => c.stepEnds tid k t r
          | none => c)
      | none, r =>
        if !live then c.stepDiscarded tid k
        else (match r with
          | some r => c.stepEnds tid k t r
          | none => c)

/-- STEP_COMPLETE (R186). -/
def execStepComplete (tid step : Nat) (checkFails : Bool) (s : State) : Host.Outcome State Fault Refusal :=
  run (fun c => c.stepComplete tid step checkFails) s

end Sys2Proof.Machine
end

