-- ==== Sys2Proof/Machine/Transfers.lean ====
section
/-! DEFINITION. What leaves the block for host memory: destination pieces (R114 to R120), completion entries (R83 to R85, R96, R102 to R105), ring interrupt messages (R97 to R99); the end of an abort (R336, R337); and the class enables (R169 to R171). -/

namespace Sys2Proof.Machine

/-! ### Destination pieces -/

/-- A failed piece stops its transfer (R115) and is recorded as the task's form says (R118 to R120). -/
def Core.pieceFails (c : Core) (tid : Nat) (t : Task) (p : Piece) (cause : Nat) : Core :=
  c.updCC (fun s =>
    let s := s.updCap t.slice (fun k =>
      if t.strict then k.violate s.epoch t.seq 3 cause (c.ringLocal t.port t.ring) t.tag p.iova else k.notice s.epoch t.seq p.iova)
    s.updTask tid (fun t => { t with
      pieces := t.pieces.filter (fun q => q.xfer != p.xfer)
      badXfer := if p.zero then t.badXfer else t.badXfer ++ [p.xfer]
      strictFail := if t.strict && !p.zero then t.strictFail.or (some (cause, p.iova)) else t.strictFail }))

/-- A piece has been issued: counted, and gone from staging. -/
def Task.pieceIssued (t : Task) (p : Piece) : Task :=
  { t with
    pieces := t.pieces.drop 1
    issued := if p.zero then t.issued else t.issued + p.data.length
    zeroed := if p.zero then t.zeroed + p.data.length else t.zeroed }

/-- Where the last piece of a retired task has left, its credits return (R93) and a STRICT completion is staged (R118). -/
def Task.afterPieces (t : Task) (epoch : Nat) : Task :=
  if t.st == .retired && t.pieces.isEmpty then
    { t.fixStrict with credits := 0, staged := t.staged.or (some epoch) }
  else t

/-- Checks and issues one piece (R114, R118). -/
def Core.issuePiece (c : Core) (tid : Nat) (t : Task) (p : Piece) (refused : List Nat) : Core :=
  let s := c.slice t.slice
  let cause := s.cause p.iova 1 4 (c.granted t.port s.pasid p.iova refused)
  let c := if cause = 0 ∨ cause = 4 then c.askTranslation t.port s.pasid p.iova else c
  if cause ≠ 0 then c.pieceFails tid t p cause
  else
    let c := (c.holdTranslation t.port s.pasid p.iova).sendWrite t.port s.pasid p.iova p.data (c.port t.port).relaxed
    let c := if p.zero && t.abortCause != 0 then { c with r := { c.r with pkeZeroed := sat 24 (c.r.pkeZeroed + 1) } } else c
    c.updTask tid (·.pieceIssued p)

/-- DESTINATION_PIECE_WRITE (R101, R118): the task's next piece, in its turn on the port; the Lozenge gate, a running ERASE and the link may hold it. -/
def Core.pieceWrite (c : Core) (tid : Nat) (refused : List Nat) : Core :=
  match c.task tid with
  | none => c
  | some t =>
    match t.pieces with
    | [] => c
    | p :: _ =>
      if c.pieceTurn t.port != some tid then c
      else (c.issuePiece tid t p refused).updCC (fun s => s.updTask tid (·.afterPieces s.epoch))

/-- DESTINATION_PIECE_WRITE (R118). -/
def execDestinationPieceWrite (tid : Nat) (refusedPages : List Nat) (s : State) : Host.Outcome State Fault Refusal :=
  run (fun c => c.pieceWrite tid refusedPages) s

/-! ### Completion entries -/

/-- What a written completion does to the interrupt message (R98). -/
def Core.coalesce (c : Core) (port r : Nat) (t : Task) : Core :=
  let now := c.now
  (c.updRing r (fun g =>
    if t.notify && g.armedAt.isNone then { g with since := g.since + 1, armedAt := some now, armedFor := (t.deadline, t.seq) }
    else { g with since := g.since + 1 })).ringDue port r

/-- Writes a completion at W (R83, R84), and releases the staging slot and the quota unit (R93). -/
def Core.writeCompletion (c : Core) (port r tid : Nat) (t : Task) : Core :=
  let p := c.cc.pos r
  let g := c.ringOf r
  let w := (p.w + 1) % g.n
  let c := c.send (.write port (c.slice t.slice).pasid ((g.cq + 32 * p.w) % 2 ^ 64) (t.completion p.phase) false)
  let c := c.updCC (fun s => (s.updPos r (fun p => { p with w := w, phase := if w = 0 then !p.phase else p.phase })).leave tid)
  c.coalesce port r t

/-- A completion whose slot fails its window check: captured, discarded and counted, and the ring pair disabled without ABORT (R117). -/
def Core.completionFails (c : Core) (port r tid : Nat) (t : Task) (cause : Nat) : Core :=
  let a := ((c.ringOf r).cq + 32 * (c.cc.pos r).w) % 2 ^ 64
  let c := c.updCC (fun s => (s.updCap t.slice (fun k => k.violate s.epoch t.seq 4 cause (c.ringLocal port r) t.tag a)).discard tid)
  c.disableRing r false

/-- COMPLETION_WRITE (R85, R96): the ring pair's first staged completion is discarded, or, once its epoch is glazed, written in its turn on the port where the ring has space. -/
def Core.completionWrite (c : Core) (port l : Nat) (refused : Bool) : Core :=
  match c.ringNo port l with
  | none => c
  | some r =>
    match c.cc.stagedOf port r with
    | [] => c
    | (tid, t) :: _ =>
      if !c.leaseHeld then c
      else if c.ringClosed port r then c.updCC (·.discard tid)
      else if c.completionTurn port != some r then c
      else
        let s := c.slice t.slice
        let a := ((c.ringOf r).cq + 32 * (c.cc.pos r).w) % 2 ^ 64
        let cause := s.cause a 1 2 (c.granted port s.pasid a (if refused then [a / 4096] else []))
        let c := if cause = 0 ∨ cause = 4 then c.askTranslation port s.pasid a else c
        if cause ≠ 0 then c.completionFails port r tid t cause
        else (c.holdTranslation port s.pasid a).writeCompletion port r tid t

/-- COMPLETION_WRITE (R85). -/
def execCompletionWrite (port ring : Nat) (refused : Bool) (s : State) : Host.Outcome State Fault Refusal :=
  run (fun c => c.completionWrite port ring refused) s

/-- COAL_TIME_EXPIRE (R98): COAL_TIME µs after arming. -/
def Core.coalExpire (c : Core) (port l : Nat) : Core :=
  match c.ringNo port l with
  | none => c
  | some r =>
    let g := c.ringOf r
    match g.armedAt with
    | none => c
    | some t =>
      if g.coalTime = 0 ∨ !c.leaseHeld ∨ !c.linkTakes port then c
      else (c.moveTo (t + BitVec.ofNat 48 (100 * g.coalTime))).ringFire port r

/-- COAL_TIME_EXPIRE (R98). -/
def execCoalTimeExpire (port ring : Nat) (s : State) : Host.Outcome State Fault Refusal := run (fun c => c.coalExpire port ring) s

/-! ### The end of an abort -/

/-- The big-number cores that run a step of a task are zeroed, operand memory included, and take their next step (R336). -/
def Engs.freeCores (e : Engs) (tid : Nat) : Engs :=
  ({ e with jobs := e.jobs.map (fun x =>
      if x.1 / 256 == 3 && (x.2.run.map (·.tid)) == some tid then (x.1, { x.2 with run := none, mem := [] }) else x) } : Engs).kick

/-- A step of the task outside the big-number cores still runs. -/
def Engs.runsElse (e : Engs) (tid : Nat) : Bool := e.jobs.any (fun x => x.1 / 256 != 3 && (x.2.run.map (·.tid)) == some tid)

/-- ABORT_ZEROING_END (R336, R337): once its other running steps have finished, cores, trays and work area are cleared, the task is covered by zero pieces and completes with ABORTED; after a port reset nothing is written. -/
def Core.abortEnd (c : Core) (tid : Nat) : Core :=
  match c.task tid with
  | none => c
  | some t =>
    if t.st != .aborting || c.eng.runsElse tid then c
    else
      let c := { c with eng := c.eng.freeCores tid }
      if t.gone then
        (c.updPort t.port (fun p => { p with discarded := sat 32 (p.discarded + 1) })).updCC (·.leave tid)
      else
        (c.updTask tid (fun t => { t with
          st := .ending, status := Status.aborted, detail := t.abortCause, res0 := some 0, res1 := some 0, done := t.disp,
          trays := [], work := [], rnd := [], draws := [], plain := [], results := [], expand := [],
          pieces := t.pieces ++ (t.cover.map t.zeroRun).flatten })).tryRetire tid

/-- ABORT_ZEROING_END (R336). -/
def execAbortZeroingEnd (tid : Nat) (s : State) : Host.Outcome State Fault Refusal := run (fun c => c.abortEnd tid) s

/-! ### Class enables (R169 to R172) -/

/-- Classes that can be disabled: present, and not TRAY, KEYRES or EMIT (R171). -/
def classSwitch (v : Variant) (k : Nat) : Bool := classPresent v k && (k == 1 || k == 2 || k == 3 || k == 5)

/-- A write of DSP_CLASS_CTRL_c: the manager of port 0 alone. -/
def Core.writeClassCtrl (c : Core) (port k v : Nat) : Core :=
  let off := 0x0C0000 + 8 * k
  c.hostWrite port 0 off v (fun c =>
    if port ≠ 0 ∨ c.frozen ∨ !classSwitch c.g.variant k then c.refuseWrite port 0 off
    else
      let c := { c with r := { c.r with clsOn := upd k (fun _ => bit 0 v) c.r.clsOn, clsAbort := upd k (fun _ => bit 1 v) c.r.clsAbort } }
      if !bit 0 v && bit 1 v && k == 3 then c.abort (fun _ => true) 5 else c)

/-- DSP_CLASS_CTRL_c.DRAINED in a control-complex state (R169, R172): no task that needs the class is in flight, so that it rises when the last completion is written or discarded, not at the retirement before it (DESIGN CHOICE, log entry 100). -/
def Core.classDrained (c : Core) (s : CC) (k : Nat) : Bool :=
  classPresent c.g.variant k && !c.r.clsOn.getD k true && s.count (fun t => bit k t.needs) == 0

/-- DSP_CLASS_DISABLE (R169). -/
def execDspClassDisable (port cls : Nat) (value : W64) (s : State) : Host.Outcome State Fault Refusal :=
  run (fun c => if cls < 8 then c.writeClassCtrl port cls (value &&& ~~~(1 : W64)).toNat else c) s

/-- DSP_CLASS_ENABLE (R169). -/
def execDspClassEnable (port cls : Nat) (value : W64) (s : State) : Host.Outcome State Fault Refusal :=
  run (fun c => if cls < 8 then c.writeClassCtrl port cls (value ||| 1).toNat else c) s

end Sys2Proof.Machine
end

