-- ==== Sys2Proof/Machine/KeyTree.lean ====
section
/-! DEFINITION. The key tree: handles (R244), derivation (R245), slots and their states (R248), resolution (R246, R247), use and invocation reservations (R256, R257, R311, R312), the hot-context caches (R249), voids and sweeps (R253, R254), the journal and its replay (R241, R242, R258 to R261). -/

namespace Sys2Proof.Machine

/-! ### Handles (R244) -/

/-- One bit of CRC-8 with polynomial 0x07. -/
def crcBit (r : Nat) : Nat := if r.testBit 7 then ((r * 2) % 256) ^^^ 7 else r * 2

/-- CRC-8 over bytes. -/
def crc8 (l : List Nat) : Nat := l.foldl (fun r b => iter crcBit 8 (r ^^^ b)) 0

/-- The check byte of a handle. -/
def handleCheck (index gen dom : Nat) : Nat :=
  crc8 [bits 23 16 index, bits 15 8 index, bits 7 0 index, bits 15 8 gen, bits 7 0 gen, bits 11 8 dom, bits 7 0 dom]

/-- The handle of a node. -/
def handleOf (index gen dom : Nat) : Nat := index * 2 ^ 24 + gen * 2 ^ 8 + handleCheck index gen dom

/-- Node index of a handle. -/
def hIndex (h : Nat) : Nat := bits 47 24 h
/-- Generation of a handle. -/
def hGen (h : Nat) : Nat := bits 23 8 h

/-! ### Derivation (R245) -/

/-- A derived key of l bits. -/
def derive (parentKey : Bytes) (label parentGen usage l : Nat) : Bytes :=
  let k := CKey.of 4 parentKey
  let inp (i : Nat) : Bytes := [byte i] ++ beBytes 8 label ++ beBytes 2 parentGen ++ [byte usage, 0] ++ beBytes 2 l
  ((cmac k (inp 1)) ++ (cmac k (inp 2))).take (l / 8)

/-! ### Slots -/

/-- Slot of a node index. -/
def KeyTree.slot (k : KeyTree) (i : Nat) : KSlot := Table.findD i {} k.slots
/-- Changes a slot. -/
def KeyTree.updSlot (k : KeyTree) (i : Nat) (f : KSlot → KSlot) : KeyTree := { k with slots := Table.put i (f (k.slot i)) k.slots }

/-- A node's generation is raised and its slot takes a state: RETIRED at 0xFFFF (R248). -/
def KSlot.bump (s : KSlot) (st : KState) : KSlot :=
  if s.gen = 0xFFFF then { s with state := .retired } else { s with state := st, gen := s.gen + 1 }

/-- The generation that the slot's last node had. -/
def KSlot.lastGen (s : KSlot) : Nat := if s.state == .live || s.state == .retired then s.gen else s.gen - 1

/-- A new node's generation in the slot. -/
def KSlot.nextGen (s : KSlot) : Nat := if s.gen = 0 then 1 else s.gen

/-- Every ancestor up to L2 is LIVE with the generation its child records (check 6 of R247). -/
def KeyTree.chainOk (k : KeyTree) : Nat → Node → Bool
  | 0, _ => false
  | f + 1, n =>
    if n.level ≤ 2 then true
    else
      let p := k.slot n.parent
      match p.node with
      | some pn => p.state == .live && p.gen == n.parentGen && pn.level + 1 == n.level && k.chainOk f pn
      | none => false

/-- The key that an L2 root is wrapped under (R245): its own generation stands in place of the parent's. -/
def rootWrapKey (swk : Bytes) (domain gen : Nat) : Bytes := derive swk domain gen 0xFF 256

/-- The key that a stored child is wrapped under (R245). -/
def childWrapKey (parentKey : Bytes) (n : Node) : Bytes := derive parentKey n.label n.parentGen 0xFF 256

/-- A derived node's key from its parent's (R245). -/
def derivedKey (parentKey : Bytes) (n : Node) : Bytes :=
  let k := derive parentKey n.label n.parentGen n.usage n.bitLen
  if isTdea n.alg then oddParity k else k

/-- The key material of the node in a slot, derived or unwrapped from the SWK down (R238, R245): none where an ancestor's generation is not the one its child records or a wrapping does not open, and no bytes for a public key. -/
def KeyTree.nodeKey (k : KeyTree) (swk : Bytes) : Nat → Nat → Option Bytes
  | 0, _ => none
  | f + 1, i =>
    match (k.slot i).node with
    | none => none
    | some n =>
      if n.level ≤ 2 then kwpUnwrap (rootWrapKey swk n.domain (k.slot i).lastGen) n.wrapped
      else if (k.slot n.parent).lastGen ≠ n.parentGen then none
      else
        match k.nodeKey swk f n.parent with
        | none => none
        | some p =>
          if bits 5 4 n.attrs = 0 then some (derivedKey p n)
          else if n.wrapped.isEmpty then some []
          else kwpUnwrap (childWrapKey p n) n.wrapped

/-- The SWK, through which every node is read; no node can be read without it (R261). -/
def Core.swk (c : Core) : Bytes := c.batt.swk.getD []

/-- The key material of a slot's node. -/
def Core.keyOf (c : Core) (i : Nat) : Bytes := (c.cc.kt.nodeKey c.swk 4 i).getD []

/-- A new node with its key wrapped: a root under the SWK and its own generation, a child under its parent; a derived node and a public key store nothing (R238, R245). -/
def Core.wrapped (c : Core) (gen : Nat) (n : Node) (key : Bytes) : Node :=
  if bits 5 4 n.attrs = 0 ∨ key.isEmpty then n
  else { n with wrapped := kwpWrap (if n.level ≤ 2 then rootWrapKey c.swk n.domain gen else childWrapKey (c.keyOf n.parent) n) key }

/-- The last node index of a variant (R238). -/
def lastNode (v : Variant) : Nat := Config.nodes v - 1

/-- The ports that may use a domain's keys (R269). -/
def Core.domainPorts (c : Core) (d : Nat) : Nat :=
  bits (4 * (d % 12) + 3) (4 * (d % 12)) (Table.findD (d / 12) 0x111111111111 c.r.domPorts).toNat

/-- The port may resolve and administer the domain's keys. -/
def Core.domainAllowed (c : Core) (d port : Nat) : Bool := (c.domainPorts d).testBit port

/-- A failed check of R247: its order and status. -/
structure KFail where
  order : Nat
  status : Nat
deriving DecidableEq, Repr

/-- Checks 1 to 3 of R247: the slot, and the node it holds or held. -/
def Core.findNode (c : Core) (h dom port : Nat) : Except KFail (Nat × KSlot × Node) :=
  let i := hIndex h
  let s := c.cc.kt.slot i
  if bits 7 0 h ≠ handleCheck i (hGen h) dom then .error ⟨1, Status.keyNotFound⟩
  else if lastNode c.g.variant < i ∨ (i < 0x1000 ∧ i ≠ dom) then .error ⟨2, Status.keyNotFound⟩
  else
    match s.node with
    | none => .error ⟨2, Status.keyNotFound⟩
    | some n =>
      if n.domain ≠ dom ∨ !c.domainAllowed dom port then .error ⟨3, Status.keyNotFound⟩ else .ok (i, s, n)

/-- Checks 1 to 6 of R247. A slot that a FLOOR record or a lost journal has emptied holds no node and fails check 2 or 5 by its domain. -/
def Core.liveNode (c : Core) (h dom port : Nat) : Except KFail (Nat × KSlot × Node) :=
  match c.findNode h dom port with
  | .error e => .error e
  | .ok (i, s, n) =>
    if s.state = .expired ∧ hGen h + 1 = s.gen then .error ⟨4, Status.keyExpired⟩
    else if s.state ≠ .live ∨ hGen h ≠ s.gen then .error ⟨5, Status.keyVoid⟩
    else if !c.cc.kt.chainOk 4 n then .error ⟨6, Status.keyVoid⟩
    else .ok (i, s, n)

/-! ### Hot contexts (R249) -/

/-- Contexts that a node occupies: lattice private keys are held expanded (R333). -/
def Node.contexts (n : Node) : Nat := if n.alg = 0x18 then 8 else if n.alg = 0x19 then 4 else 1

/-- The resolver that caches a node in a half: by bit 0, or the other one of the half when that one has failed (R249, R393). -/
def Core.resolverOf (c : Core) (half i : Nat) : Nat :=
  let r := 2 * half + i % 2
  if c.eng.isBad 4 r then 2 * half + (1 - i % 2) else r

/-- Drops least recently used unpinned contexts until n fit; none when the rest is pinned. -/
def evict (pinned : Nat → Nat → Bool) (cap n : Nat) : List (Nat × Nat × Nat) → Option (List (Nat × Nat × Nat))
  | [] => if n ≤ cap then some [] else none
  | x :: l =>
    if ((x :: l).map (·.2.2)).foldl (· + ·) 0 + n ≤ cap then some (x :: l)
    else
      match (x :: l).reverse.find? (fun y => !pinned y.1 y.2.1) with
      | none => none
      | some y => if l.length = 0 then (if n ≤ cap then some [] else none)
                  else some ((x :: l).erase y)

/-- Repeats evict until the contexts fit. -/
def evictAll (pinned : Nat → Nat → Bool) (cap n : Nat) : Nat → List (Nat × Nat × Nat) → Option (List (Nat × Nat × Nat))
  | 0, l => some l
  | f + 1, l =>
    if (l.map (·.2.2)).foldl (· + ·) 0 + n ≤ cap then some l
    else match evict pinned cap n l with
      | none => none
      | some l' => evictAll pinned cap n f l'

/-- Contexts that a resolver holds at most (R249, R397). -/
def Core.hotRoom (c : Core) (r : Nat) : Nat := Config.hotContexts c.g.variant / 4 / 256 * (256 - Table.findD (9 * 256 + r) 0 c.cont.memOut)

/-- A resolver of a half holds the node's context. -/
def Core.isHot (c : Core) (half i gen : Nat) : Bool := (c.eng.hot.getD (c.resolverOf half i) []).any (fun x => x.1 == i && x.2.1 == gen)

/-- How the cache took a context. -/
inductive Cached where
  /-- It was held already. -/
  | hit
  /-- It was missing and is now held. -/
  | filled
  /-- It was missing and every context is pinned. -/
  | full
deriving DecidableEq, Repr

/-- The node is brought to the front of its resolver's cache, in place of the least recently used unpinned contexts (R249). -/
def Core.touch (c : Core) (half i gen size : Nat) : Core × Cached :=
  let r := c.resolverOf half i
  let rest := (c.eng.hot.getD r []).filter (fun x => !(x.1 == i && x.2.1 == gen))
  let keep (m : List (Nat × Nat × Nat)) : Core := { c with eng := { c.eng with hot := upd r (fun _ => m) c.eng.hot } }
  if c.isHot half i gen then (keep ((i, gen, size) :: rest), .hit)
  else
    match evictAll (c.cc.pinsIn half) (c.hotRoom r) size (rest.length + 1) rest with
    | some m => (keep ((i, gen, size) :: m), .filled)
    | none => (c, .full)

/-- The missing levels of a resolution, from the nearest cached ancestor on, enter the cache of its half (R249, R250). -/
def Core.cacheUse (c : Core) (half : Nat) : Nat → Nat → Nat → Node → Core
  | 0, _, _, _ => c
  | f + 1, i, gen, n =>
    match c.touch half i gen n.contexts with
    | (c, .hit) => c
    | (c, _) =>
      if n.level ≤ 2 then c
      else match (c.cc.kt.slot n.parent).node with
        | some p => c.cacheUse half f n.parent n.parentGen p
        | none => c

/-- Counts a resolution as served from the cache or not, and, where its node finds every context pinned, as transient (R249); updates the cache. -/
def Core.resolveIn (c : Core) (half i gen : Nat) (n : Node) : Core :=
  let r := c.r
  let r := if c.isHot half i gen then { r with cacheHit := sat 48 (r.cacheHit + 1) } else { r with cacheMiss := sat 48 (r.cacheMiss + 1) }
  let r := if (c.touch half i gen n.contexts).2 = .full then { r with transient := sat 48 (r.transient + 1) } else r
  ({ c with r := r } : Core).cacheUse half 3 i gen n

/-! ### Uses and reservations (R256, R257, R311, R312) -/

/-- What a resolution adds to a node's counters: one use where it is COUNTED, and invocations. -/
structure Uses where
  use : Bool
  random : Nat
  counter : Nat
deriving DecidableEq, Repr

/-- The invocations that count on the node: both counters for AES, COUNTER alone for TDEA, none otherwise (R311). -/
def Uses.on (u : Uses) (n : Node) : Uses :=
  if isAes n.alg then u else if isTdea n.alg then { u with random := 0 } else { u with random := 0, counter := 0 }

/-- The node carries a use counter. -/
def Node.counted (n : Node) : Bool := bit 2 n.attrs

/-- Check 7 of R247 and the limits of R311: the resolution would pass a limit. -/
def Node.exhausted (n : Node) (u : Uses) : Bool :=
  (u.use && n.counted && decide (n.limit ≤ n.uses)) ||
  (u.random != 0 && decide (2 ^ 32 < n.invRandom + u.random)) || (u.counter != 0 && decide (2 ^ 48 < n.invCounter + u.counter))

/-- A mark that covers n more: 256 beyond the count, at most the limit (R257). -/
def newMark (count mark n limit : Nat) : Nat := if count + n ≤ mark then mark else min (max (count + 256) (count + n)) limit

/-- The marks the node needs before the resolution may count. -/
def Node.marks (n : Node) (u : Uses) : Nat × Nat × Nat :=
  (if u.use && n.counted then newMark n.uses n.mark 1 n.limit else n.mark,
   newMark n.invRandom n.invRandomMark u.random (2 ^ 32),
   newMark n.invCounter n.invCounterMark u.counter (2 ^ 48))

/-- A reservation must reach flash first. -/
def Node.needsReserve (n : Node) (u : Uses) : Bool :=
  let m := n.marks u
  m.1 != n.mark || m.2.1 != n.invRandomMark || m.2.2 != n.invCounterMark

/-- The counters after the resolution. -/
def Node.count (n : Node) (u : Uses) : Node :=
  { n with uses := if u.use && n.counted then n.uses + 1 else n.uses, invRandom := n.invRandom + u.random, invCounter := n.invCounter + u.counter }

/-- Changes the node of a slot. -/
def Core.updNode (c : Core) (i : Nat) (f : Node → Node) : Core :=
  c.updCC (fun s => { s with kt := s.kt.updSlot i (fun k => { k with node := k.node.map f }) })

/-- Records a key-tree commit in the current epoch (R259). -/
def Core.ktCommit (c : Core) (tid : Option Nat) (node : Option Nat) (recs : List JRec) : Core :=
  c.updCC (fun s => { s with
    commitNo := s.commitNo + 1
    ktCommits := s.ktCommits ++ [{ no := s.commitNo + 1, epoch := s.epoch, tid := tid, node := node, recs := recs }] })

/-- The context of a node in a half. -/
def Core.ctxOf (c : Core) (half i gen : Nat) (n : Node) : Ctx :=
  { half := half, index := i, gen := gen, isNode := true, usage := n.usage, alg := n.alg, bitLen := n.bitLen, attrs := n.attrs,
    key := c.keyOf i, pub := n.pub }

/-- What waits in a resolution: the task, and the selector 1 or 2 of KEY0 or KEY1, or 16 and the recipe step. -/
abbrev Waiter := Nat × Nat

/-- The resolution that a node's queue lets go first (R257): entries whose task is no longer at work count no more. -/
def CC.firstWaiting (s : CC) (i : Nat) : Option Waiter :=
  (s.queue.find? (fun e => e.1 == i && (match s.task e.2.1 with
    | some t => t.st == .admitted || t.st == .running
    | none => false))).map (·.2)

/-- A resolution queues for a node (R257). -/
def Core.awaitNode (c : Core) (i : Nat) (who : Waiter) : Core :=
  c.updCC (fun s => if s.queue.contains (i, who) then s else { s with queue := s.queue ++ [(i, who)] })

/-- A resolution waits no more. -/
def Core.unqueue (c : Core) (who : Waiter) : Core := c.updCC (fun s => { s with queue := s.queue.filter (fun e => e.2 != who) })

/-- A lattice private key that a resolver does not hold expanded (R333). -/
def Core.needsExpansion (c : Core) (half i gen : Nat) (n : Node) : Bool :=
  (n.alg == 0x18 || n.alg == 0x19) && !n.wrapped.isEmpty && !c.isHot half i gen

/-- The records that reserve marks for a node's counters (R257): one for each mark that moves. -/
def reserveRecs (i gen : Nat) (n : Node) (m : Nat × Nat × Nat) : List JRec :=
  let base : JRec := { type := .reserve, index := i, gen := gen, level := n.level, parent := n.parent, parentGen := n.parentGen, domain := n.domain }
  let r (old new which : Nat) : List JRec := if new = old then [] else [{ base with value := new, which := which }]
  r n.mark m.1 0 ++ r n.invRandomMark m.2.1 1 ++ r n.invCounterMark m.2.2 2

/-- How a resolution ends. -/
inductive Resolved where
  /-- It waits for a reservation to reach flash, or queues behind one (R257), or for an expansion (R333). -/
  | wait (c : Core)
  | fail (e : KFail)
  | ok (c : Core) (x : Ctx)

/-- A resolution whose node serves it now: a lattice key that is missing is expanded first (R333); then it counts. -/
def Core.resolveNode (c : Core) (who : Waiter) (half i gen : Nat) (n : Node) (u : Uses) : Resolved :=
  let state := match c.task who.1 with
    | some t => (Table.find who.2 t.expand).map (·.2)
    | none => none
  if c.needsExpansion half i gen n && state != some 2 then
    .wait (if state.isSome then c else c.updTask who.1 (fun t => { t with expand := Table.put who.2 (half, 0) t.expand }))
  else
    let x := c.ctxOf half i gen n
    .ok ((((c.resolveIn half i gen n).updNode i (·.count u)).updTask who.1 (fun t => { t with expand := Table.del who.2 t.expand })).unqueue who) x

/-- Resolution (R247) in a half for a waiter, with what it counts. -/
def Core.resolve (c : Core) (who : Waiter) (h dom port half : Nat) (u : Uses) : Resolved :=
  match c.liveNode h dom port with
  | .error e => .fail e
  | .ok (i, s, n) =>
    let u := u.on n
    if n.exhausted u then .fail ⟨7, Status.keyUsageExhausted⟩
    else if c.cc.ktCommits.any (fun k => k.node == some i) || (c.cc.firstWaiting i).any (· != who) then .wait (c.awaitNode i who)
    else if n.needsReserve u then .wait ((c.ktCommit none (some i) (reserveRecs i s.gen n (n.marks u))).awaitNode i who)
    else c.resolveNode who half i s.gen n u

/-! ### Records of the journal (R242) -/

/-- TYPE codes. -/
def JType.code : JType → Nat
  | .node => 1
  | .void => 2
  | .reserve => 3
  | .set => 4
  | .floor => 5
  | .label => 6

/-- The record type of a code. -/
def JType.ofCode (n : Nat) : Option JType := [JType.node, .void, .reserve, .set, .floor, .label].find? (fun t => t.code == n)

/-- The extension blocks of a record: W, Q, the wrapped material, the public key, and zeros to the end of the last block. -/
def JRec.ext (r : JRec) : Bytes :=
  let b := leBytes 2 r.wrapped.length ++ leBytes 2 r.pub.length ++ r.wrapped ++ r.pub
  if r.wrapped.isEmpty ∧ r.pub.isEmpty then [] else b ++ zeros (64 * ceilDiv b.length 64 - b.length)

/-- Bytes 0 to 47 of a record. The mark of a RESERVE stands in bytes 28 to 34, wide enough for the 48-bit counter, and the counter it concerns in byte 39 (DESIGN CHOICE, log entry 28). -/
def JRec.head (r : JRec) : Bytes :=
  [byte r.type.code, byte r.level] ++ leBytes 3 r.index ++ leBytes 2 r.gen ++ leBytes 3 r.parent ++ leBytes 2 r.parentGen
    ++ leBytes 2 r.domain ++ [byte r.usage, byte r.alg] ++ leBytes 2 r.bitLen ++ [byte r.attrs, byte (r.ext.length / 64)]
    ++ beBytes 8 r.label ++ leBytes 7 r.value ++ zeros 4 ++ [byte r.which] ++ cut 0 8 r.owner

/-- The tag of a record: CMAC-AES-256 over bytes 0 to 47 and the extension blocks (R241). -/
def recordTag (key b : Bytes) : Bytes := cmac (CKey.of 4 (cut 0 32 key)) (b.take 48 ++ b.drop 64)

/-- A record as it stands in flash. -/
def JRec.encode (key : Bytes) (r : JRec) : Bytes := r.head ++ recordTag key (r.head ++ zeros 16 ++ r.ext) ++ r.ext

/-- The record's tag verifies. -/
def recordOk (key b : Bytes) : Bool := cut 48 16 b == recordTag key b

/-- The fields of a record in flash; none where its type is no type of R242. -/
def JRec.decode (b : Bytes) : Option JRec :=
  (JType.ofCode (byteAt 0 b)).map (fun t =>
    let w := leNat (cut 64 2 b)
    { type := t, index := leNat (cut 2 3 b), gen := leNat (cut 5 2 b), level := byteAt 1 b, parent := leNat (cut 7 3 b),
      parentGen := leNat (cut 10 2 b), domain := leNat (cut 12 2 b), usage := byteAt 14 b, alg := byteAt 15 b,
      bitLen := leNat (cut 16 2 b), attrs := byteAt 18 b, label := beNat (cut 20 8 b), value := leNat (cut 28 7 b),
      which := byteAt 39 b, owner := cut 40 8 b, wrapped := cut 68 w b, pub := cut (68 + w) (leNat (cut 66 2 b)) b })

/-- A NODE record. -/
def Node.record (i gen : Nat) (n : Node) : JRec :=
  { type := .node, index := i, gen := gen, level := n.level, parent := n.parent, parentGen := n.parentGen, domain := n.domain,
    usage := n.usage, alg := n.alg, bitLen := n.bitLen, attrs := n.attrs, label := n.label, value := n.limit, owner := n.owner,
    wrapped := n.wrapped, pub := n.pub }

/-- The creation request that a stored node came from, for the identical-child test of R251; a transferred node came from none. -/
def JRec.request (r : JRec) : Bytes :=
  if bits 5 4 r.attrs = 3 then []
  else beBytes 8 r.label ++ [byte r.usage, byte r.alg] ++ leBytes 2 (if r.alg = 0x10 then r.bitLen else 0) ++ [byte (r.attrs % 8)] ++ zeros 3
    ++ leBytes 5 r.value ++ zeros 3 ++ r.owner

/-- The node that a NODE record holds. -/
def JRec.toNode (r : JRec) : Node :=
  { level := r.level, parent := r.parent, parentGen := r.parentGen, domain := r.domain, usage := r.usage, alg := r.alg, bitLen := r.bitLen,
    attrs := r.attrs, label := r.label, limit := r.value, owner := r.owner, request := r.request, wrapped := r.wrapped, pub := r.pub }

/-- A VOID record (R253). -/
def voidRec (i gen : Nat) (n : Node) : JRec :=
  { type := .void, index := i, gen := gen, level := n.level, parent := n.parent, parentGen := n.parentGen, domain := n.domain }

/-- A SET record: its 64-byte source stands as the W bytes of the extension (DESIGN CHOICE, log entry 28). -/
def setRec (i domain : Nat) (source : Bytes) : JRec := { type := .set, index := i, domain := domain, wrapped := source }

/-- The key set in a 64-byte source (R262). -/
def readSet (b : Bytes) : KSet := { domain := leNat (cut 4 2 b), members := (List.range 8).map (fun j => leNat (cut (8 + 6 * j) 6 b)) }

/-- Puts a node in a slot. -/
def KeyTree.place (k : KeyTree) (i gen : Nat) (n : Node) : KeyTree :=
  let k := k.updSlot i (fun _ => { state := .live, gen := gen, node := some n })
  if n.level ≤ 2 ∨ n.label = 0 then k
  else k.updSlot n.parent (fun p => if p.lastGen = n.parentGen then { p with high := max p.high n.label } else p)

/-- What flash keeps of a VOLATILE node: the slot mark (R258). -/
def Node.slotMark (n : Node) : Node := { level := n.level, domain := n.domain, attrs := attrVolatile }

/-- The records of a creation: NODE, or a slot mark and the parent's highest label for a VOLATILE node (R242, R258). -/
def creationRecs (i gen : Nat) (n : Node) (up : Option Node) : List JRec :=
  if bit 1 n.attrs then
    [n.slotMark.record i gen] ++ (if n.level ≤ 2 then [] else
      [{ type := .label, index := n.parent, gen := n.parentGen, level := n.level - 1, domain := n.domain, label := n.label
         parent := if n.level = 4 then (up.map (·.parent)).getD 0 else 0, parentGen := if n.level = 4 then (up.map (·.parentGen)).getD 0 else 0 }])
  else [n.record i gen]

/-- A slot that lies VOID, or RETIRED after generation 0xFFFF, past a node's generation (R248, R261). -/
def KSlot.past (gen ord : Nat) (n : Node) : KSlot :=
  { state := if gen = 0xFFFF then .retired else .void, gen := if gen = 0xFFFF then gen else gen + 1, node := some n, ord := ord }

/-- A reservation's mark reaches its node (R257). -/
def Node.reserved (n : Node) (which m : Nat) : Node :=
  if which = 0 then { n with mark := max n.mark m }
  else if which = 1 then { n with invRandomMark := max n.invRandomMark m }
  else { n with invCounterMark := max n.invCounterMark m }

/-- One record of the journal replayed. A VOID whose NODE compaction has left out gives its slot its state and generation all the same (R248). -/
def KeyTree.apply (k : KeyTree) (r : JRec) : KeyTree :=
  let i := r.index
  match r.type with
  | .node => if (k.slot i).gen ≤ r.gen then k.place i r.gen r.toNode else k
  | .void => k.updSlot i (fun s =>
      if s.state = .live ∧ s.gen = r.gen then { s.bump .void with swept := false }
      else if s.lastGen < r.gen then { (KSlot.past r.gen 0 { level := r.level, parent := r.parent, parentGen := r.parentGen, domain := r.domain }) with swept := false }
      else s)
  | .reserve => k.updSlot i (fun s => if s.gen = r.gen then { s with node := s.node.map (·.reserved r.which r.value) } else s)
  | .set => { k with sets := Table.put i (readSet r.wrapped) k.sets }
  | .floor => k.updSlot i (fun _ => KSlot.past r.gen i { domain := r.domain, level := r.level })
  | .label => k.updSlot i (fun s => if s.lastGen = r.gen then { s with high := max s.high r.label } else s)

/-- The children of a node, by parent index and generation. -/
def KeyTree.children (k : KeyTree) (i gen level : Nat) : List Nat :=
  (k.slots.filter (fun e => e.2.state == .live && (match e.2.node with
    | some n => n.parent == i && n.parentGen == gen && n.level == level + 1
    | none => false))).map (·.1)

/-- The LIVE descendants of a node. -/
def KeyTree.descendants (k : KeyTree) (i gen level : Nat) : List Nat :=
  let ch := k.children i gen level
  ch ++ (ch.map (fun j => k.children j (k.slot j).gen (level + 1))).flatten

/-- A slot whose node no task pins enters the queue of R252. -/
def KeyTree.enqueue (k : KeyTree) (i : Nat) : KeyTree :=
  { (k.updSlot i (fun s => { s with swept := true, ord := k.nextOrd })) with nextOrd := k.nextOrd + 1 }

/-- The sweep of a voided node: each LIVE descendant becomes ORPHAN (R254). -/
def KeyTree.sweep (k : KeyTree) (i gen level : Nat) : KeyTree :=
  ((k.descendants i gen level).foldl (fun k j => (k.updSlot j (·.bump .orphan)).enqueue j) k).enqueue i

/-- Descendants that a sweep has yet to mark (KTR_SWEEP.PENDING). -/
def KeyTree.pendingSweep (k : KeyTree) : Nat :=
  (k.sweeps.map (fun e => (k.descendants e.1 e.2.1 e.2.2).length)).foldl (· + ·) 0

/-- A VOLATILE node expires (R258). -/
def KSlot.expire (s : KSlot) : KSlot :=
  match s.node with
  | some n => if s.state == .live && bit 1 n.attrs then s.bump .expired else s
  | none => s

/-- A LIVE node without a live chain is an orphan (R254). -/
def KSlot.orphan (k : KeyTree) (s : KSlot) : KSlot :=
  match s.node with
  | some n => if s.state == .live && !k.chainOk 4 n then s.bump .orphan else s
  | none => s

/-- Counts stand at their marks after WAKE (R257). -/
def Node.atMarks (n : Node) : Node := { n with uses := n.mark, invRandom := n.invRandomMark, invCounter := n.invCounterMark }

/-- Changes every slot. -/
def KeyTree.mapSlots (k : KeyTree) (f : Nat → KSlot → KSlot) : KeyTree := { k with slots := k.slots.map (fun e => (e.1, f e.1 e.2)) }

/-- The tree as WAKE finds it: the journal replayed, VOLATILE nodes expired, nodes without a live chain orphaned, counts at their marks, every sweep done (R254, R257, R258, R260). -/
def replay (journal : List JRec) : KeyTree :=
  let k := (journal.foldl KeyTree.apply {}).mapSlots (fun _ s => s.expire)
  let k := k.mapSlots (fun _ s => s.orphan k)
  { (k.mapSlots (fun i s => { s with swept := true, ord := i, node := s.node.map Node.atMarks })) with sweeps := [], nextOrd := 2 ^ 24 }

/-! ### Compaction (R241) -/

/-- The record says which node a slot holds or held. -/
def JRec.ofSlot (r : JRec) : Bool := r.type == .node || r.type == .void || r.type == .floor

/-- The record holds the highest label among the children of a LIVE node, which compaction keeps. -/
def JRec.highest (k : KeyTree) (r : JRec) : Bool :=
  let i := if r.type = .node then r.parent else r.index
  let g := if r.type = .node then r.parentGen else r.gen
  (r.type == .node || r.type == .label) && r.label != 0 && (k.slot i).state == .live && (k.slot i).gen == g && (k.slot i).high == r.label

/-- A later record of the journal makes the record needless. -/
def JRec.outdated (r : JRec) (later : List JRec) : Bool :=
  match r.type with
  | .reserve => later.any (fun x => x.index == r.index && (x.ofSlot || (x.type == .reserve && x.gen == r.gen && x.which == r.which)))
  | .set => later.any (fun x => x.type == .set && x.index == r.index)
  | .label => true
  | _ => later.any (fun x => x.ofSlot && x.index == r.index)

/-- What compaction keeps, in order: the latest records of every slot, and the highest labels. -/
def keepRecs (k : KeyTree) : List (Bytes × JRec) → List Bytes
  | [] => []
  | x :: l => if x.2.outdated (l.map (·.2)) && !x.2.highest k then keepRecs k l else x.1 :: keepRecs k l

/-- The records of a region with their fields. -/
def readRecs (l : List Bytes) : List (Bytes × JRec) := l.filterMap (fun b => (JRec.decode b).map (fun r => (b, r)))

/-- Compaction of a region: its live records, unchanged. -/
def compact (l : List Bytes) : List Bytes :=
  let rs := readRecs l
  keepRecs ((rs.map (·.2)).foldl KeyTree.apply {}) rs

/-- Bytes that a copy's journal takes in the region in use. -/
def JCopy.bytes (j : JCopy) : Nat := (j.recs.map List.length).foldl (· + ·) 0

/-- The journals of the copies that can be read. -/
def Flash.usableJournals (f : Flash) : List JCopy := ((f.journals.zip f.readable).filter (·.2)).map (·.1)

/-- Percent of a region that a copy's journal fills. -/
def fillOf (v : Variant) (j : JCopy) : Nat := 100 * j.bytes / Config.journalRegion v

/-- KTR_JOURNAL.FILL, of the first copy that can be read. -/
def Core.journalFill (c : Core) : Nat := match c.flash.usableJournals with
  | j :: _ => fillOf c.g.variant j
  | [] => 0

/-- Changes the journals of the copies that can be read. -/
def Flash.mapJournals (f : Flash) (g : JCopy → JCopy) : Flash :=
  { f with journals := (f.journals.zip f.readable).map (fun e => if e.2 then g e.1 else e.1) }

/-- Compaction starts in the first copy that has come to 75 %, one copy at a time (R241). -/
def Core.startCompaction (c : Core) : Core :=
  if c.flash.journals.any (·.next.isSome) then c
  else
    match ((c.flash.journals.zip c.flash.readable).findIdx? (fun e => e.2 && decide (75 ≤ fillOf c.g.variant e.1))) with
    | some n => { c with flash := { c.flash with journals := upd n (fun (j : JCopy) => { j with next := some (compact j.recs) }) c.flash.journals } }
    | none => c

/-- Records are written to every copy that can be read, and where a copy is compacted to both its regions (R241, R259). A commit whose records the journal holds already changes nothing. -/
def Core.appendJournal (c : Core) (no : Nat) (recs : List JRec) : Core :=
  if no ≤ c.flash.commitNo then c
  else
    let b := recs.map (JRec.encode (Config.recordKey c.swk))
    ({ c with flash := { (c.flash.mapJournals (fun j => { j with recs := j.recs ++ b, next := j.next.map (· ++ b) })) with commitNo := no } } : Core).startCompaction

/-! ### What WAKE makes of the copies (R260) -/

/-- Two lists of records, newest first, made one: what both hold stands once, and each keeps its order. -/
def mergeNewest : Nat → List Bytes → List Bytes → List Bytes
  | 0, a, _ => a
  | _ + 1, [], b => b
  | _ + 1, a, [] => a
  | f + 1, x :: a, y :: b =>
    if x = y then x :: mergeNewest f a b
    else if b.contains x then y :: mergeNewest f (x :: a) b
    else x :: mergeNewest f a (y :: b)

/-- The records of both copies, oldest first. -/
def mergeJournals (a b : List Bytes) : List Bytes := (mergeNewest (a.length + b.length + 1) a.reverse b.reverse).reverse

/-- A copy's records that stand the test of their tags; bad names those that flash returns damaged. -/
def goodRecs (key : Bytes) (bad : List Nat) (l : List Bytes) : List Bytes :=
  (l.zipIdx.filter (fun e => !bad.contains e.2 && recordOk key e.1 && (JRec.decode e.1).isSome)).map (·.1)

/-- The journal as WAKE reads it from the copies: bad records are ignored, counted and told of; a record found in one copy only is copied into the other; a compaction that was running starts anew (R241, R260). -/
def Core.loadJournal (c : Core) (badA badB : List Nat) : Core :=
  let key := Config.recordKey c.swk
  let l := ((c.flash.journals.zip [badA, badB]).zip c.flash.readable).filter (·.2)
  let good := l.map (fun e => goodRecs key e.1.2 e.1.1.recs)
  let lost := (l.map (fun e => e.1.1.recs.length)).foldl (· + ·) 0 - (good.map List.length).foldl (· + ·) 0
  let all := match good with
    | [a, b] => mergeJournals a b
    | [a] => a
    | _ => []
  let c := { c with flash := c.flash.mapJournals (fun j => { j with recs := all, next := none }), r := { c.r with badRecords := c.r.badRecords + lost } }
  (if lost = 0 then c else c.pulseAll 115).startCompaction

/-- The journal's records, as the first copy that can be read holds them. -/
def Core.journal (c : Core) : List JRec := match c.flash.usableJournals with
  | j :: _ => (readRecs j.recs).map (·.2)
  | [] => []

/-! ### Creation (R251, R252) -/

/-- The first of the swept and unpinned slots that have waited longest (R252). -/
def Core.reuseSlot (c : Core) : Option Nat :=
  let l := c.cc.kt.slots.filter (fun e => decide (0x1000 ≤ e.1) &&
    (e.2.state == .void || e.2.state == .orphan || e.2.state == .expired) && e.2.swept && !c.cc.pins e.1)
  (l.foldl (fun (b : Option (Nat × Nat)) e => match b with
    | some (_, o) => if e.2.ord < o then some (e.1, e.2.ord) else b
    | none => some (e.1, e.2.ord)) none).map (·.1)

/-- The slot a new L3 or L4 node takes, none when the tree is full (R252). -/
def Core.freeSlot (c : Core) : Option Nat :=
  let used := (c.cc.kt.slots.filter (fun e => decide (0x1000 ≤ e.1) && e.2.state != .fresh)).map (·.1)
  match (List.range (used.length + 1)).find? (fun j => !used.contains (0x1000 + j)) with
  | some j => if 0x1000 + j ≤ lastNode c.g.variant then some (0x1000 + j) else c.reuseSlot
  | none => c.reuseSlot

/-- The attributes of a new node: the requested ones, its origin, LOCAL by R243, and VOLATILE everywhere in ANALYSIS (R53). -/
def newAttrs (requested origin : Nat) (parentLocal analysis : Bool) : Nat :=
  let exportable := bit 0 requested
  let isLocal := !exportable && (origin == 1 || (origin == 0 && parentLocal))
  b2n exportable + 2 * b2n (bit 1 requested || analysis) + 4 * b2n (bit 2 requested) + 8 * b2n isLocal + 16 * origin

/-- Places a new node in the working image, its key wrapped. The node, and its generation. -/
def Core.placeNode (c : Core) (i gen : Nat) (n : Node) (key : Bytes) : Core × Node :=
  let n := c.wrapped gen n key
  (c.updCC (fun s => { s with kt := s.kt.place i gen n }), n)

/-- Voids a LIVE node: its generation is raised and its sweep begins (R253, R254). The VOID record of it. -/
def Core.voidNode (c : Core) (i : Nat) : Core × JRec :=
  let s := c.cc.kt.slot i
  let n := s.node.getD {}
  (c.updCC (fun cc => { cc with kt := { (cc.kt.updSlot i (fun k => { k.bump .void with swept := false })) with sweeps := cc.kt.sweeps ++ [(i, s.gen, n.level)] } }),
   voidRec i s.gen n)

/-- A context names a node that resolves (R247). -/
def Core.resolves (c : Core) (i gen : Nat) : Bool :=
  let s := c.cc.kt.slot i
  match s.node with
  | some n => s.state == .live && s.gen == gen && c.cc.kt.chainOk 4 n
  | none => false

/-- Every resolver drops the unpinned contexts of nodes that no longer resolve (R253). -/
def Core.dropContexts (c : Core) : Core :=
  { c with eng := { c.eng with hot := (c.eng.hot.zipIdx).map (fun l => l.1.filter (fun x => c.resolves x.1 x.2.1 || c.cc.pinsIn (l.2 / 2) x.1 x.2.1)) } }

/-! ### Commands of the tree itself -/

/-- What a record leaves in the working image once it is in flash: a reservation's marks (R257). -/
def JRec.inPlace (k : KeyTree) (r : JRec) : KeyTree := if r.type = .reserve then k.apply r else k

/-- The first commit is written to every usable flash copy; then its operation completes, or the waiting resolutions are released (R259). -/
def Core.ktWriteFirst (c : Core) : Core :=
  match c.cc.ktCommits with
  | [] => c
  | k :: rest =>
    let c := (c.appendJournal k.no k.recs).updCC (fun s => { s with ktCommits := rest, kt := k.recs.foldl JRec.inPlace s.kt })
    let c := c.dropContexts
    match k.tid with
    | none => c
    | some tid =>
      (match c.task tid with
       | some t => if t.st == .committing then (c.updTask tid (fun t => { t with st := .ending })).tryRetire tid else c
       | none => c)

/-- The first commit's epoch is glazed (R259). -/
def Core.ktGlazed (c : Core) : Bool := match c.cc.ktCommits with
  | [] => false
  | k :: _ => decide (k.epoch ≤ c.cont.glazed)

/-- KEY_TREE_COMMIT_WRITE (R259): the complex that holds the Lozenge writes the first commit whose epoch is glazed. -/
def Core.ktWrite (c : Core) : Core := if c.ktGlazed && c.leaseHeld then c.ktWriteFirst else c

/-- KEY_TREE_COMMIT_WRITE (R259). -/
def execKeyTreeCommitWrite (s : State) : Host.Outcome State Fault Refusal := run Core.ktWrite s

/-- JOURNAL_COMPACTION_END (R241): the copy that was being compacted uses its other region, and the other copy follows where it needs to. -/
def execJournalCompactionEnd (s : State) : Host.Outcome State Fault Refusal :=
  run (fun c =>
    if !c.leaseHeld || !c.flash.journals.any (·.next.isSome) then c
    else
      ({ c with flash := { c.flash with journals := c.flash.journals.map (fun j => match j.next with
          | some l => { recs := l, next := none, region := 1 - j.region }
          | none => j) } } : Core).startCompaction) s

/-- SWEEP_END (R254): the oldest sweep ends, and source 112 tells the ports of the domain's mask. -/
def execSweepEnd (s : State) : Host.Outcome State Fault Refusal :=
  run (fun c =>
    if !c.leaseHeld then c else
    match c.cc.kt.sweeps with
    | [] => c
    | (i, gen, level) :: rest =>
      let dom := match (c.cc.kt.slot i).node with
        | some n => n.domain
        | none => 0
      (c.updCC (fun s => { s with kt := { (s.kt.sweep i gen level) with sweeps := rest } })).edge (c.domainPorts dom) 112) s

/-- A write of KTR_LOW_MARK (R269, R270). -/
def Core.writeLowMark (c : Core) (port v : Nat) : Core :=
  c.hostWrite port 0 0x0D0018 v (fun c =>
    if port ≠ 0 ∨ c.frozen then c.refuseWrite port 0 0x0D0018
    else { c with r := { c.r with lowMark := bits 24 0 v } })

/-- KTR_LOW_MARK_WRITE (R270). -/
def execKtrLowMarkWrite (port : Nat) (value : W64) (s : State) : Host.Outcome State Fault Refusal :=
  run (fun c => c.writeLowMark port value.toNat) s

/-! ### Key resolution at admission (R157, R312) -/

/-- A step of a recipe counts an invocation on the key a selector names: CTR encryption with its IV at B (R311). -/
def RStep.ctrUse (s : RStep) (sel : Nat) : Bool := s.op == 0x20 && s.ksel == sel && bits 3 0 s.arg == 2 && bit 4 s.arg

/-- What the resolution of a selector counts (R256, R312). -/
def Task.uses (t : Task) (sel : Nat) : Uses :=
  if t.opclass = clsRecipe then
    { use := true, random := 0, counter := ((imgStepList t.image).filter (·.ctrUse sel)).length }
  else if t.opclass = clsBulk then
    let counts := t.opcode == 0x502 || (t.opcode == 0x500 && t.bkMode == 2)
    { use := true, random := b2n (counts && t.bkIvsrc == 1), counter := b2n counts }
  else { use := true, random := 0, counter := 0 }

/-- The checks of a BULK or PK_DIRECT operation on KEY0 once it has resolved (R303, R322). -/
def Task.keyCheck (t : Task) (x : Ctx) : Option Ended :=
  if t.opclass = clsBulk then t.bulkKeyCheck x else if t.opclass = clsPk then t.pkKeyCheck x else none

/-- KEY_RESOLUTION_COMPLETE (R247): the resolution of KEY0 or KEY1 in the task's half. -/
def Core.keyResolution (c : Core) (tid : Nat) (second : Bool) : Core :=
  match c.task tid with
  | none => c
  | some t =>
    let sel := if second then 2 else 1
    let flag := if second then 3 else 2
    if (t.st != .admitted && t.st != .running) || bit flag t.flags || !c.dispatching then c
    else
      match c.resolve (tid, sel) (if second then t.key1 else t.key0) t.domain t.port (clusterHalf t.cluster) (t.uses sel) with
      | .wait c => c
      | .fail e => c.endEarly tid e.status (e.order * 16 + sel)
      | .ok c x =>
        match t.keyCheck x with
        | some e => c.endEarly tid e.1 e.2
        | none => (c.updTask tid (fun t => ({ t with ctxs := Table.put sel x t.ctxs, flags := setFlag flag t.flags } : Task).skipAll)).tryRetire tid

/-- KEY_RESOLUTION_COMPLETE (R247). -/
def execKeyResolutionComplete (tid : Nat) (second : Bool) (s : State) : Host.Outcome State Fault Refusal :=
  run (fun c => c.keyResolution tid second) s

end Sys2Proof.Machine
end

