-- ==== Sys2Proof/Machine/Checks.lean ====
section
/-! DEFINITION. The checks of public keys and operands that the check phase makes (R319, R328, R330), and the frame of the operations without steps: what an ADMIN or CUSTODY command does once its requests are met (R149, R158, R259, R280). -/

namespace Sys2Proof.Machine

/-! ### Public keys -/

/-- The 12-bit coefficients of an encoded ML-KEM-768 encapsulation key. -/
def kemCoeffs : Bytes → List Nat
  | a :: b :: c :: r => (a.toNat + 256 * (b.toNat % 16)) :: (b.toNat / 16 + 16 * c.toNat) :: kemCoeffs r
  | _ => []

/-- The modulus check of FIPS 203 on an encapsulation key. -/
def kemKeyOk (pub : Bytes) : Bool := (kemCoeffs (pub.take 1152)).all (· < 3329)

/-- An Ed25519 public key that decodes to a point other than the identity (R328 kind 6). -/
def edKeyOk (pub : Bytes) : Bool :=
  match edDecode pub with
  | some q => !q.same .zero
  | none => false

/-- The RSA rules of R319 for a public key of a declared size. -/
def rsaKeyOk (nbits : Nat) (pub : Bytes) : Bool :=
  let e := beNat (cut 2 8 pub)
  let n := beNat (cut 10 (ceilDiv nbits 8) pub)
  beNat (cut 0 2 pub) == nbits && rsaSizeOk nbits && n % 2 == 1 && bitLen n == nbits && e % 2 == 1 && decide (3 ≤ e)

/-- The kinds of R328 that a supplied point or key fails, in rising order. -/
def keyFaults (alg : Nat) (pub : Bytes) : List Nat :=
  match curveOf alg with
  | some k =>
    let x := k.px pub
    let y := k.py pub
    let range := decide (k.p ≤ x) || decide (k.p ≤ y)
    (if range then [2] else []) ++ (if !range && !k.onCurve x y then [4] else []) ++ (if byteAt 0 pub ≠ 4 then [6] else [])
  | none =>
    match alg with
    | 0x16 => if lowOrder pub then [5] else []
    | 0x17 => if edKeyOk pub then [] else [6]
    | 0x19 => if kemKeyOk pub then [] else [8]
    | _ => []

/-- Status of a kind of R328. -/
def kindStatus (k : Nat) : Nat :=
  if k = 4 ∨ k = 5 ∨ k = 6 then Status.notOnCurve else if k = 7 then Status.inputFormat else Status.operandRange

/-- Status and DETAIL of a failed check of an operand outside a recipe (R329). -/
def kindEnded (operand kind : Nat) : Ended := (kindStatus kind, 0x4000 + 0x100 * operand + kind)

/-! ### Operations without steps -/

/-- Why an operation does not run to its end: it waits, with the state it waits in, or it is refused with a status and DETAIL and the state that leaves. -/
inductive Stop where
  | wait (c : Core)
  | refused (c : Core) (e : Ended)
deriving DecidableEq, Repr

/-- A part of an operation. -/
abbrev Op (α : Type) := Except Stop α

/-- A check of an operation. -/
def need (c : Core) (ok : Bool) (e : Ended) : Op Unit := if ok then .ok () else .error (.refused c e)

/-- How an operation ends. -/
structure OpEnd where
  status : Nat := 0
  detail : Nat := 0
  res0 : Nat := 0
  res1 : Nat := 0
  data : Bytes := []
  /-- Its completion waits for an event of its own: a flash write, a recovery, a drain. -/
  held : Bool := false
  /-- Its completion waits for the glaze of its epoch even where it has changed no custody state. -/
  atGlaze : Bool := false
deriving DecidableEq, Repr

/-- Ends an operation: at once, or, where it has changed custody state, once its epoch is glazed (R280), or where it is held, by its own event (R259). -/
def Core.opEnd (c : Core) (before : Custody) (tid : Nat) (e : OpEnd) : Core :=
  if e.held || e.atGlaze || c.cc.cust != before then
    let epoch := if e.held then 0 else c.cc.epoch
    c.updTask tid (fun t =>
      ({ t with status := e.status, detail := e.detail, res0 := some e.res0, res1 := some e.res1, st := .committing, commitEpoch := epoch } : Task).deliver e.data)
  else c.finish tid e.status e.detail e.res0 e.res1 e.data

/-- The operation codes of the sensitive commands (R281), life-cycle requests among them. -/
def Task.sensitive (t : Task) : Bool :=
  (t.opclass == clsAdmin && [0x210, 0x211, 0x212].contains t.opcode) ||
  (t.opclass == clsCustody && [0x303, 0x304, 0x305, 0x30A, 0x30B, 0x30C, 0x310, 0x311, 0x312, 0x313, 0x320, 0x331, 0x340].contains t.opcode)

/-- The task registers a recipe in the same slot. -/
def Task.registersWith (t u : Task) : Bool :=
  t.opclass == clsAdmin && u.opclass == clsAdmin && t.opcode == 0x100 && u.opcode == 0x100 && bits 15 0 t.param == bits 15 0 u.param

/-- An earlier-admitted command has to be checked first: sensitive commands against the token store (R279), registrations of one slot (R176). -/
def CC.behind (s : CC) (tid : Nat) (t : Task) : Bool :=
  s.tasks.any (fun e => e.1 != tid && e.2.st == .admitted && earlierSeq e.2.seq t.seq && ((t.sensitive && e.2.sensitive) || t.registersWith e.2))

/-- Runs an operation of a class and code whose requests are met. -/
def Core.runOp (c : Core) (tid cls op : Nat) (f : Core → Task → Op (Core × OpEnd)) : Core :=
  match c.task tid with
  | none => c
  | some t =>
    if t.st != .admitted || t.opclass != cls || t.opcode != op || !covers t.flags 0x5F || !c.leaseHeld
        || (cls == clsAdmin && !c.dispatching) || c.cc.behind tid t then c
    else
      match f c t with
      | .ok (c', e) => c'.opEnd c.cc.cust tid e
      | .error (.refused c' e) => c'.opEnd c.cc.cust tid { status := e.1, detail := e.2 }
      | .error (.wait c') => c'

/-- The source bytes of an operation without steps. -/
def Task.source (t : Task) : Bytes := cut 0 t.srcLen t.work

/-- MODE_REFUSED with the code of the present mode (R472). -/
def Core.modeRefused (c : Core) : Ended := (Status.modeRefused, c.g.mode.code)

/-- Resolves a handle for an operation (R247, R256); sel is 1 for KEY0 and 2 for KEY1. A handle resolved before KEY1 had to wait stays resolved. -/
def Core.opKey (c : Core) (tid : Nat) (t : Task) (h dom sel : Nat) : Op (Core × Ctx) :=
  match Table.find sel t.ctxs with
  | some x => .ok (c, x)
  | none =>
    match c.resolve (tid, sel) h dom t.port (clusterHalf t.cluster) { use := true, random := 0, counter := 0 } with
    | .wait c => .error (.wait c)
    | .fail e => .error (.refused c (e.status, e.order * 16 + sel))
    | .ok c x => .ok (c, x)

/-- Resolves KEY0 and then KEY1; where KEY1 has to wait, KEY0 stays resolved (R257). -/
def Core.opKeys (c : Core) (tid : Nat) (t : Task) (dom : Nat) : Op (Core × Ctx × Ctx) :=
  match c.opKey tid t t.key0 dom 1 with
  | .error e => .error e
  | .ok (c, x) =>
    match c.opKey tid t t.key1 dom 2 with
    | .ok (c, y) => .ok (c, x, y)
    | .error (.refused c e) => .error (.refused c e)
    | .error (.wait c) => .error (.wait (c.updTask tid (fun t => { t with ctxs := Table.put 1 x t.ctxs })))

/-- A draw that an operation makes when it runs (R234, R275, R327, R352): the core goes back to one where the draw has to wait, and to another where no source is left. -/
def Core.drawFor (c back stop : Core) (tid : Nat) (t : Task) (n : Nat) : Op (Core × Bytes) :=
  match c.drawAt tid 32 n t with
  | .got b c => .ok (c, b)
  | .wait => .error (.wait (back.awaitDraw tid 32 n))
  | .stopped => .error (.refused { stop with r := { stop.r with entRefused := sat 16 (stop.r.entRefused + 1) } } (Status.entropyUnavailable, 0))

end Sys2Proof.Machine
end

