-- ==== Sys2Proof/Machine/Steps.lean ====
section
/-! DEFINITION. The recipe steps of the classes TRAY, CIPHER, HASH, KEYRES and EMIT (R182, R195 to R235, R247, R262, R480). -/

namespace Sys2Proof.Machine

/-- A step's result, or the outcome of its failure. -/
def stepOf (r : SR StepRes) : StepRes :=
  match r with
  | .ok r => r
  | .error o => { out := o }

/-- First operand over the step's length. -/
def Task.dataA (t : Task) (s : RStep) : Bytes := t.rd s.a (t.opLen s)

/-! ### TRAY -/

/-- MOVE (R182). -/
def execMove (tid step : Nat) (s : State) : Host.Outcome State Fault Refusal :=
  run (fun c => c.computeStep tid step 0x01 (fun t s => dataOut s.d (t.rd s.a s.len))) s

/-- XOR (R182). -/
def execXor (tid step : Nat) (s : State) : Host.Outcome State Fault Refusal :=
  run (fun c => c.computeStep tid step 0x02 (fun t s => dataOut s.d (xorB (t.rd s.a s.len) (t.rd s.b s.len)))) s

/-- FILL (R182). -/
def execFill (tid step : Nat) (s : State) : Host.Outcome State Fault Refusal :=
  run (fun c => c.computeStep tid step 0x03 (fun _ s => dataOut s.d (List.replicate s.len (byte s.arg)))) s

/-- COMPARE (R182). -/
def execCompare (tid step : Nat) (s : State) : Host.Outcome State Fault Refusal :=
  run (fun c => c.computeStep tid step 0x04 (fun t s => testOut (t.rd s.a s.len == t.rd s.b s.len))) s

/-- PACK: ASCII digits to packed BCD (R182). -/
def packDigits (f : Bool) (a : Bytes) : SR Bytes := do
  must (a.all (fun b => decide (0x30 ≤ b.toNat) && decide (b.toNat ≤ 0x39))) (.sub Sub.digitInvalid)
  return packNibs (if f then 15 else 0) (a.map (fun b => b.toNat - 0x30))

/-- PACK (R182). -/
def execPack (tid step : Nat) (s : State) : Host.Outcome State Fault Refusal :=
  run (fun c => c.computeStep tid step 0x05 (fun t s => stepOf ((packDigits (bit 0 s.arg) (t.rd s.a s.len)).map (dataOut s.d)))) s

/-- UNPACK: n packed digits to ASCII (R182). -/
def unpackDigits (n : Nat) (a : Bytes) : SR Bytes := do
  let ds ← digitsOf n a
  return ds.map (fun v => byte (0x30 + v))

/-- UNPACK (R182). -/
def execUnpack (tid step : Nat) (s : State) : Host.Outcome State Fault Refusal :=
  run (fun c => c.computeStep tid step 0x06 (fun t s => stepOf ((unpackDigits s.len (t.rd s.a ((s.len + 1) / 2))).map (dataOut s.d)))) s

/-- DECIMALIZE through a table of 16 digits (R182). -/
def decimalize (n : Nat) (a table : Bytes) : SR Bytes := do
  must (table.all (fun b => decide (b.toNat ≤ 9))) (.sub Sub.digitInvalid)
  return digitString ((nibs n a).map (fun v => byteAt v table))

/-- DECIMALIZE (R182). -/
def execDecimalize (tid step : Nat) (s : State) : Host.Outcome State Fault Refusal :=
  run (fun c => c.computeStep tid step 0x07 (fun t s =>
    stepOf ((decimalize s.len (t.rd s.a ((s.len + 1) / 2)) (t.rd s.b 16)).map (dataOut s.d)))) s

/-! ### CIPHER: encryption, MAC and KCV -/

/-- ENCRYPT and DECRYPT (R182, R297). -/
def Task.cipherStep (t : Task) (s : RStep) (encrypt : Bool) : SR StepRes := do
  let k ← t.keyAt s.ksel
  needUsage k [Usage.data]
  let n := blockBytes k.alg
  let mode := bits 3 0 s.arg
  let data := t.dataA s
  must (!wholeBlocks mode || data.length % n == 0) (.sub Sub.dataLength)
  let iv := if bit 4 s.arg then t.rd s.b n else zeros n
  return dataOut s.d (cipherMode (CKey.of k.alg k.key) mode encrypt iv data).1

/-- ENCRYPT (R182). -/
def execEncrypt (tid step : Nat) (s : State) : Host.Outcome State Fault Refusal :=
  run (fun c => c.computeStep tid step 0x20 (fun t s => stepOf (t.cipherStep s true))) s

/-- DECRYPT (R182). -/
def execDecrypt (tid step : Nat) (s : State) : Host.Outcome State Fault Refusal :=
  run (fun c => c.computeStep tid step 0x21 (fun t s => stepOf (t.cipherStep s false))) s

/-- MAC_GEN (R216). -/
def execMacGen (tid step : Nat) (s : State) : Host.Outcome State Fault Refusal :=
  run (fun c => c.computeStep tid step 0x22 (fun t s => stepOf (do
    let k ← t.keyAt s.ksel
    let m ← stepMac k s.arg (t.dataA s)
    return dataOut s.d m))) s

/-- MAC_VERIFY (R218). -/
def execMacVerify (tid step : Nat) (s : State) : Host.Outcome State Fault Refusal :=
  run (fun c => c.computeStep tid step 0x23 (fun t s => stepOf (do
    let k ← t.keyAt s.ksel
    let m ← stepMac k s.arg (t.dataA s)
    return testOut (m == t.rd s.b m.length)))) s

/-- KCV (R219). -/
def execKcv (tid step : Nat) (s : State) : Host.Outcome State Fault Refusal :=
  run (fun c => c.computeStep tid step 0x24 (fun t s => stepOf (do
    let k ← t.keyAt s.ksel
    needLeaf k
    needAlg k [0, 1, 2, 3, 4, 5]
    return dataOut s.d (kcvOf k.alg k.key)))) s

/-! ### CIPHER: PIN operations -/

/-- ARG[3:0]: format in. -/
def RStep.fin (s : RStep) : Nat := bits 3 0 s.arg
/-- ARG[7:4]: format out. -/
def RStep.fout (s : RStep) : Nat := bits 7 4 s.arg
/-- The fill area of R204. -/
def Task.fillOf (t : Task) (s : RStep) : Bytes := t.rd (imgRnd t.image + bits 13 8 s.arg) (fillLen s.fout)
/-- The PIN block at A. -/
def Task.blockA (t : Task) (s : RStep) : Bytes := t.rd s.a (pinBlockLen s.fin)
/-- The decimalization table of R211. -/
def Task.decTable (t : Task) : Bytes := cut 48 16 (imgConst t.image)

/-- PIN_TRANSLATE (R207). -/
def execPinTranslate (tid step : Nat) (s : State) : Host.Outcome State Fault Refusal :=
  run (fun c => c.computeStep tid step 0x30 (fun t s => stepOf (do
    let k1 ← t.keyAt s.ksel
    let k2 ← t.keyAt s.ksel2
    let b ← pinTranslate k1 k2 s.fin s.fout (t.blockA s) (t.rd s.b 10) (t.fillOf s)
    return dataOut s.d b))) s

/-- PIN_DECRYPT (R209). -/
def execPinDecrypt (tid step : Nat) (s : State) : Host.Outcome State Fault Refusal :=
  run (fun c => c.computeStep tid step 0x31 (fun t s => stepOf (do
    let k ← t.keyAt s.ksel
    let r ← pinDecrypt k s.fin (t.blockA s) (t.rd s.b 10)
    return dataOut s.d r))) s

/-- PIN_ENCRYPT (R203). -/
def execPinEncrypt (tid step : Nat) (s : State) : Host.Outcome State Fault Refusal :=
  run (fun c => c.computeStep tid step 0x32 (fun t s => stepOf (do
    let k ← t.keyAt s.ksel
    let b ← pinEncrypt k s.fout (t.rd s.a 16) (t.rd s.b 10) (t.fillOf s)
    return dataOut s.d b))) s

/-- PIN_VERIFY_OFFSET (R212). -/
def execPinVerifyOffset (tid step : Nat) (s : State) : Host.Outcome State Fault Refusal :=
  run (fun c => c.computeStep tid step 0x33 (fun t s => stepOf (do
    let k1 ← t.keyAt s.ksel
    let k2 ← t.keyAt s.ksel2
    let ok ← pinVerifyOffset k1 k2 s.fin (t.blockA s) (t.rd s.b 32) t.decTable
    return testOut ok))) s

/-- PIN_VERIFY_PVV (R213). -/
def execPinVerifyPvv (tid step : Nat) (s : State) : Host.Outcome State Fault Refusal :=
  run (fun c => c.computeStep tid step 0x34 (fun t s => stepOf (do
    let k1 ← t.keyAt s.ksel
    let k2 ← t.keyAt s.ksel2
    let (v, ref) ← pvvMethod k1 k2 s.fin (t.blockA s) (t.rd s.b 32) true
    return testOut (v == ref)))) s

/-- PIN_OFFSET_GEN (R212). -/
def execPinOffsetGen (tid step : Nat) (s : State) : Host.Outcome State Fault Refusal :=
  run (fun c => c.computeStep tid step 0x35 (fun t s => stepOf (do
    let k1 ← t.keyAt s.ksel
    let k2 ← t.keyAt s.ksel2
    let o ← pinOffsetGen k1 k2 s.fin (t.blockA s) (t.rd s.b 32) t.decTable
    return dataOut s.d o))) s

/-- PVV_GEN (R213). -/
def execPvvGen (tid step : Nat) (s : State) : Host.Outcome State Fault Refusal :=
  run (fun c => c.computeStep tid step 0x36 (fun t s => stepOf (do
    let k1 ← t.keyAt s.ksel
    let k2 ← t.keyAt s.ksel2
    let (v, _) ← pvvMethod k1 k2 s.fin (t.blockA s) (t.rd s.b 32) false
    return dataOut s.d (digitString v)))) s

/-! ### CIPHER: card verification, derivation, cryptograms and key blocks -/

/-- CVV_GEN (R215). -/
def execCvvGen (tid step : Nat) (s : State) : Host.Outcome State Fault Refusal :=
  run (fun c => c.computeStep tid step 0x38 (fun t s => stepOf (do
    let k ← t.keyAt s.ksel
    let v ← cvvOf k (bits 3 0 s.arg) (t.rd s.a 16)
    return dataOut s.d v))) s

/-- CVV_VERIFY (R215): the three digits at B are compared. -/
def execCvvVerify (tid step : Nat) (s : State) : Host.Outcome State Fault Refusal :=
  run (fun c => c.computeStep tid step 0x39 (fun t s => stepOf (do
    let k ← t.keyAt s.ksel
    let v ← cvvOf k (bits 3 0 s.arg) (t.rd s.a 16)
    let ref ← digitsOf 3 (t.rd s.b 2)
    return testOut (nibs 3 v == ref)))) s

/-- DUKPT_TDEA_DERIVE (R220 to R222). -/
def execDukptTdeaDerive (tid step : Nat) (s : State) : Host.Outcome State Fault Refusal :=
  run (fun c => c.computeStep tid step 0x3A (fun t s => stepOf (do
    let k ← t.keyAt s.ksel
    let (usage, key) ← dukptTdea k (bits 2 0 s.arg) (t.rd s.a 10)
    return keyOut s.d usage 0 false key))) s

/-- DUKPT_AES_DERIVE (R223 to R226). -/
def execDukptAesDerive (tid step : Nat) (s : State) : Host.Outcome State Fault Refusal :=
  run (fun c => c.computeStep tid step 0x3B (fun t s => stepOf (do
    let k ← t.keyAt s.ksel
    let (usage, key) ← dukptAes k (bits 3 0 s.arg) (bits 7 4 s.arg) (t.rd s.a 12)
    return keyOut s.d usage (bits 7 4 s.arg) false key))) s

/-- EMV_MK_DERIVE (R227). -/
def execEmvMkDerive (tid step : Nat) (s : State) : Host.Outcome State Fault Refusal :=
  run (fun c => c.computeStep tid step 0x3C (fun t s => stepOf (do
    let k ← t.keyAt s.ksel
    let key ← emvMk k (bit 0 s.arg) (t.rd s.a 10) (t.rd s.b 1)
    return keyOut s.d Usage.cardMk k.alg false key))) s

/-- EMV_SK_DERIVE (R228). -/
def execEmvSkDerive (tid step : Nat) (s : State) : Host.Outcome State Fault Refusal :=
  run (fun c => c.computeStep tid step 0x3D (fun t s => stepOf (do
    let k ← t.keyAt s.ksel
    let key ← emvSk k (bits 1 0 s.arg) (t.rd s.a 2) (t.rd s.b 4)
    return keyOut s.d Usage.cardSk k.alg false key))) s

/-- ARQC_VERIFY (R229). -/
def execArqcVerify (tid step : Nat) (s : State) : Host.Outcome State Fault Refusal :=
  run (fun c => c.computeStep tid step 0x3E (fun t s => stepOf (do
    let k ← t.keyAt s.ksel
    let ok ← arqcVerify k (bits 1 0 s.arg) (t.dataA s) (t.rd s.b 8)
    return testOut ok))) s

/-- ARPC_GEN (R230). -/
def execArpcGen (tid step : Nat) (s : State) : Host.Outcome State Fault Refusal :=
  run (fun c => c.computeStep tid step 0x3F (fun t s => stepOf (do
    let k ← t.keyAt s.ksel
    let v ← arpcOf k (bits 0 0 s.arg) (t.rd s.a 8) (t.rd s.b 2) (t.rd s.b 4)
    return dataOut s.d v))) s

/-- The keys and checks of KEYBLOCK_WRAP (R234). -/
def Task.wrapKeys (t : Task) (s : RStep) : SR (Ctx × Ctx) := do
  let kek ← t.keyAt s.ksel
  let key ← t.keyAt s.ksel2
  kbWrapChecks kek key (t.rd s.b 16) s.len
  return (kek, key)

/-- KEYBLOCK_WRAP's result: the padding is drawn when the step runs (R234). -/
def Core.wrapStep (c : Core) (tid step : Nat) (t : Task) (s : RStep) : Core × Option StepRes :=
  match t.wrapKeys s with
  | .error o => (c, some { out := o })
  | .ok (kek, key) =>
    let h := t.rd s.b 16
    let n := kbPad (byteAt 0 h) key
    match c.drawAt tid step n t with
    | .wait => (c.awaitDraw tid step n, none)
    | .stopped => ({ c with r := { c.r with entRefused := sat 16 (c.r.entRefused + 1) } }, some { out := .fail Status.entropyUnavailable })
    | .got pad c => (c, some (dataOut s.d (kbWrap kek key h pad)))

/-- KEYBLOCK_WRAP (R234). -/
def execKeyblockWrap (tid step : Nat) (s : State) : Host.Outcome State Fault Refusal :=
  run (fun c => c.compute tid step (isOp 0x40) (fun c t s => c.wrapStep tid step t s)) s

/-- KEYBLOCK_UNWRAP (R235). -/
def execKeyblockUnwrap (tid step : Nat) (s : State) : Host.Outcome State Fault Refusal :=
  run (fun c => c.computeStep tid step 0x41 (fun t s => stepOf (do
    let k ← t.keyAt s.ksel
    let (usage, alg, exportable, key) ← kbUnwrap k (t.rd s.a s.len) s.len (some (bits 7 0 s.arg))
    return keyOut s.d usage alg exportable key))) s

/-! ### HASH -/

/-- HASH (R182). -/
def execHash (tid step : Nat) (s : State) : Host.Outcome State Fault Refusal :=
  run (fun c => c.computeStep tid step 0x50 (fun t s => dataOut s.d (hashOf (bits 1 0 s.arg) (t.dataA s)))) s

/-- HMAC (R182, R197). -/
def execHmac (tid step : Nat) (s : State) : Host.Outcome State Fault Refusal :=
  run (fun c => c.computeStep tid step 0x51 (fun t s => stepOf (do
    let k ← t.keyAt s.ksel
    needUsage k [Usage.mac]
    needAlg k [2, 3, 4, 5]
    return dataOut s.d ((hmacOf (bits 1 0 s.arg) k.key (t.dataA s)).take (bits 10 4 s.arg))))) s

/-- KDF (R480). -/
def execKdf (tid step : Nat) (s : State) : Host.Outcome State Fault Refusal :=
  run (fun c => c.computeStep tid step 0x52 (fun t s => stepOf (do
    let k ← t.keyAt s.ksel
    needUsage k [Usage.kdk]
    needAlg k [4, 5]
    let alg := bits 3 0 s.arg
    let usage := bits 7 4 s.arg
    let key := kdf108 k.key (t.rd s.a s.len) usage alg (algBits alg)
    return keyOut s.d usage alg false (if isTdea alg then oddParity key else key)))) s

/-! ### KEYRES -/

/-- What a handle tray's resolution counts: one use, and the invocations of the steps that select the tray (R256, R312). -/
def Task.trayUses (t : Task) (s : RStep) : Uses :=
  { use := true, random := 0, counter := ((imgStepList t.image).filter (·.ctrUse (0x10 + s.d / 32))).length }

/-- Resolves a handle into the handle tray at D, on the resolver that runs the step (R183, R247, R249), with the outcome of a resolution. -/
def Core.resolveStep (c : Core) (tid k : Nat) (t : Task) (s : RStep) (h : Nat) (out : StepOut) : Core × Option StepRes :=
  let half := match c.eng.runner tid k with
    | some (cls, n) => engineHalf c.g.variant cls n
    | none => clusterHalf t.cluster
  match c.resolve (tid, 16 + k) h t.domain t.port half (t.trayUses s) with
  | .wait c => (c, none)
  | .fail e => (c.unqueue (tid, 16 + k), some { out := .fail e.status })
  | .ok c x => (c, some { out := out, writes := [(s.d, leBytes 8 h)], ctx := some (0x10 + s.d / 32, x) })

/-- RESOLVE (R183, R247). -/
def execResolve (tid step : Nat) (s : State) : Host.Outcome State Fault Refusal :=
  run (fun c => c.compute tid step (isOp 0x70) (fun c t s => c.resolveStep tid step t s (leNat (t.rd s.a 6)) .plain)) s

/-- RESOLVE_SET's member (R262): its handle, or the outcome. -/
def Core.setMember (c : Core) (t : Task) (s : RStep) : SR Nat := do
  let r := leNat (t.rd s.a 8)
  must (bit 47 r) (.miss Sub.memberEmpty)
  match Table.find (bits 17 0 r) c.cc.kt.sets with
  | none => .error (.miss Sub.memberEmpty)
  | some set => do
    must (set.domain == t.domain) (.sub Sub.domainMismatch)
    let h := set.members.getD (bits 2 0 s.arg) 0
    must (h != 0) (.miss Sub.memberEmpty)
    return h

/-- RESOLVE_SET (R262): a member that resolves is the TRUE outcome of this miss-capable step (R187). -/
def execResolveSet (tid step : Nat) (s : State) : Host.Outcome State Fault Refusal :=
  run (fun c => c.compute tid step (isOp 0x71) (fun c t s =>
    match c.setMember t s with
    | .error o => (c, some { out := o })
    | .ok h => c.resolveStep tid step t s h .yes)) s

/-! ### EMIT -/

/-- EMIT (R192): a recipe's step hands its operand to destination staging at ARG; the EMIT step of a PK_DIRECT task hands over the output of its BN step (R320). -/
def execEmit (tid step : Nat) (s : State) : Host.Outcome State Fault Refusal :=
  run (fun c => c.compute tid step (fun t s => t.stepClass step == some 6 && (t.opclass == clsPk || isOp 0x90 t s)) (fun c t s =>
    (c, some (if t.opclass = clsPk then { emit := [(0, t.out)], res1 := some t.out.length }
              else { emit := [(s.arg, t.dataA s)] })))) s

end Sys2Proof.Machine
end

