-- ==== Sys2Proof/Machine/Bulk.lean ====
section
/-! DEFINITION. The BULK operations (R301 to R309): each command is the work of the task's present segment. -/

namespace Sys2Proof.Machine

/-! ### Segments -/

/-- The bytes of the present segment: the first that the work area holds. -/
def Task.bkSeg (t : Task) : Bytes := t.work.take t.bkSegLen

/-- Bytes of the IV or nonce field of the destination (R301). -/
def Task.bkField (t : Task) : Nat := if t.bkIvsrc = 1 then 16 else 0

/-- A BULK operation of a code. -/
def bulkIs (op : Nat) (t : Task) (_ : RStep) : Bool := t.opclass == clsBulk && t.opcode == op

/-- An IV or nonce (R302, R308, R309): inline, zero, or as drawn when the first segment was dispatched; none while that draw waits. -/
def Core.bulkIv (c : Core) (tid : Nat) (t : Task) (k : Ctx) : Core × Option Bytes :=
  if t.bkIvsrc = 0 then (c, some (t.inline.take (t.ivBytes k)))
  else if t.bkIvsrc = 2 then (c, some (zeros (t.ivBytes k)))
  else if !t.rnd.isEmpty then (c, some t.rnd)
  else
    match (Table.find 32 t.draws).bind (·.data) with
    | some b => (c.updTask tid (fun t => { t with rnd := b, draws := Table.del 32 t.draws }), some b)
    | none => (c, none)

/-- A segment that works under KEY0. -/
def Core.bulkKeyed (c : Core) (tid op : Nat) (f : Task → Ctx → Bytes → StepRes) : Core :=
  c.compute tid 0 (bulkIs op) (fun c t _ =>
    match t.ksel 1 with
    | none => (c, some { out := .ends Status.keyNotFound 0 })
    | some k =>
      match c.bulkIv tid t k with
      | (c, none) => (c, none)
      | (c, some iv) => (c, some (f t k iv)))

/-- The IV field that begins the destination when the IV is generated (R301). -/
def Task.ivField (t : Task) (iv : Bytes) : List (Nat × Bytes) :=
  if t.bkIvsrc = 1 ∧ t.seg = 0 then [(0, cut 0 16 iv)] else []

/-! ### Encryption and decryption -/

/-- A segment of BK_ENCRYPT or BK_DECRYPT. -/
def Task.bkCipher (encrypt : Bool) (t : Task) (k : Ctx) (iv : Bytes) : StepRes :=
  let iv := if t.bkMode = 0 then zeros (blockBytes k.alg) else iv
  let r := cipherMode (CKey.of k.alg k.key) t.bkMode encrypt (if t.seg = 0 then iv else t.chain) t.bkSeg
  { emit := t.ivField iv ++ [(t.bkField + t.bkAt, r.1)]
    chain := r.2
    res0 := some 0
    res1 := if t.bkLast then some (t.bkField + t.srcLen) else none
    last := t.bkLast }

/-- BK_ENCRYPT (R301). -/
def execBkEncrypt (tid : Nat) (s : State) : Host.Outcome State Fault Refusal :=
  run (fun c => c.bulkKeyed tid 0x500 (Task.bkCipher true)) s

/-- BK_DECRYPT (R301). -/
def execBkDecrypt (tid : Nat) (s : State) : Host.Outcome State Fault Refusal :=
  run (fun c => c.bulkKeyed tid 0x501 (Task.bkCipher false)) s

/-! ### GCM -/

/-- The hash key of GHASH. -/
def CKey.ghashKey (k : CKey) : Nat := beNat (k.enc (zeros 16))

/-- The GHASH accumulator after the present segment's additional data, zero-padded to whole blocks at its end, and the one before its data. -/
def Task.gcmAad (t : Task) (k : CKey) : Nat :=
  ghashOver k.ghashKey (if t.seg = 0 ∧ !t.pass2 then 0 else beNat t.chain) (t.bkSeg.take t.bkSegAad)

/-- The data of the present segment. -/
def Task.gcmData (t : Task) : Bytes := t.bkSeg.drop t.bkSegAad

/-- The accumulator after the present segment's ciphertext. -/
def Task.gcmAcc (t : Task) (k : CKey) (ct : Bytes) : Nat := ghashOver k.ghashKey (t.gcmAad k) ct

/-- What a segment hands on: the accumulator, and with the last additional data the one from which pass 2 goes on. -/
def Task.gcmChain (t : Task) (k : CKey) (ct : Bytes) : StepRes :=
  { chain := beBytes 16 (t.gcmAcc k ct), aad := if t.seg = t.bkAadSegs ∧ !t.pass2 then some (beBytes 16 (t.gcmAad k)) else none }

/-- The final GHASH value from the accumulator. -/
def Task.gcmEnd (t : Task) (k : CKey) (acc : Nat) : Bytes :=
  beBytes 16 (ghashMul (acc ^^^ (8 * t.bkAad * 2 ^ 64 + 8 * t.bkBytes)) k.ghashKey)

/-- Number of the block of the message with which the present segment begins. -/
def Task.gcmBlock (t : Task) : Nat := t.bkAt / 16

/-- A segment of BK_GCM_SEAL. -/
def Task.bkSeal (t : Task) (x : Ctx) (nonce : Bytes) : StepRes :=
  let k := CKey.of x.alg x.key
  let ct := gcmCrypt k nonce t.gcmBlock t.gcmData
  let body := t.ivField nonce ++ [(t.bkField + t.bkAt, ct)]
  if t.bkLast then
    { emit := body ++ [(t.bkField + t.bkBytes, (gcmTag k nonce (t.gcmEnd k (t.gcmAcc k ct))).take t.bkTlen)]
      res0 := some 0
      res1 := some (t.bkField + t.bkBytes + t.bkTlen)
      last := true }
  else { t.gcmChain k ct with emit := body }

/-- BK_GCM_SEAL (R301). -/
def execBkGcmSeal (tid : Nat) (s : State) : Host.Outcome State Fault Refusal :=
  run (fun c => c.bulkKeyed tid 0x502 Task.bkSeal) s

/-- A tag failure: nothing has been written (R306, R307). -/
def tagFails : StepRes := { out := .ends Status.authFail 0x510, res0 := some 0, res1 := some 0 }

/-- A segment of BK_GCM_OPEN: held output up to 65,536 bytes (R306), two passes above (R307). -/
def Task.bkOpen (t : Task) (x : Ctx) (nonce : Bytes) : StepRes :=
  let k := CKey.of x.alg x.key
  let on := t.gcmChain k t.gcmData
  let gh := t.gcmEnd k (t.gcmAcc k t.gcmData)
  let good := (gcmTag k nonce gh).take t.bkTlen == t.tagIn
  let pt := gcmCrypt k nonce t.gcmBlock t.gcmData
  if !t.bkTwoPass then
    if !t.bkLast then { on with keep := pt }
    else if !good then tagFails
    else { emit := [(0, t.plain ++ pt)], res0 := some 0, res1 := some t.bkBytes, last := true }
  else if !t.pass2 then
    if !t.bkLast then on
    else if !good then tagFails
    else { on with chain := gh }
  else if !t.bkLast then { on with emit := [(t.bkAt, pt)] }
  else if gh == t.tag1 then { emit := [(t.bkAt, pt)], res0 := some 0, res1 := some t.bkBytes, last := true }
  else { out := .ends Status.authFail 0x511, emit := [(t.bkAt, pt)], res0 := some 0, res1 := some 0 }

/-- BK_GCM_OPEN (R301). -/
def execBkGcmOpen (tid : Nat) (s : State) : Host.Outcome State Fault Refusal :=
  run (fun c => c.bulkKeyed tid 0x503 Task.bkOpen) s

/-! ### MAC, hash and HMAC -/

/-- A segment of a MAC, hash or HMAC: the chain moves on; at the last one a generated value with its first 8 bytes in RESULT0, or a comparison with the expected inline value. -/
def Task.bkValue (t : Task) (v : Bytes) : StepRes :=
  if !t.bkLast then { chain := v }
  else if t.bkVerify then
    { out := if v == t.inline.take t.bkTlen then .plain else .ends Status.verifyFail 0, res0 := some 0, res1 := some 0, last := true }
  else { emit := [(0, v)], res0 := some (leNat (cut 0 8 v)), res1 := some v.length, last := true }

/-- A segment of the MAC of R216. -/
def Task.bkMac (t : Task) (x : Ctx) (_ : Bytes) : StepRes :=
  let v := macPart x.alg x.key t.bkMode t.bkPad t.bkBytes (t.seg == 0) t.bkLast t.chain t.bkSeg
  t.bkValue (if t.bkLast then v.take t.bkTlen else v)

/-- BK_MAC_GEN (R301). -/
def execBkMacGen (tid : Nat) (s : State) : Host.Outcome State Fault Refusal :=
  run (fun c => c.bulkKeyed tid 0x504 Task.bkMac) s

/-- BK_MAC_VERIFY (R301). -/
def execBkMacVerify (tid : Nat) (s : State) : Host.Outcome State Fault Refusal :=
  run (fun c => c.bulkKeyed tid 0x505 Task.bkMac) s

/-- A segment of the hash of the data. -/
def Task.bkHashStep (t : Task) : StepRes :=
  let v := hashPart t.bkMode (if t.seg = 0 then hashStart t.bkMode else t.chain) t.bkSeg
  t.bkValue (if t.bkLast then hashFinish t.bkMode t.bkBytes v else v)

/-- BK_HASH (R301). -/
def execBkHash (tid : Nat) (s : State) : Host.Outcome State Fault Refusal :=
  run (fun c => c.compute tid 0 (bulkIs 0x506) (fun c t _ => (c, some t.bkHashStep))) s

/-- A segment of the HMAC of the data. -/
def Task.bkHmac (t : Task) (x : Ctx) (_ : Bytes) : StepRes :=
  let v := hashPart t.bkMode (if t.seg = 0 then hmacStart t.bkMode x.key else t.chain) t.bkSeg
  t.bkValue (if t.bkLast then (hmacFinish t.bkMode t.bkBytes x.key v).take t.bkTlen else v)

/-- BK_HMAC_GEN (R301). -/
def execBkHmacGen (tid : Nat) (s : State) : Host.Outcome State Fault Refusal :=
  run (fun c => c.bulkKeyed tid 0x507 Task.bkHmac) s

/-- BK_HMAC_VERIFY (R301). -/
def execBkHmacVerify (tid : Nat) (s : State) : Host.Outcome State Fault Refusal :=
  run (fun c => c.bulkKeyed tid 0x508 Task.bkHmac) s

end Sys2Proof.Machine
end

