-- ==== Sys2Proof/Machine/Custody.lean ====
section
/-! DEFINITION. Custody state: custodian groups (R271 to R274), challenges and tokens (R275 to R278), the token store's check of a sensitive command (R279 to R281), the unit's own keys and what they sign (R263, R283, R284, R432), and the glaze of custody commits (R280). -/

namespace Sys2Proof.Machine

/-! ### Groups (R271) -/

/-- Number of the unit group in custody commands. -/
def unitGroup : Nat := 0xFFFF

/-- A custodian group. -/
def Custody.group (k : Custody) (g : Nat) : Group := Table.findD g {} k.groups
/-- Changes a custodian group. -/
def Custody.updGroup (k : Custody) (g : Nat) (f : Group → Group) : Custody :=
  { k with groups := Table.putD g (f (k.group g)) {} k.groups }
/-- Custodians enrolled. -/
def Group.count (g : Group) : Nat := g.keys.length

/-- Changes custody state in the active complex. -/
def Core.updCust (c : Core) (f : Custody → Custody) : Core := c.updCC (fun s => { s with cust := f s.cust })

/-- The ports that hear of a group's matters: port 0 for the unit group, the domain's mask otherwise (R295). -/
def Core.groupPorts (c : Core) (g : Nat) : Nat := if g < 4096 then c.domainPorts g else 1

/-! ### Challenges and tokens -/

/-- The outstanding challenges that have not expired. -/
def Custody.openChallenges (k : Custody) (now : W48) : Table Challenge := k.challenges.filter (fun e => later e.2.expiry now)

/-- The slot of an outstanding challenge of a value. -/
def Custody.challengeOf (k : Custody) (now : W48) (v : Bytes) : Option (Nat × Challenge) :=
  (k.openChallenges now).find? (fun e => e.2.value == v)

/-- A challenge is used up. -/
def Custody.spend (k : Custody) (slot : Nat) : Custody := { k with challenges := Table.del slot k.challenges }

/-- The tokens whose challenge has not expired. -/
def Custody.validTokens (k : Custody) (now : W48) : List Token := k.tokens.filter (fun t => later t.expiry now)

/-- Valid tokens of a group for a digest. -/
def Custody.tokensFor (k : Custody) (now : W48) (group : Nat) (digest : Bytes) : Nat :=
  ((k.validTokens now).filter (fun t => t.group == group && t.digest == digest)).length

/-- Drops the tokens of a custodian who is removed (R278). -/
def Custody.dropTokens (k : Custody) (group position : Nat) : Custody :=
  { k with tokens := k.tokens.filter (fun t => !(t.group == group && t.position == position)) }

/-- What every custody object begins with (R276, R284): magic and unit serial. -/
def Core.ourSerial (c : Core) (object : Bytes) (at' : Nat) : Bool := cut at' 12 object == c.serialBytes

/-- Refuses a custody object with AUTH_FAIL: source 129 tells the group's ports. -/
def Core.authFail (c : Core) (group detail : Nat) : Stop :=
  .refused (c.edge (c.groupPorts group) 129) (Status.authFail, detail)

/-- Orders 3 to 6 of R278 for an object that names a group, a position and a challenge, and is signed over its first n bytes under a key: what remains is the state with the challenge used up, and the challenge. -/
def Core.checkObject (c : Core) (o : Bytes) (group position n : Nat) (challenge : Bytes) (key : Option Bytes) : Op (Core × Challenge) :=
  if !c.ourSerial o 4 then .error (c.authFail group 0x303)
  else
    match c.cc.cust.challengeOf c.now challenge with
    | none => .error (c.authFail group 0x304)
    | some (slot, ch) =>
      let c := c.updCust (·.spend slot)
      match key.or (Table.find position (c.cc.cust.group group).keys) with
      | none => .error (c.authFail group 0x305)
      | some k =>
        if p384Valid ((4 : Byte) :: k) && p384Verify ((4 : Byte) :: k) (o.take n) (cut n 96 o) then .ok (c, ch)
        else .error (c.authFail group 0x306)

/-! ### Command digest (R277) and the gate of sensitive commands (R279) -/

/-- The command digest of a descriptor and its source. -/
def Task.commandDigest (t : Task) (source : Bytes) : Bytes :=
  let e := cut 0 64 t.entry
  let e := patch 1 [byte (t.eflags &&& 0xF1)] e
  let e := patch 32 (zeros 16) (patch 4 (zeros 8) e)
  sha384 (e ++ (if t.ext then cut 64 64 t.entry else []) ++ source)

/-- The quorum of a group for a command's digest: met, it consumes every token of the digest; otherwise the command ends with CUSTODY_REQUIRED. -/
def Core.gate (c : Core) (group : Nat) (digest : Bytes) : Op Core :=
  let k := (c.cc.cust.group group).quorum
  let n := c.cc.cust.tokensFor c.now group digest
  if k ≤ n then
    .ok ((c.updCust (fun x => { x with tokens := x.tokens.filter (fun t => t.digest != digest) })).edge (c.groupPorts group) 130)
  else .error (.refused (c.edge (c.groupPorts group) 131) (Status.custodyRequired, k * 256 + n))

/-- The gate of a task's own command. -/
def Core.gateTask (c : Core) (t : Task) (group : Nat) : Op Core := c.gate group (t.commandDigest t.source)

/-! ### The unit's own keys -/

/-- A private scalar of P-384 from 48 bytes of a derivation. -/
def p384Scalar (b : Bytes) : Nat := beNat b % (p384.n - 1) + 1

/-- Private scalar of the attestation key. -/
def Core.attSecret (c : Core) : Nat := p384Scalar (Config.attestationSecret c.lcs.attSeed)
/-- Attestation public key X ‖ Y. -/
def Core.attPublic (c : Core) : Bytes := (p384.publicKey c.attSecret).drop 1
/-- Private scalar of the transport key (R283). -/
def Core.transportSecret (c : Core) : Nat := p384Scalar (Config.transportSecret c.lcs.l0)
/-- Transport public key X ‖ Y. -/
def Core.transportPublic (c : Core) : Bytes := (p384.publicKey c.transportSecret).drop 1

/-- Fresh random bytes of the Fondant. -/
def Core.fondant (c : Core) : Bytes × Core := (Config.fondantRandom c.free, { c with free := c.free + 1 })

/-- Signs a message under the attestation key: the message and its signature. -/
def Core.attest (c : Core) (m : Bytes) : Bytes × Core :=
  let (x, c) := c.fondant
  (m ++ p384Sign c.attSecret m x, c)

/-- The identity digest (R432). -/
def Core.identityDigest (c : Core) : Bytes := sha384 (c.serialBytes ++ c.attPublic)

/-- The transport KDF (R284) over a shared x-coordinate. -/
def transportKdf (z label context : Bytes) : Bytes :=
  (hmacOf 1 z ([1] ++ label ++ [0] ++ context ++ [1, 0])).take 32

/-! ### Who may submit -/

/-- A command of port 0 alone (R281). -/
def Core.portZero (c : Core) (t : Task) : Op Unit := need c (t.port == 0) c.modeRefused

/-- A command of the ports in a domain's mask (R265, R281). -/
def Core.domainPort (c : Core) (t : Task) (d : Nat) : Op Unit := need c (c.domainAllowed d t.port) (Status.keyUseDenied, 0x208)

/-- REQUEST_FORMAT (R268). -/
def requestFormat : Ended := (Status.inputFormat, 0x201)

/-- The form of an operation: PARAM within a mask, KEY0 and KEY1 only where it takes them, the length of its source and the room it needs. -/
def Task.formOk (t : Task) (mask : Nat) (key0 key1 : Bool) (src : Option Nat) (dst : Nat) : Bool :=
  (t.param &&& mask) == t.param && (key0 || t.key0 == 0) && (key1 || t.key1 == 0) &&
    (match src with
     | some n => t.srcLen == n
     | none => true) && (decide (dst ≤ t.dstLen) || t.port == 4)

/-! ### Flash (R274, R280) -/

/-- What flash keeps of custody state: groups, quorums, fleet enrolment and the transfer counter's mark. -/
def Custody.kept (k : Custody) : Custody := { k with tokens := [], challenges := [], sessions := [] }

/-- Custody state as WAKE finds it: the transfer counter stands at its mark (R290). -/
def Custody.woken (k : Custody) : Custody := { k.kept with xfer := k.xferMark }

/-- What the glaze of an epoch releases: custody state is written to flash, and the operations that changed it complete (R280). -/
def Core.glazeCustody (c : Core) : Core :=
  let c := { c with flash := { c.flash with cust := c.mirror.cust.kept } }
  let ready := (c.cc.tasks.filter (fun e => e.2.st == .committing && e.2.commitEpoch != 0 && decide (e.2.commitEpoch ≤ c.cont.glazed))).map (·.1)
  ready.foldl (fun c tid => (c.updTask tid (fun t => { t with st := .ending })).tryRetire tid) c

end Sys2Proof.Machine
end

