-- ==== Sys2Proof/Machine/Lattice.lean ====
section
/-! DEFINITION. The lattice schemes that R323, R325 and R333 name: ML-DSA-65 of FIPS 204 and ML-KEM-768 of FIPS 203. The spec cites the two standards and restates neither, so the algorithms here are PRESUMED from the standards (safe where the standards fix them: they fix every byte). Rejection loops run by fuel of at least the iteration limits that the standards' own appendices give for an implementation that bounds them. -/

namespace Sys2Proof.Machine

/-! ### SHA-3 sponges -/

/-- A message padded for a sponge of rate r with domain byte dom. -/
def spongePad (r : Nat) (dom : Byte) (m : Bytes) : Bytes :=
  let p := m ++ [dom] ++ zeros (r - 1 - m.length % r)
  patch (p.length - 1) [p.getD (p.length - 1) 0 ||| 0x80] p

/-- The state of a sponge after absorbing. -/
def absorb (r : Nat) (dom : Byte) (m : Bytes) : Bytes :=
  (chunks r (spongePad r dom m)).foldl (fun s b => keccakF (xorB s (b ++ zeros (200 - r)))) (zeros 200)

/-- So many blocks of output. -/
def squeezeF (r : Nat) : Nat → Bytes → Bytes
  | 0, _ => []
  | f + 1, s => s.take r ++ squeezeF r f (keccakF s)

/-- n bytes of SHAKE128. -/
def shake128 (m : Bytes) (n : Nat) : Bytes := (squeezeF 168 (ceilDiv n 168) (absorb 168 0x1F m)).take n
/-- n bytes of SHAKE256. -/
def shake256 (m : Bytes) (n : Nat) : Bytes := (squeezeF 136 (ceilDiv n 136) (absorb 136 0x1F m)).take n
/-- SHA3-512. -/
def sha3_512 (m : Bytes) : Bytes := (absorb 72 0x06 m).take 64

/-! ### Polynomials of 256 coefficients modulo q -/

/-- A polynomial: 256 coefficients, lowest first. -/
abbrev Poly := List Nat

/-- The zero polynomial. -/
def polyZero : Poly := List.replicate 256 0

/-- Sum modulo q. -/
def polyAdd (q : Nat) (a b : Poly) : Poly := List.zipWith (fun x y => (x + y) % q) a b
/-- Difference modulo q. -/
def polySub (q : Nat) (a b : Poly) : Poly := List.zipWith (fun x y => (x + q - y) % q) a b
/-- Product of coefficients, one by one, modulo q. -/
def polyDot (q : Nat) (a b : Poly) : Poly := List.zipWith (fun x y => x * y % q) a b

/-- The transform: X^(2n) - z^e splits into X^n - z^(e/2) and X^n - z^(e/2 + o/2), for a root z of order o; so many levels. -/
def nttF (q z o : Nat) : Nat → Nat → Poly → Poly
  | 0, _, l => l
  | n + 1, e, l =>
    let h := l.length / 2
    let w := powMod z (e / 2) q
    let a := l.take h
    let b := (l.drop h).map (fun x => w * x % q)
    nttF q z o n (e / 2) (polyAdd q a b) ++ nttF q z o n (e / 2 + o / 2) (polySub q a b)

/-- The inverse transform, but for the factor two of every level. -/
def invNttF (q z o : Nat) : Nat → Nat → Poly → Poly
  | 0, _, l => l
  | n + 1, e, l =>
    let h := l.length / 2
    let w := powMod z (o - e / 2) q
    let a := invNttF q z o n (e / 2) (l.take h)
    let b := invNttF q z o n (e / 2 + o / 2) (l.drop h)
    polyAdd q a b ++ (polySub q a b).map (fun x => w * x % q)

/-- The rows of a matrix by a vector, each row summed by a product of two polynomials. -/
def matVec (q : Nat) (mul : Poly → Poly → Poly) (m : List (List Poly)) (v : List Poly) : List Poly :=
  m.map (fun (row : List Poly) => (List.zipWith mul row v).foldl (polyAdd q) polyZero)

/-- The bits of a string, each byte's lowest first. -/
def bitsOf (b : Bytes) : List Nat := (b.map (fun (x : Byte) => (List.range 8).map (fun i => b2n (x.toNat.testBit i)))).flatten

/-- Integers of w bits each packed one after another, lowest bit first. -/
def packW (w : Nat) (l : List Nat) : Bytes :=
  leBytes (l.length * w / 8) (l.foldr (fun x acc => x % 2 ^ w + 2 ^ w * acc) 0)

/-- The integers of w bits of a packed string. -/
def unpackW (w : Nat) (b : Bytes) : List Nat :=
  let v := leNat b
  (List.range (b.length * 8 / w)).map (fun i => v / 2 ^ (w * i) % 2 ^ w)

/-! ### ML-DSA-65 (FIPS 204) -/

/-- The modulus of ML-DSA. -/
def dsaQ : Nat := 8380417

/-- NTT of ML-DSA. -/
def dsaNtt (p : Poly) : Poly := nttF dsaQ 1753 512 8 256 p
/-- Inverse NTT of ML-DSA. -/
def dsaInv (p : Poly) : Poly :=
  let f := invMod 256 dsaQ
  (invNttF dsaQ 1753 512 8 256 p).map (fun x => f * x % dsaQ)
/-- Product of an NTT-domain pair, back in the plain domain. -/
def dsaMul (a b : Poly) : Poly := dsaInv (polyDot dsaQ a b)

/-- A signed integer modulo q. -/
def dsaOf (x : Int) : Nat := (x % dsaQ).toNat
/-- The centred value of a coefficient. -/
def dsaCentre (x : Nat) : Int := if x ≤ dsaQ / 2 then x else (x : Int) - dsaQ
/-- Whether every coefficient of a vector lies below a bound in absolute value. -/
def dsaBelow (b : Nat) (v : List Poly) : Bool := v.all (fun (p : Poly) => p.all (fun x => decide ((dsaCentre x).natAbs < b)))

/-- RejNTTPoly: a polynomial of the NTT domain from a 34-byte seed. -/
def dsaRejNtt (seed : Bytes) : Poly :=
  ((chunks 3 (shake128 seed 1176)).filterMap (fun (b : Bytes) =>
    let v := byteAt 2 b % 128 * 65536 + byteAt 1 b * 256 + byteAt 0 b
    if v < dsaQ then some v else none)).take 256

/-- RejBoundedPoly: coefficients from -4 to 4 from a 66-byte seed. -/
def dsaRejBounded (seed : Bytes) : Poly :=
  (((shake256 seed 544).map (fun (b : Byte) => [b.toNat % 16, b.toNat / 16])).flatten.filterMap (fun (z : Nat) =>
    if z < 9 then some (dsaOf (4 - (z : Int))) else none)).take 256

/-- ExpandA: six rows of five polynomials. -/
def dsaMatrix (rho : Bytes) : List (List Poly) :=
  (List.range 6).map (fun r => (List.range 5).map (fun c => dsaRejNtt (rho ++ [byte c, byte r])))

/-- Power2Round, high part. -/
def dsaT1 (t : Nat) : Nat := (t + 4095) / 8192
/-- Decompose: the high part and the centred low part for twice gamma2 = 523,776. -/
def dsaDecompose (r : Nat) : Nat × Int :=
  let m := r % 523776
  let r0 : Int := if m ≤ 261888 then m else (m : Int) - 523776
  let d := ((r : Int) - r0).toNat
  if d = dsaQ - 1 then (0, r0 - 1) else (d / 523776, r0)
/-- HighBits. -/
def dsaHigh (r : Nat) : Nat := (dsaDecompose r).1

/-- A vector from an NTT-domain matrix and a plain vector. -/
def dsaProduct (m : List (List Poly)) (v : List Poly) : List Poly :=
  (matVec dsaQ (polyDot dsaQ) m (v.map dsaNtt)).map dsaInv

/-- What a key-generation seed expands to. -/
structure DsaKey where
  /-- Public seed. -/
  rho : Bytes
  /-- Signing seed. -/
  k : Bytes
  /-- Secret vectors. -/
  s1 : List Poly
  /-- Secret vectors. -/
  s2 : List Poly
  /-- The public vector t. -/
  t : List Poly

/-- KeyGen from a 32-byte seed. -/
def dsaKeyGen (xi : Bytes) : DsaKey :=
  let h := shake256 (xi ++ [6, 5]) 128
  let rho := h.take 32
  let part (r : Nat) : Poly := dsaRejBounded (cut 32 64 h ++ leBytes 2 r)
  let s1 := (List.range 5).map part
  let s2 := (List.range 6).map (fun r => part (5 + r))
  { rho := rho, k := h.drop 96, s1 := s1, s2 := s2, t := List.zipWith (polyAdd dsaQ) (dsaProduct (dsaMatrix rho) s1) s2 }

/-- The public key of an expanded key. -/
def DsaKey.pub (k : DsaKey) : Bytes := k.rho ++ (k.t.map (fun (p : Poly) => packW 10 (p.map dsaT1))).flatten

/-- The public key of a seed. -/
def mldsaPublic (seed : Bytes) : Bytes := (dsaKeyGen seed).pub

/-- The message representative of a message with an empty context under a public key. -/
def dsaMu (pub msg : Bytes) : Bytes := shake256 (shake256 pub 64 ++ [0, 0] ++ msg) 64

/-- SampleInBall over the bytes after the sign bits: the indices still to place with their signs, by fuel. -/
def dsaBallF : Nat → List Bool → Nat → Bytes → Poly → Poly
  | 0, _, _, _, p => p
  | _ + 1, [], _, _, p => p
  | _ + 1, _, _, [], p => p
  | f + 1, s :: ss, i, b :: bs, p =>
    if b.toNat ≤ i then
      dsaBallF f ss (i + 1) bs ((p.set i (p.getD b.toNat 0)).set b.toNat (if s then dsaQ - 1 else 1))
    else dsaBallF f (s :: ss) i bs p

/-- SampleInBall: 49 coefficients of plus or minus one. -/
def dsaBall (ct : Bytes) : Poly :=
  let x := shake256 ct 408
  dsaBallF 400 ((List.range 49).map (fun i => (leNat (x.take 8)).testBit i)) 207 (x.drop 8) polyZero

/-- The challenge of a commitment vector. -/
def dsaChallenge (mu : Bytes) (w1 : List Poly) : Bytes := shake256 (mu ++ (w1.map (packW 4)).flatten) 48

/-- ExpandMask: five polynomials with coefficients from -(2^19 - 1) to 2^19. -/
def dsaMask (rho2 : Bytes) (kappa : Nat) : List Poly :=
  (List.range 5).map (fun r => (unpackW 20 (shake256 (rho2 ++ leBytes 2 (kappa + r)) 640)).map (fun (z : Nat) => dsaOf (524288 - (z : Int))))

/-- MakeHint for one coefficient: whether adding z moves the high part of r. -/
def dsaHint (z r : Nat) : Bool := dsaHigh r != dsaHigh ((r + z) % dsaQ)

/-- UseHint for one coefficient. -/
def dsaUseHint (h : Bool) (r : Nat) : Nat :=
  let d := dsaDecompose r
  if h then (if 0 < d.2 then (d.1 + 1) % 16 else (d.1 + 15) % 16) else d.1

/-- HintBitPack. -/
def dsaHintPack (h : List (List Bool)) : Bytes :=
  let idx := h.map (fun (p : List Bool) => (List.range 256).filter (fun i => p.getD i false))
  let l := idx.flatten
  l.map byte ++ zeros (55 - l.length) ++ (List.range 6).map (fun i => byte ((idx.take (i + 1)).flatten.length))

/-- HintBitUnpack: none for a malformed hint. -/
def dsaHintUnpack (b : Bytes) : Option (List (List Bool)) :=
  let ends := (List.range 6).map (fun i => byteAt (55 + i) b)
  let starts := 0 :: ends
  let idx := (b.take 55).map (·.toNat)
  let rising (l : List Nat) : Bool := (l.zip (l.drop 1)).all (fun p => decide (p.1 < p.2))
  let rows := (List.range 6).map (fun i => (idx.drop (starts.getD i 0)).take (ends.getD i 0 - starts.getD i 0))
  if (starts.zip ends).all (fun p => decide (p.1 ≤ p.2)) && decide (ends.getD 5 0 ≤ 55) && rows.all rising && (idx.drop (ends.getD 5 0)).all (· == 0) then
    some (rows.map (fun (r : List Nat) => (List.range 256).map (fun i => r.contains i)))
  else none

/-- One round of Sign_internal: the signature, or none where the round is rejected. -/
def dsaRound (m : List (List Poly)) (s1 s2 t0 : List Poly) (mu rho2 : Bytes) (kappa : Nat) : Option Bytes :=
  let y := dsaMask rho2 kappa
  let w := dsaProduct m y
  let ct := dsaChallenge mu (w.map (fun (p : Poly) => p.map dsaHigh))
  let c := dsaNtt (dsaBall ct)
  let z := List.zipWith (fun a s => polyAdd dsaQ a (dsaMul c s)) y s1
  let r := List.zipWith (fun a s => polySub dsaQ a (dsaMul c s)) w s2
  let low := r.all (fun (p : Poly) => p.all (fun x => decide ((dsaDecompose x).2.natAbs < 261692)))
  if !(dsaBelow 524092 z && low) then none
  else
    let ct0 := t0.map (dsaMul c)
    let h := List.zipWith (fun (a b : Poly) => List.zipWith (fun (x e : Nat) => dsaHint (dsaOf (-(e : Int))) ((x + e) % dsaQ)) a b) r ct0
    if !dsaBelow 261888 ct0 || decide (55 < (h.flatten.filter id).length) then none
    else some (ct ++ (z.map (fun (p : Poly) => packW 20 (p.map (fun x => (524288 - dsaCentre x).toNat)))).flatten ++ dsaHintPack h)

/-- The rounds of Sign_internal, by fuel; the number of rounds is not reported (R333). -/
def dsaSignF (f : Nat → Option Bytes) : Nat → Nat → Bytes
  | 0, _ => []
  | n + 1, kappa =>
    match f kappa with
    | some s => s
    | none => dsaSignF f n (kappa + 5)

/-- A hedged signature over a message with an empty context: seed, message, rnd (R323, R326). -/
def mldsaSign (seed msg rnd : Bytes) : Bytes :=
  let k := dsaKeyGen seed
  let mu := dsaMu k.pub msg
  let rho2 := shake256 (k.k ++ rnd ++ mu) 64
  let t0 := k.t.map (fun (p : Poly) => dsaNtt (p.map (fun x => (x + dsaQ - 8192 * dsaT1 x % dsaQ) % dsaQ)))
  dsaSignF (dsaRound (dsaMatrix k.rho) (k.s1.map dsaNtt) (k.s2.map dsaNtt) t0 mu rho2) 4096 0

/-- Whether a signature over a message verifies under a public key. -/
def mldsaVerify (pub msg sig : Bytes) : Bool :=
  match dsaHintUnpack (sig.drop 3248) with
  | none => false
  | some h =>
    let t1 := (chunks 320 (pub.drop 32)).map (unpackW 10)
    let ct := sig.take 48
    let z := (chunks 640 (cut 48 3200 sig)).map (fun (b : Bytes) => (unpackW 20 b).map (fun (v : Nat) => dsaOf (524288 - (v : Int))))
    let c := dsaNtt (dsaBall ct)
    let az := matVec dsaQ (polyDot dsaQ) (dsaMatrix (pub.take 32)) (z.map dsaNtt)
    let w := List.zipWith (fun a t => dsaInv (polySub dsaQ a (polyDot dsaQ c (dsaNtt (t.map (· * 8192 % dsaQ)))))) az t1
    let w1 := List.zipWith (fun (hr : List Bool) (p : Poly) => List.zipWith dsaUseHint hr p) h w
    sig.length == 3309 && dsaBelow 524092 z && ct == dsaChallenge (dsaMu pub msg) w1

/-! ### ML-KEM-768 (FIPS 203) -/

/-- The modulus of ML-KEM. -/
def kemQ : Nat := 3329

/-- NTT of ML-KEM, down to factors of degree two. -/
def kemNtt (p : Poly) : Poly := nttF kemQ 17 256 7 128 p
/-- Inverse NTT of ML-KEM. -/
def kemInv (p : Poly) : Poly :=
  let f := invMod 128 kemQ
  (invNttF kemQ 17 256 7 128 p).map (fun x => f * x % kemQ)

/-- The exponents of the quadratic factors, in the order of the transform. -/
def kemLeafF : Nat → Nat → List Nat
  | 0, e => [e]
  | n + 1, e => kemLeafF n (e / 2) ++ kemLeafF n (e / 2 + 128)

/-- MultiplyNTTs. -/
def kemDot (a b : Poly) : Poly :=
  ((kemLeafF 7 128).zipIdx.map (fun (p : Nat × Nat) =>
    let g := powMod 17 p.1 kemQ
    let x (l : Poly) (j : Nat) : Nat := l.getD (2 * p.2 + j) 0
    [(x a 0 * x b 0 + g * (x a 1 * x b 1 % kemQ)) % kemQ, (x a 0 * x b 1 + x a 1 * x b 0) % kemQ])).flatten

/-- SampleNTT from a 34-byte seed. -/
def kemSample (seed : Bytes) : Poly :=
  ((chunks 3 (shake128 seed 1344)).map (fun (b : Bytes) =>
    [byteAt 0 b + 256 * (byteAt 1 b % 16), byteAt 1 b / 16 + 16 * byteAt 2 b].filter (· < kemQ))).flatten.take 256

/-- SamplePolyCBD with eta = 2 from 128 bytes. -/
def kemCbd (b : Bytes) : Poly :=
  (unpackW 4 b).map (fun v => (v % 2 + v / 2 % 2 + kemQ - v / 4 % 2 - v / 8) % kemQ)

/-- The matrix, row i and column j from rho, j, i; transposed where asked. -/
def kemMatrix (rho : Bytes) (transposed : Bool) : List (List Poly) :=
  (List.range 3).map (fun i => (List.range 3).map (fun j =>
    kemSample (rho ++ (if transposed then [byte i, byte j] else [byte j, byte i]))))

/-- Three noise polynomials from a seed, counters from n. -/
def kemNoise (seed : Bytes) (n : Nat) : List Poly := (List.range 3).map (fun i => kemCbd (shake256 (seed ++ [byte (n + i)]) 128))

/-- Compress to d bits. -/
def kemCompress (d : Nat) (p : Poly) : Poly := p.map (fun x => (2 ^ (d + 1) * x + kemQ) / (2 * kemQ) % 2 ^ d)
/-- Decompress from d bits. -/
def kemDecompress (d : Nat) (p : Poly) : Poly := p.map (fun y => (2 * kemQ * y + 2 ^ d) / 2 ^ (d + 1))

/-- The polynomials of a string with d bits a coefficient. -/
def kemDecode (d : Nat) (b : Bytes) : List Poly := (chunks (32 * d) b).map (unpackW d)

/-- K-PKE.KeyGen from d: the encapsulation key and the secret vector in the NTT domain. -/
def kemKeyGen (d : Bytes) : Bytes × List Poly :=
  let g := sha3_512 (d ++ [3])
  let s := (kemNoise (g.drop 32) 0).map kemNtt
  let e := (kemNoise (g.drop 32) 3).map kemNtt
  let t := List.zipWith (polyAdd kemQ) (matVec kemQ kemDot (kemMatrix (g.take 32) false) s) e
  ((t.map (packW 12)).flatten ++ g.take 32, s)

/-- The encapsulation key of a seed of 64 bytes, d and then z. -/
def mlkemPublic (seed : Bytes) : Bytes := (kemKeyGen (cut 0 32 seed)).1

/-- K-PKE.Encrypt of a 32-byte message with randomness r. -/
def kemEncrypt (ek m r : Bytes) : Bytes :=
  let t := (kemDecode 12 (ek.take 1152)).map (fun (p : Poly) => p.map (· % kemQ))
  let y := (kemNoise r 0).map kemNtt
  let e1 := kemNoise r 3
  let e2 := kemCbd (shake256 (r ++ [6]) 128)
  let u := List.zipWith (fun p e => polyAdd kemQ (kemInv p) e) (matVec kemQ kemDot (kemMatrix (ek.drop 1152) true) y) e1
  let ty := kemInv ((List.zipWith kemDot t y).foldl (polyAdd kemQ) polyZero)
  let v := polyAdd kemQ (polyAdd kemQ ty e2) (kemDecompress 1 (unpackW 1 m))
  (u.map (fun p => packW 10 (kemCompress 10 p))).flatten ++ packW 4 (kemCompress 4 v)

/-- The shared secret and the encryption randomness of a message under an encapsulation key. -/
def kemG (m ek : Bytes) : Bytes × Bytes :=
  let g := sha3_512 (m ++ sha3_256 ek)
  (g.take 32, g.drop 32)

/-- ML-KEM.Encaps_internal: ciphertext and shared secret for an encapsulation key and m (R325). -/
def mlkemEncaps (ek m : Bytes) : Bytes × Bytes :=
  let (k, r) := kemG m ek
  (kemEncrypt ek m r, k)

/-- ML-KEM.Decaps_internal of a ciphertext under a seed: implicit rejection where the re-encryption differs (R325). -/
def mlkemDecaps (seed ct : Bytes) : Bytes :=
  let (ek, s) := kemKeyGen (cut 0 32 seed)
  let u := (kemDecode 10 (cut 0 960 ct)).map (kemDecompress 10)
  let v := kemDecompress 4 (unpackW 4 (cut 960 128 ct))
  let w := polySub kemQ v (kemInv ((List.zipWith kemDot s (u.map kemNtt)).foldl (polyAdd kemQ) polyZero))
  let m := packW 1 (kemCompress 1 w)
  let (k, r) := kemG m ek
  if kemEncrypt ek m r == ct then k else shake256 (cut 32 32 seed ++ ct) 32

end Sys2Proof.Machine
end

