-- ==== Sys2Proof/Machine/KeyOps.lean ====
section
/-! DEFINITION. The ADMIN operations of the key tree (R251 to R268) and the generation of keys (R327). -/

namespace Sys2Proof.Machine

/-! ### Creation requests (R266) -/

/-- A creation request. -/
structure Req where
  label : Nat
  usage : Nat
  alg : Nat
  bitLen : Nat
  flags : Nat
  limit : Nat
  owner : Bytes
  raw : Bytes
deriving DecidableEq, Repr

/-- Usage classes a node may carry (R239). -/
def nodeUsages : List Nat := [1, 2, 3, 4, 5, 6, 7, 8, 9, 0x0A, 0x0B, 0x10, 0x11, 0x12, 0x13]
/-- Algorithm codes of R240. -/
def nodeAlgs : List Nat := [0, 1, 2, 3, 4, 5, 0x10, 0x11, 0x12, 0x13, 0x14, 0x15, 0x16, 0x17, 0x18, 0x19]

/-- Reads a request of 32 bytes; none is REQUEST_FORMAT. -/
def readReq (b : Bytes) : Option Req :=
  let usage := byteAt 8 b
  let alg := byteAt 9 b
  let size := leNat (cut 10 2 b)
  let flags := byteAt 12 b
  let limit := leNat (cut 16 5 b)
  if b.length = 32 ∧ flags < 8 ∧ allZero (cut 13 3 b) ∧ allZero (cut 21 3 b) ∧ nodeUsages.contains usage ∧ nodeAlgs.contains alg
      ∧ (if alg = 0x10 then rsaSizeOk size else size == 0) ∧ (bit 2 flags || limit == 0) then
    some { label := beNat (cut 0 8 b), usage := usage, alg := alg, bitLen := if alg = 0x10 then size else algBits alg,
           flags := flags, limit := limit, owner := cut 24 8 b, raw := b }
  else none

/-- A request of the source, or REQUEST_FORMAT. -/
def Core.request (c : Core) (b : Bytes) : Op Req :=
  match readReq b with
  | some r => .ok r
  | none => .error (.refused c requestFormat)

/-- Forms of a creation (R252). -/
inductive Form where
  | derived | generated | imported
deriving DecidableEq, Repr

/-- ORIGIN of a form (R243). -/
def Form.origin : Form → Nat
  | .derived => 0
  | .generated => 1
  | .imported => 2

/-- Where a child is to be created: the parent's index, generation and node. -/
structure Parent where
  index : Nat
  gen : Nat
  node : Node
deriving DecidableEq, Repr

/-- The parent that a resolved handle names. -/
def Core.parentOf (c : Core) (x : Ctx) : Op Parent :=
  let s := c.cc.kt.slot x.index
  match s.node with
  | some n => if s.state = .live ∧ s.gen = x.gen then .ok { index := x.index, gen := x.gen, node := n } else .error (.refused c (Status.keyVoid, 0x51))
  | none => .error (.refused c (Status.keyVoid, 0x51))

/-- The LIVE child with a label. -/
def KeyTree.childWith (k : KeyTree) (p : Parent) (label : Nat) : Option (Nat × KSlot × Node) :=
  (k.children p.index p.gen p.node.level).findSome? (fun i =>
    match (k.slot i).node with
    | some n => if n.label = label then some (i, k.slot i, n) else none
    | none => none)

/-- LEVEL and USAGE_ALGORITHM of a creation below L2, and the lattice algorithms of the variant (R240, R252). -/
def Core.levelChecks (c : Core) (p : Parent) (r : Req) (form : Form) (public_ : Bool) : Op Unit := do
  let level := p.node.level + 1
  need c (decide (level ≤ 4) && (level == 3) == (r.usage == Usage.branch) && r.usage != Usage.root && (form != .imported || level == 4))
    (Status.inputFormat, 0x202)
  need c (usageAllowed r.alg r.usage &&
      (match form with
       | .derived => algSymmetric r.alg
       | .generated => true
       | .imported => if public_ then !algSymmetric r.alg && (r.usage == Usage.verify || r.alg == 0x19) else algSymmetric r.alg))
    (Status.inputFormat, 0x203)
  need c (Config.lattice c.g.variant || (r.alg != 0x18 && r.alg != 0x19)) (Status.engineAbsent, 3)

/-- LABEL_ORDER, EXPORT_INHERIT and ATTRIBUTE_CONFLICT of a creation below L2 (R251, R255, R258). -/
def Core.attrChecks (c : Core) (p : Parent) (r : Req) (blockExport : Bool) : Op Unit := do
  let level := p.node.level + 1
  let exportable := bit 0 r.flags
  need c (r.label != 0 && decide ((c.cc.kt.slot p.index).high < r.label)) (Status.inputFormat, 0x204)
  need c (!exportable || ((level == 3 || bit 0 p.node.attrs) && blockExport)) (Status.keyUseDenied, 0x205)
  need c (!(bit 2 r.flags && (level == 3 || r.limit == 0)) &&
      (c.g.mode == .analysis || !(bit 1 r.flags && (level == 3 || bit 2 r.flags)))) (Status.inputFormat, 0x206)

/-- The slot of a new L3 or L4 node, or TREE_FULL. -/
def Core.takeSlot (c : Core) : Op Nat :=
  match c.freeSlot with
  | some i => .ok i
  | none => .error (.refused c (Status.inputFormat, 0x207))

/-! ### Generation (R327) -/

/-- The prime reserve that serves a modulus size. -/
def Regs.reserveOf (r : Regs) (size : Nat) : Option Nat := if size = 0 then none else r.rsaBits.findIdx? (· == size)

/-- Two primes that differ within their top 100 bits. -/
def primePair : List Nat → Option (Nat × Nat)
  | [] => none
  | p :: l =>
    match l.find? (fun q => p >>> (bitLen p - 100) != q >>> (bitLen q - 100)) with
    | some q => some (p, q)
    | none => primePair l

/-- An RSA key from two primes, e = 65,537: p, q, dp, dq, qInv and e as the tree stores them (R242), and the public key. -/
def rsaKey (nbits p q : Nat) : Bytes × Bytes :=
  let h := ceilDiv nbits 16
  let private_ := ([p, q, invCoprime 65537 (p - 1), invCoprime 65537 (q - 1), invCoprime (q % p) p].map (beBytes h)).flatten ++ beBytes 8 65537
  (private_, beBytes 2 nbits ++ beBytes 8 65537 ++ beBytes (ceilDiv nbits 8) (p * q))

/-- n bytes of the secret that a generation takes from its drawn bytes. -/
def drawn (rnd : Bytes) (n : Nat) : Bytes := cut 0 n (Config.drawnSecret rnd n)

/-- Generates key material of an algorithm: private part and public key. RSA takes its primes from the reserve. -/
def Core.genKey (c : Core) (alg nbits : Nat) (rnd : Bytes) : Op (Core × Bytes × Bytes) :=
  match curveOf alg with
  | some k =>
    let d := beNat rnd % (k.n - 1) + 1
    .ok (c, beBytes k.on d, k.publicKey d)
  | none =>
    match alg with
    | 0x10 =>
      (match c.r.reserveOf nbits with
       | none => .error (.refused c (Status.inputFormat, 0x408))
       | some i =>
         match primePair (c.r.primes.getD i []) with
         | none => .error (.refused c (Status.entropyUnavailable, 0x407))
         | some (p, q) =>
           let (d, pub) := rsaKey nbits p q
           .ok ({ c with r := { c.r with primes := upd i (fun l => (l.erase p).erase q) c.r.primes } }, d, pub))
    | 0x16 => let s := drawn rnd 32; .ok (c, s, x25519 s baseU)
    | 0x17 => let s := drawn rnd 32; .ok (c, s, edPublic s)
    | 0x18 => let s := drawn rnd 32; .ok (c, s, mldsaPublic s)
    | 0x19 => let s := drawn rnd 64; .ok (c, s, mlkemPublic s)
    | _ =>
      let s := drawn rnd (symKeyBytes alg)
      .ok (c, if isTdea alg then oddParity s else s, [])

/-! ### Placing -/

/-- The material of a new node. -/
structure Material where
  key : Bytes
  pub : Bytes

/-- Creates a child: places it in the working image and records its commit. Its handle. -/
def Core.createChild (c : Core) (tid : Nat) (p : Parent) (i : Nat) (r : Req) (form : Form) (m : Material) : Core × Nat :=
  let n : Node :=
    { level := p.node.level + 1, parent := p.index, parentGen := p.gen, domain := p.node.domain, usage := r.usage, alg := r.alg,
      bitLen := r.bitLen, attrs := newAttrs r.flags form.origin (bit 3 p.node.attrs) (c.g.mode == .analysis), label := r.label,
      limit := r.limit, owner := r.owner, request := r.raw, pub := m.pub }
  let gen := (c.cc.kt.slot i).nextGen
  let (c, n) := c.placeNode i gen n m.key
  (c.ktCommit (some tid) none (creationRecs i gen n (some p.node)), handleOf i gen p.node.domain)

/-- Creates a domain root, and tells the domain's ports with source 114. -/
def Core.createRoot (c : Core) (tid d : Nat) (n : Node) (key : Bytes) : Core × Nat :=
  let gen := (c.cc.kt.slot d).nextGen
  let (c, n) := c.placeNode d gen n key
  ((c.ktCommit (some tid) none (creationRecs d gen n none)).edge (c.domainPorts d) 114, handleOf d gen d)

/-- ROOT_OCCUPIED and TREE_FULL of a root (R252). -/
def Core.rootFree (c : Core) (d : Nat) : Op Unit := do
  need c ((c.cc.kt.slot d).state != .live) (Status.inputFormat, 0x20A)
  need c ((c.cc.kt.slot d).state != .retired) (Status.inputFormat, 0x207)

/-- The checks of a root's request (R252, R258, R266). -/
def Core.rootChecks (c : Core) (r : Req) : Op Unit := do
  need c (r.label == 0) requestFormat
  need c (r.usage == Usage.root) (Status.inputFormat, 0x202)
  need c (r.alg == 4) (Status.inputFormat, 0x203)
  need c (!bit 2 r.flags && (!bit 1 r.flags || c.g.mode == .analysis)) (Status.inputFormat, 0x206)

/-- The root node of a request. -/
def Core.rootNode (c : Core) (d : Nat) (r : Req) (form : Form) : Node :=
  { level := 2, domain := d, usage := r.usage, alg := 4, bitLen := 256,
    attrs := newAttrs r.flags form.origin false (c.g.mode == .analysis), owner := r.owner, request := r.raw }

/-! ### KT_CREATE, KT_GENERATE, KT_ROLL -/

/-- The frame of the operations of this chapter: DOMAIN_PORT before any handle resolves (R265). -/
def Core.ktOp (c : Core) (tid op : Nat) (f : Core → Task → Nat → Op (Core × OpEnd)) : Core :=
  c.runOp tid clsAdmin op (fun c t => do
    let d := bits 11 0 t.param
    c.domainPort t d
    f c t d)

/-- The pairwise check of a generated key pair (R331, R332), with the cores on which it fails, in order: the first is marked unusable and the check runs again on another core; a second one ends the operation with INTERNAL, and a Crumb test of that core and of the cluster's tray memory starts. Where no other core serves, the class is absent once none is left (R393), and otherwise the operation waits for a spare, its first failure kept as bit 32 of the failed steps. -/
def Core.pairwise (c : Core) (tid : Nat) (t : Task) (failed : List Nat) : Op Core :=
  let ended (c : Core) (n : Nat) : Op Core := .error (.refused ((c.countCheck 3 n true).crumbNow 3 n t.cluster) (Status.internal, 2))
  let goesOn (c : Core) : Op Core :=
    if !(c.enginesUp 3).isEmpty then .ok c
    else if c.capCount 3 = 0 then .error (.refused c (Status.engineAbsent, 0x203))
    else .error (.wait (c.updTask tid (fun t => { t with failed := setFlag 32 t.failed })))
  match failed.filter ((c.enginesUp 3).contains ·) with
  | [] => if (c.enginesUp 3).isEmpty then goesOn c else .ok c
  | a :: l =>
    if bit 32 t.failed then ended c a
    else
      let c := (c.countCheck 3 a false).markBad 3 a
      match l.find? ((c.enginesUp 3).contains ·) with
      | none => goesOn c
      | some b => ended c b

/-- A key generated from 64 drawn bytes (R327), its pair checked before anything is committed (R265): a generation that fails takes no prime. -/
def Core.generate (c : Core) (tid : Nat) (t : Task) (r : Req) (drawn : Bytes) (failed : List Nat) : Op (Core × Material) := do
  let (c1, k, q) ← c.genKey r.alg r.bitLen drawn
  if algSymmetric r.alg then return (c1, { key := k, pub := q })
  let _ ← c.pairwise tid t failed
  let c2 ← c1.pairwise tid t failed
  return (c2, { key := k, pub := q })

/-- What a child's material is made of, once every check has passed: derivation, which stores nothing (R245), or generation from the bytes the task drew at admission (R326, R327). -/
def Core.material (c : Core) (tid : Nat) (t : Task) (r : Req) (form : Form) (failed : List Nat) : Op (Core × Material) :=
  match form with
  | .derived => .ok (c, { key := [], pub := [] })
  | _ => c.generate tid t r t.rnd failed

/-- A creation under a parent: the checks of R268 from LEVEL on, the identical-child test, and the commit. What it answers: the core, the handle, the public key, and whether a node was created. -/
def Core.newChild (c : Core) (tid : Nat) (t : Task) (p : Parent) (r : Req) (form : Form) (failed : List Nat) : Op (Core × Nat × Bytes × Bool) := do
  c.levelChecks p r form false
  match c.cc.kt.childWith p r.label with
  | some (i, s, n) =>
    if n.request = r.raw then return (c, handleOf i s.gen n.domain, n.pub, false)
  | none => pure ()
  c.attrChecks p r true
  let i ← c.takeSlot
  let (c, m) ← c.material tid t r form failed
  let (c, h) := c.createChild tid p i r form m
  return (c, h, m.pub, true)

/-- KT_CREATE (R252, R265). -/
def execKtCreate (tid : Nat) (s : State) : Host.Outcome State Fault Refusal :=
  run (fun c => c.ktOp tid 0x200 (fun c0 t d => do
    let (c, x) ← c0.opKey tid t t.key0 d 1
    need c (t.formOk 0xFFF true false (some 32) 0) requestFormat
    let r ← c.request t.source
    let p ← c.parentOf x
    let (c, h, _, made) ← c.newChild tid t p r .derived []
    return (c, { res0 := h, held := made }))) s

/-- KT_GENERATE (R252, R265, R327): a key pair's public key goes to the destination. The cores on which its pairwise check fails are those named (R331). -/
def execKtGenerate (tid : Nat) (failedCores : List Nat) (s : State) : Host.Outcome State Fault Refusal :=
  run (fun c => c.ktOp tid 0x201 (fun c0 t d => do
    let (c, x) ← c0.opKey tid t t.key0 d 1
    need c (t.formOk 0xFFF true false (some 32) 0) requestFormat
    let r ← c.request t.source
    need c (algSymmetric r.alg || decide (pubBytes r.alg r.bitLen ≤ t.dstLen)) requestFormat
    let p ← c.parentOf x
    let (c, h, pub, made) ← c.newChild tid t p r .generated failedCores
    return (c, { res0 := h, res1 := pub.length, data := pub, held := made }))) s

/-- KT_ROLL (R254): a sibling from the request and the void of the old node, in one epoch. The request's algorithm decides the form of the sibling. -/
def execKtRoll (tid : Nat) (failedCores : List Nat) (s : State) : Host.Outcome State Fault Refusal :=
  run (fun c => c.ktOp tid 0x204 (fun c0 t d => do
    let (c, x) ← c0.opKey tid t t.key0 d 1
    need c (t.formOk 0xFFF true false (some 32) 0) requestFormat
    let r ← c.request t.source
    let old ← c.parentOf x
    need c (decide (3 ≤ old.node.level)) (Status.inputFormat, 0x202)
    let p ← c.parentOf { index := old.node.parent, gen := old.node.parentGen }
    let (c, h, _, made) ← c.newChild tid t p r (if algSymmetric r.alg then .derived else .generated) failedCores
    if !made then return (c, { res0 := h, res1 := x.gen })
    let (c, void) := c.voidNode x.index
    let c := c.updCC (fun s => { s with ktCommits := s.ktCommits.map (fun k =>
      if k.tid = some tid then { k with recs := k.recs ++ [void] } else k) })
    return (c, { res0 := h, res1 := (c.cc.kt.slot x.index).gen, held := true }))) s

/-! ### KT_IMPORT -/

/-- Status and DETAIL of a key-block failure in an operation (R473). -/
def blockEnded : StepOut → Ended
  | .fail st => (st, if st = Status.authFail then 0x212 else 0)
  | .sub n => (Status.inputFormat, if n = Sub.keyAlgorithm then 0x211 else if n = Sub.dataLength then 0x213 else 0x210)
  | _ => (Status.inputFormat, 0x210)

/-- A key block whose MAC differs is counted in SYM_AUTH (R313). -/
def Core.countBlock (c : Core) (o : StepOut) : Core :=
  if o == .fail Status.authFail then { c with r := { c.r with authTag := sat 32 (c.r.authTag + 1) } } else c

/-- Takes a key-block result, or ends the operation. -/
def Core.block {α : Type} (c : Core) (r : SR α) : Op α :=
  match r with
  | .ok a => .ok a
  | .error o => .error (.refused (c.countBlock o) (blockEnded o))

/-- The first failed check of an imported public key (R330). -/
def importFault (r : Req) (pub : Bytes) : Option Ended :=
  if r.alg = 0x10 ∧ !rsaKeyOk r.bitLen pub then some (Status.operandRange, 0x4003)
  else (keyFaults r.alg pub).head?.map (kindEnded 0)

/-- The key of a block of form 0, or the key of form 1 after its check phase. -/
def Core.importMaterial (c : Core) (r : Req) (kek : Option Ctx) (body : Bytes) : Op Material :=
  match kek with
  | some k => do
    let (_, alg, _, key) ← c.block (kbUnwrap k body body.length (some r.usage))
    need c (alg == r.alg) (Status.inputFormat, 0x210)
    return { key := key, pub := [] }
  | none =>
    match importFault r body with
    | some e => .error (.refused c e)
    | none => .ok { key := [], pub := body }

/-- KT_IMPORT (R265, R268): form 0 a key block under KEY1, form 1 a public key. -/
def execKtImport (tid : Nat) (s : State) : Host.Outcome State Fault Refusal :=
  run (fun c => c.ktOp tid 0x202 (fun c t d => do
    let form := bits 19 16 t.param
    let (c, x, kek) ← (if form = 0 then (do
        let (c, x, y) ← c.opKeys tid t d
        return (c, x, some y))
      else (do
        let (c, x) ← c.opKey tid t t.key0 d 1
        return (c, x, none)) : Op (Core × Ctx × Option Ctx))
    need c (t.formOk 0xF0FFF true (form == 0) none 0 && decide (form ≤ 1) && decide (32 ≤ t.srcLen)) requestFormat
    let r ← c.request (t.source.take 32)
    let body := t.source.drop 32
    need c (form == 0 || body.length == pubBytes r.alg r.bitLen) requestFormat
    let p ← c.parentOf x
    c.levelChecks p r .imported (form == 1)
    match c.cc.kt.childWith p r.label with
    | some (i, sl, n) =>
      if n.request = r.raw then return (c, { res0 := handleOf i sl.gen n.domain })
    | none => pure ()
    c.attrChecks p r (form == 1 || byteAt 11 body != 0x4E)
    let m ← c.importMaterial r kek body
    let i ← c.takeSlot
    let (c, h) := c.createChild tid p i r .imported m
    return (c, { res0 := h, held := true }))) s

/-! ### Voids -/

/-- Voids a node in a commit of the operation; a root is told with source 114. -/
def Core.voidOp (c : Core) (tid i : Nat) : Core × OpEnd :=
  let (c, void) := c.voidNode i
  let c := c.ktCommit (some tid) none [void]
  (c, { res0 := (c.cc.kt.slot i).gen, held := true })

/-- KT_VOID (R253). -/
def execKtVoid (tid : Nat) (s : State) : Host.Outcome State Fault Refusal :=
  run (fun c => c.ktOp tid 0x203 (fun c t d => do
    let (c, x) ← c.opKey tid t t.key0 d 1
    need c (t.formOk 0xFFF true false (some 0) 0) requestFormat
    let p ← c.parentOf x
    need c (p.node.level != 2) (Status.inputFormat, 0x202)
    return c.voidOp tid x.index)) s

/-! ### KT_EXPORT, KT_INFO, KT_PROVENANCE, KT_CHAIN, KT_SET_WRITE -/

/-- KT_EXPORT (R234, R265): the padding is drawn when it runs. -/
def execKtExport (tid : Nat) (s : State) : Host.Outcome State Fault Refusal :=
  run (fun c => c.ktOp tid 0x205 (fun c0 t d => do
    let (c, x, kek) ← c0.opKeys tid t d
    need c (t.formOk 0xFFF true true (some 16) 0) requestFormat
    need c (x.usage != Usage.branch && x.usage != Usage.root) (Status.keyUseDenied, 0)
    c.block (kbWrapChecks kek x t.source t.dstLen)
    let (c, pad) ← c.drawFor c0 c tid t (kbPad (byteAt 0 t.source) x)
    let b := kbWrap kek x t.source pad
    return (c, { res1 := b.length, data := b }))) s

/-- Code of a slot state in KT_INFO (R267). -/
def KState.code : KState → Nat
  | .fresh => 0
  | .live => 1
  | .void => 2
  | .orphan => 3
  | .expired => 4
  | .retired => 5

/-- The 64 bytes of KT_INFO and the public key (R267). -/
def Core.nodeInfo (c : Core) (i : Nat) (s : KSlot) (n : Node) : Bytes :=
  let kcv := match s.state, algSymmetric n.alg, c.cc.kt.nodeKey c.swk 4 i with
    | .live, true, some k => kcvOf n.alg k
    | _, _, _ => zeros 3
  [byte s.state.code, byte n.level] ++ leBytes 3 i ++ leBytes 2 s.gen ++ leBytes 3 n.parent ++ leBytes 2 n.parentGen
    ++ leBytes 2 n.domain ++ [byte n.usage, byte n.alg] ++ leBytes 2 n.bitLen ++ [byte n.attrs, 0] ++ beBytes 8 n.label
    ++ leBytes 5 n.limit ++ leBytes 5 n.uses ++ zeros 2 ++ n.owner ++ beBytes 8 s.high
    ++ leBytes 3 (c.cc.kt.children i s.lastGen n.level).length ++ kcv ++ leBytes 2 n.pub.length ++ n.pub

/-- KT_INFO (R265, R267): checks 1 to 3 of R247, no use counted. -/
def execKtInfo (tid : Nat) (s : State) : Host.Outcome State Fault Refusal :=
  run (fun c => c.ktOp tid 0x206 (fun c t d => do
    match c.findNode t.key0 d t.port with
    | .error e => throw (.refused c (e.status, e.order * 16 + 1))
    | .ok (i, sl, n) =>
      need c (t.formOk 0xFFF true false (some 0) (64 + n.pub.length)) requestFormat
      let b := c.nodeInfo i sl n
      return (c, { res0 := sl.state.code, res1 := b.length, data := b }))) s

/-- The 128 signed bytes of a provenance statement (R264). -/
def Core.provenance (c : Core) (i : Nat) (s : KSlot) (n : Node) (nonce : Bytes) : Bytes :=
  let kp := if algSymmetric n.alg then cut 0 48 (kcvOf n.alg (c.keyOf i)) else sha384 n.pub
  ascii "KPS1" ++ c.serialBytes ++ beBytes 3 i ++ [byte n.level] ++ beBytes 2 s.gen ++ beBytes 2 n.domain
    ++ [byte n.usage, byte n.alg] ++ beBytes 2 n.bitLen ++ [byte n.attrs] ++ zeros 3 ++ kp ++ cut 0 32 nonce
    ++ beBytes 6 c.now.toNat ++ zeros 10

/-- KT_PROVENANCE (R263, R264). -/
def execKtProvenance (tid : Nat) (s : State) : Host.Outcome State Fault Refusal :=
  run (fun c => c.ktOp tid 0x207 (fun c t d => do
    need c (c.g.mode != .analysis) c.modeRefused
    match c.findNode t.key0 d t.port with
    | .error e => throw (.refused c (e.status, e.order * 16 + 1))
    | .ok (i, sl, n) =>
      need c (t.formOk 0xFFF true false (some 32) 224) requestFormat
      need c (sl.state == .live && hGen t.key0 == sl.gen && c.cc.kt.chainOk 4 n && bit 3 n.attrs) (Status.keyUseDenied, 0x209)
      let (b, c) := c.attest (c.provenance i sl n t.source)
      return (c, { res1 := 224, data := b }))) s

/-- KT_CHAIN (R264). -/
def execKtChain (tid : Nat) (s : State) : Host.Outcome State Fault Refusal :=
  run (fun c => c.ktOp tid 0x208 (fun c t _ => do
    let chain := Config.vendorChain c.attPublic
    need c (t.formOk 0xFFF false false (some 0) chain.length) requestFormat
    return (c, { res1 := chain.length, data := chain }))) s

/-- KT_SET_WRITE (R262): a whole set in one commit. -/
def execKtSetWrite (tid : Nat) (s : State) : Host.Outcome State Fault Refusal :=
  run (fun c => c.ktOp tid 0x209 (fun c t d => do
    let b := t.source
    let i := leNat (cut 0 4 b)
    let set := readSet b
    need c (t.formOk 0xFFF false false (some 64) 0 && allZero (cut 6 2 b) && allZero (cut 56 8 b) && leNat (cut 4 2 b) == d) requestFormat
    need c (decide (i < Config.sieveEntries c.g.variant)) (Status.inputFormat, 0x20B)
    need c (set.members.all (fun h => h == 0 || (match c.liveNode h d t.port with
      | .ok _ => true
      | .error _ => false))) (Status.inputFormat, 0x20B)
    let c := c.updCC (fun s => { s with kt := { s.kt with sets := Table.put i set s.kt.sets } })
    return (c.ktCommit (some tid) none [setRec i d b], { res0 := i, held := true }))) s

/-! ### Domain roots -/

/-- KT_ROOT_GENERATE (R252, R265, R281). -/
def execKtRootGenerate (tid : Nat) (s : State) : Host.Outcome State Fault Refusal :=
  run (fun c => c.ktOp tid 0x210 (fun c t d => do
    need c (t.formOk 0xFFF false false (some 32) 0) requestFormat
    let r ← c.request t.source
    c.rootChecks r
    c.rootFree d
    let c ← c.gateTask t d
    let (c, h) := c.createRoot tid d (c.rootNode d r .generated) (drawn t.rnd 32)
    return (c, { res0 := h, held := true }))) s

/-- KT_ROOT_IMPORT (R285): the root of a COMPLETE component session. -/
def execKtRootImport (tid : Nat) (s : State) : Host.Outcome State Fault Refusal :=
  run (fun c => c.ktOp tid 0x211 (fun c t d => do
    need c (c.g.mode != .analysis) c.modeRefused
    let b := t.source
    need c (t.formOk 0xFFF false false (some 16) 0 && allZero (cut 7 9 b)) requestFormat
    let n := leNat (cut 0 4 b)
    match Table.find n c.cc.cust.sessions with
    | none => throw (.refused c (Status.inputFormat, 0x30B))
    | some ss =>
      need c (ss.complete && ss.domain == d && later ss.expiry c.now) (Status.inputFormat, 0x30B)
      let r ← c.request ss.request
      need c (kcvOf r.alg ss.acc == cut 4 3 b) (Status.authFail, 0x30C)
      c.rootFree d
      let c ← c.gateTask t d
      let (c, h) := c.createRoot tid d (c.rootNode d r .imported) ss.acc
      return (c.updCust (fun k => { k with sessions := Table.del n k.sessions }), { res0 := h, held := true }))) s

/-- KT_ROOT_VOID (R253). -/
def execKtRootVoid (tid : Nat) (s : State) : Host.Outcome State Fault Refusal :=
  run (fun c => c.ktOp tid 0x212 (fun c t d => do
    let (c, x) ← c.opKey tid t t.key0 d 1
    need c (t.formOk 0xFFF true false (some 0) 0) requestFormat
    let p ← c.parentOf x
    need c (p.node.level == 2) (Status.inputFormat, 0x202)
    let c ← c.gateTask t d
    let (c, e) := c.voidOp tid x.index
    return (c.edge (c.domainPorts d) 114, e))) s

end Sys2Proof.Machine
end

