-- ==== Sys2Proof/Machine/CustodyOps.lean ====
section
/-! DEFINITION. The CUSTODY operations of this unit's custodians: challenges, tokens, enrolment, components, release and recommissioning (R272 to R288). -/

namespace Sys2Proof.Machine

/-- The frame of a CUSTODY operation. -/
def Core.cuOp (c : Core) (tid op : Nat) (f : Core → Task → Op (Core × OpEnd)) : Core := c.runOp tid clsCustody op f

/-! ### Challenges and tokens -/

/-- 600 s in ticks (R275). -/
def tenMinutes : W48 := 60000000000

/-- CU_CHALLENGE (R275). -/
def execCuChallenge (tid : Nat) (s : State) : Host.Outcome State Fault Refusal :=
  run (fun c => c.cuOp tid 0x300 (fun c t => do
    need c (t.formOk 0 false false (some 0) 32) requestFormat
    let live := c.cc.cust.openChallenges c.now
    let limit : Ended := (Status.inputFormat, 0x308)
    need c (decide (live.length < 256) && decide ((live.filter (fun e => e.2.port == t.port)).length < 64)) limit
    match Table.freeKey 256 live with
    | none => throw (.refused c limit)
    | some slot =>
      let (c, v) ← if c.constructed then pure ((c.construct 32).2, (c.construct 32).1) else c.drawFor c c tid t 32
      let expiry := c.now + tenMinutes
      let c := c.updCust (fun k => { k with challenges := Table.put slot { value := v, expiry := expiry, port := t.port } live })
      return (c, { res0 := expiry.toNat, data := v }))) s

/-- The form of a token for a purpose (order 1 of R278). -/
def tokenForm (b : Bytes) (purpose : Nat) : Bool :=
  b.length == 200 && b.take 4 == ascii "CAT1" && byteAt 19 b == purpose && allZero (cut 100 4 b)

/-- The group a token names. -/
def tokenGroup (b : Bytes) : Nat := beNat (cut 16 2 b)

/-- CU_AUTHORIZE (R278). -/
def execCuAuthorize (tid : Nat) (s : State) : Host.Outcome State Fault Refusal :=
  run (fun c => c.cuOp tid 0x301 (fun c t => do
    need c (t.formOk 0 false false none 0) requestFormat
    let b := t.source
    let g := tokenGroup b
    let p := byteAt 18 b
    let digest := cut 52 48 b
    need c (tokenForm b 1) (Status.inputFormat, 0x301)
    let held := c.cc.cust.validTokens c.now
    need c (decide (held.length < 64)) (Status.inputFormat, 0x302)
    let (c, ch) ← c.checkObject b g p 104 (cut 20 32 b) none
    if held.any (fun x => x.group == g && x.position == p && x.digest == digest) then throw (c.authFail g 0x307)
    let token : Token := { group := g, position := p, digest := digest, challenge := ch.value, expiry := ch.expiry }
    let c := (c.updCust (fun k => { k with tokens := held ++ [token] })).edge (c.groupPorts g) 128
    return (c, { res0 := c.cc.cust.tokensFor c.now g digest, res1 := (c.cc.cust.group g).quorum }))) s

/-- CU_WITHDRAW (R278). -/
def execCuWithdraw (tid : Nat) (s : State) : Host.Outcome State Fault Refusal :=
  run (fun c => c.cuOp tid 0x302 (fun c t => do
    need c (t.formOk 0 false false (some 48) 0) requestFormat
    let live := c.cc.cust.validTokens c.now
    let keep := live.filter (fun x => x.digest != t.source)
    return (c.updCust (fun k => { k with tokens := keep }), { res0 := live.length - keep.length }))) s

/-- A challenge's end (R275): it and the tokens naming it are dropped. -/
def Custody.expire (k : Custody) (slot : Nat) (ch : Challenge) : Custody :=
  { k with challenges := Table.del slot k.challenges, tokens := k.tokens.filter (fun t => t.challenge != ch.value) }

/-- CHALLENGE_EXPIRE (R275). -/
def execChallengeExpire (challenge : Nat) (s : State) : Host.Outcome State Fault Refusal :=
  run (fun c =>
    match Table.find challenge c.cc.cust.challenges with
    | none => c
    | some ch => (c.moveTo ch.expiry).updCust (·.expire challenge ch)) s

/-! ### Custodian groups (R272, R273) -/

/-- The group a change names: GROUP_RANGE, and who may submit it (R281, R282). -/
def Core.groupOf (c : Core) (t : Task) : Op Nat := do
  let g := bits 15 0 t.param
  need c (decide (g < 4096) || g == unitGroup) (Status.inputFormat, 0x314)
  if g = unitGroup then c.portZero t else c.domainPort t g
  return g

/-- The group whose quorum a change of a group needs (R272, R435), none where it needs none. -/
def Core.groupGate (c : Core) (g : Nat) (enroll : Bool) : Option Nat :=
  let few := decide ((c.cc.cust.group g).count < 2)
  if g = unitGroup then
    (if few && (c.lcState == 1 || (c.lcState == 3 && enroll)) then none else some unitGroup)
  else some (if few then unitGroup else g)

/-- The quorum that a change of a group needs, where it needs one. -/
def Core.gateGroup (c : Core) (t : Task) (g : Nat) (enroll : Bool) : Op Core :=
  match c.groupGate g enroll with
  | none => .ok c
  | some q => c.gateTask t q

/-- A change of a group: source 132, and the group as its answer shows it. -/
def Core.changeGroup (c : Core) (g : Nat) (f : Group → Group) : Core × OpEnd :=
  let c := (c.updCust (·.updGroup g f)).edge (c.groupPorts g) 132
  let x := c.cc.cust.group g
  (c, { res0 := x.count, res1 := x.quorum })

/-- CU_ENROLL (R272, R282): the key signs a POSSESSION token over the command with that token zeroed. -/
def execCuEnroll (tid : Nat) (s : State) : Host.Outcome State Fault Refusal :=
  run (fun c => c.cuOp tid 0x303 (fun c t => do
    let g ← c.groupOf t
    let p := bits 19 16 t.param
    need c (t.formOk 0xFFFFF false false (some 296) 0) requestFormat
    let key := t.source.take 96
    let tok := t.source.drop 96
    need c ((Table.find p (c.cc.cust.group g).keys).isNone) (Status.inputFormat, 0x309)
    need c (tokenForm tok 2 && tokenGroup tok == g && byteAt 18 tok == p) (Status.inputFormat, 0x301)
    let (c, _) ← c.checkObject tok g p 104 (cut 20 32 tok) (some key)
    if cut 52 48 tok != t.commandDigest (key ++ zeros 200) then throw (c.authFail g 0x306)
    let c ← c.gateGroup t g true
    return c.changeGroup g (fun x => { x with keys := Table.put p key x.keys }))) s

/-- CU_REMOVE (R272). -/
def execCuRemove (tid : Nat) (s : State) : Host.Outcome State Fault Refusal :=
  run (fun c => c.cuOp tid 0x304 (fun c t => do
    let g ← c.groupOf t
    let p := bits 19 16 t.param
    need c (t.formOk 0xFFFFF false false (some 0) 0) requestFormat
    let x := c.cc.cust.group g
    need c ((Table.find p x.keys).isSome) (Status.authFail, 0x305)
    need c (decide (x.quorum ≤ x.count - 1)) (Status.inputFormat, 0x30E)
    let c ← c.gateGroup t g false
    return (c.updCust (·.dropTokens g p)).changeGroup g (fun x => { x with keys := Table.del p x.keys }))) s

/-- CU_QUORUM (R272). -/
def execCuQuorum (tid : Nat) (s : State) : Host.Outcome State Fault Refusal :=
  run (fun c => c.cuOp tid 0x305 (fun c t => do
    let g ← c.groupOf t
    let k := bits 19 16 t.param
    need c (t.formOk 0xFFFFF false false (some 0) 0) requestFormat
    need c (decide (2 ≤ k) && decide (k ≤ 5) && decide (k ≤ (c.cc.cust.group g).count)) (Status.inputFormat, 0x30E)
    let c ← c.gateGroup t g false
    return c.changeGroup g (fun x => { x with quorum := k }))) s

/-- CU_DOMAIN_RESET (R273). -/
def execCuDomainReset (tid : Nat) (s : State) : Host.Outcome State Fault Refusal :=
  run (fun c => c.cuOp tid 0x30C (fun c t => do
    c.portZero t
    let d := bits 11 0 t.param
    need c (t.formOk 0xFFF false false (some 0) 0) requestFormat
    need c ((c.cc.kt.slot d).state != .live) (Status.keyUseDenied, 0x30D)
    let c ← c.gateTask t unitGroup
    let c := (c.updCust (fun k => { (k.updGroup d (fun _ => {})) with tokens := k.tokens.filter (fun x => x.group != d) })).edge (c.groupPorts d) 132
    return (c, {}))) s

/-- CU_TRANSPORT (R283). -/
def execCuTransport (tid : Nat) (s : State) : Host.Outcome State Fault Refusal :=
  run (fun c => c.cuOp tid 0x306 (fun c t => do
    need c (t.formOk 0 false false (some 0) 224) requestFormat
    let k := c.cc.cust
    let m := ascii "UTK1" ++ c.serialBytes ++ beBytes 2 (k.member.getD 0) ++ [byte (b2n k.member.isSome)] ++ zeros 13 ++ c.transportPublic
    let (b, c) := c.attest m
    return (c, { res1 := 224, data := b }))) s

/-! ### Key components (R284, R285) -/

/-- Changes a component session. -/
def Custody.putSession (k : Custody) (n : Nat) (ss : Session) : Custody := { k with sessions := Table.put n ss k.sessions }

/-- The sessions that have not expired. -/
def Custody.openSessions (k : Custody) (now : W48) : Table Session := k.sessions.filter (fun e => later e.2.expiry now)

/-- The checks of a session's creation request, as KT_IMPORT makes them (R285): its level and algorithm, and, unless a LIVE child came from the same request, its label and attributes (R251, R268). -/
def Core.sessionTarget (c : Core) (key : Option Ctx) (r : Req) : Op Unit :=
  match key with
  | none => do
    c.rootChecks r
    need c (!bit 1 r.flags) (Status.inputFormat, 0x206)
  | some x => do
    let p ← c.parentOf x
    c.levelChecks p r .imported false
    match c.cc.kt.childWith p r.label with
    | some (_, _, n) => if n.request = r.raw then pure () else c.attrChecks p r true
    | none => c.attrChecks p r true

/-- CU_COMPONENT_BEGIN (R285). -/
def execCuComponentBegin (tid : Nat) (s : State) : Host.Outcome State Fault Refusal :=
  run (fun c => c.cuOp tid 0x307 (fun c t => do
    let d := bits 11 0 t.param
    c.domainPort t d
    let (c, key) ← (if t.key0 = 0 then .ok (c, none)
      else (do
        let (c, x) ← c.opKey tid t t.key0 d 1
        return (c, some x)) : Op (Core × Option Ctx))
    need c (t.formOk 0xFFF true false (some 40) 0) requestFormat
    let n := byteAt 32 t.source
    need c (decide (2 ≤ n) && decide (n ≤ 5) && allZero (cut 33 7 t.source)) requestFormat
    let r ← c.request (t.source.take 32)
    c.sessionTarget key r
    match Table.freeKey 4 (c.cc.cust.openSessions c.now) with
    | none => throw (.refused c (Status.inputFormat, 0x30A))
    | some k =>
      let expiry := c.now + tenMinutes
      let x := key.getD {}
      let ss : Session := { domain := d, parent := x.index, parentGen := x.gen, request := r.raw, count := n, given := [], acc := zeros (symKeyBytes r.alg), expiry := expiry, complete := false }
      return (c.updCust (·.putSession k ss), { res0 := k, res1 := expiry.toNat }))) s

/-- The form of a component envelope (R284). -/
def envelopeForm (b : Bytes) : Bool :=
  let w := beNat (cut 148 2 b)
  b.length == 296 && b.take 4 == ascii "CCE1" && [24, 32, 40].contains w && allZero (cut 150 2 b) && allZero (cut 192 8 b)
    && allZero (cut (152 + w) (40 - w) b)

/-- The component an envelope carries: ECDH with the transport key, the transport KDF and the unwrapping (R284). -/
def Core.openEnvelope (c : Core) (b : Bytes) : Option Bytes :=
  let eph := (4 : Byte) :: cut 52 96 b
  if p384Valid eph then
    kwpUnwrap (transportKdf (p384.ecdh c.transportSecret eph) (ascii "CCE1") (cut 4 16 b)) (cut 152 (beNat (cut 148 2 b)) b)
  else none

/-- The last component of an L4 target: the node is committed as KT_IMPORT would commit it (R285). -/
def Core.commitComponents (c : Core) (tid n : Nat) (ss : Session) (r : Req) (key : Bytes) (kcv : Nat) : Op (Core × OpEnd) := do
  let key := if isTdea r.alg then oddParity key else key
  match (c.cc.kt.slot ss.parent).node with
  | none => throw (.refused c (Status.keyVoid, 0))
  | some pn =>
    let p : Parent := { index := ss.parent, gen := ss.parentGen, node := pn }
    need c ((c.cc.kt.slot ss.parent).state == .live && (c.cc.kt.slot ss.parent).gen == ss.parentGen && c.cc.kt.chainOk 4 pn) (Status.keyVoid, 0)
    let done (c : Core) : Core := (c.updCust (fun k => { k with sessions := Table.del n k.sessions })).edge (c.domainPorts ss.domain) 133
    match c.cc.kt.childWith p r.label with
    | some (i, sl, x) =>
      if x.request = r.raw then return (done c, { res0 := handleOf i sl.gen x.domain, res1 := kcv })
    | none => pure ()
    c.attrChecks p r true
    let i ← c.takeSlot
    let (c, h) := c.createChild tid p i r .imported { key := key, pub := [] }
    return (done c, { res0 := h, res1 := kcv, held := true })

/-- CU_COMPONENT (R285). -/
def execCuComponent (tid : Nat) (s : State) : Host.Outcome State Fault Refusal :=
  run (fun c => c.cuOp tid 0x308 (fun c t => do
    let n := bits 1 0 t.param
    need c (t.formOk 3 false false none 0) requestFormat
    let b := t.source
    let g := beNat (cut 16 2 b)
    let p := byteAt 18 b
    need c (envelopeForm b) (Status.inputFormat, 0x301)
    let (c, _) ← c.checkObject b g p 200 (cut 20 32 b) none
    let stale : Ended := (Status.inputFormat, 0x30B)
    match Table.find n c.cc.cust.sessions with
    | none => throw (.refused c stale)
    | some ss =>
      need c (!ss.complete && later ss.expiry c.now && ss.domain == g && byteAt 19 b == n) stale
      if ss.given.contains p then throw (c.authFail g 0x307)
      match c.openEnvelope b with
      | none => throw (c.authFail g 0x306)
      | some comp =>
        need c (comp.length == ss.acc.length) stale
        let r ← c.request ss.request
        let acc := xorB ss.acc comp
        let given := ss.given ++ [p]
        if given.length < ss.count then
          return (c.updCust (·.putSession n { ss with acc := acc, given := given }),
            { res0 := leNat (kcvOf r.alg comp), res1 := ss.count - given.length })
        let kcv := leNat (kcvOf r.alg (if isTdea r.alg then oddParity acc else acc))
        if ss.parent ≠ 0 then c.commitComponents tid n ss r acc kcv
        else
          return ((c.updCust (·.putSession n { ss with acc := acc, given := given, complete := true })).edge (c.domainPorts g) 133,
            { res0 := 0, res1 := kcv }))) s

/-- Erases a component session, and tells its domain's ports. -/
def Core.dropSession (c : Core) (n : Nat) (ss : Session) : Core :=
  (c.updCust (fun k => { k with sessions := Table.del n k.sessions })).edge (c.domainPorts ss.domain) 133

/-- CU_COMPONENT_CANCEL (R285). -/
def execCuComponentCancel (tid : Nat) (s : State) : Host.Outcome State Fault Refusal :=
  run (fun c => c.cuOp tid 0x309 (fun c t => do
    let n := bits 1 0 t.param
    need c (t.formOk 3 false false (some 0) 0) requestFormat
    match Table.find n (c.cc.cust.openSessions c.now) with
    | none => throw (.refused c (Status.inputFormat, 0x30B))
    | some ss => return (c.dropSession n ss, {}))) s

/-- COMPONENT_SESSION_EXPIRE (R285). -/
def execComponentSessionExpire (session : Nat) (s : State) : Host.Outcome State Fault Refusal :=
  run (fun c =>
    match Table.find session c.cc.cust.sessions with
    | none => c
    | some ss => (c.moveTo ss.expiry).dropSession session ss) s

/-! ### Release and recommissioning (R51, R288) -/

/-- Starts the recovery sequence once the unit quorum has authorized it: RECOVER is set, the sources are tested afresh, and the operation waits for the sequence's end. An open progress mark refuses it (R439). -/
def Core.startRecovery (c : Core) (tid : Nat) (t : Task) (m : Mode) : Op (Core × OpEnd) := do
  c.portZero t
  need c (c.g.mode == m && c.g.recovery.isNone) c.modeRefused
  need c (!c.markOpen) (Status.modeRefused, 0x345)
  need c (t.formOk 0 false false (some 0) 0) requestFormat
  let c ← c.gateTask t unitGroup
  return ({ c with g := { c.g with recover := true, recovery := some (tid, m == .zeroized) }, ent := c.ent.startRecovery }, { held := true })

/-- CU_RELEASE (R51). -/
def execCuRelease (tid : Nat) (s : State) : Host.Outcome State Fault Refusal :=
  run (fun c => c.cuOp tid 0x30A (fun c t => c.startRecovery tid t .safeHalt)) s

/-- CU_RECOMMISSION (R288). -/
def execCuRecommission (tid : Nat) (s : State) : Host.Outcome State Fault Refusal :=
  run (fun c => c.cuOp tid 0x30B (fun c t => c.startRecovery tid t .zeroized)) s

end Sys2Proof.Machine
end

