-- ==== Sys2Proof/Machine/Fleet.lean ====
section
/-! DEFINITION. Fleet transfer (R289 to R293). -/

namespace Sys2Proof.Machine

/-! ### Member certificates (R289) -/

/-- Layout of a member certificate. -/
def certForm (b : Bytes) : Bool :=
  b.length == 320 && b.take 4 == ascii "FMC1" && allZero (cut 14 2 b) && allZero (cut 28 4 b)

/-- Fleet identifier. -/
def certFleet (b : Bytes) : Bytes := cut 4 8 b
/-- Member number. -/
def certMember (b : Bytes) : Nat := beNat (cut 12 2 b)
/-- Unit serial. -/
def certSerial (b : Bytes) : Bytes := cut 16 12 b
/-- Transport public key in the form of R319. -/
def certTransport (b : Bytes) : Bytes := (4 : Byte) :: cut 32 96 b
/-- Attestation public key in the form of R319. -/
def certAttestation (b : Bytes) : Bytes := (4 : Byte) :: cut 128 96 b

/-- The certificate has its layout and verifies under the fleet authority's key. -/
def Custody.certOk (k : Custody) (b : Bytes) : Bool :=
  let a := (4 : Byte) :: k.authority
  certForm b && p384Valid a && p384Verify a (b.take 224) (cut 224 96 b)

/-- FL_AUTHORITY (R289). -/
def execFlAuthority (tid : Nat) (s : State) : Host.Outcome State Fault Refusal :=
  run (fun c => c.cuOp tid 0x310 (fun c t => do
    c.portZero t
    need c (c.lcState == 1) c.modeRefused
    need c (t.formOk 0 false false (some 104) 0) requestFormat
    need c c.cc.cust.fleetId.isNone (Status.inputFormat, 0x30F)
    let c ← c.gateTask t unitGroup
    return (c.updCust (fun k => { k with fleetId := some (t.source.take 8), authority := t.source.drop 8 }), {}))) s

/-- FL_MEMBER (R289): the member number is set once. -/
def execFlMember (tid : Nat) (s : State) : Host.Outcome State Fault Refusal :=
  run (fun c => c.cuOp tid 0x311 (fun c t => do
    c.portZero t
    need c (c.lcState == 1) c.modeRefused
    need c (t.formOk 0 false false none 0) requestFormat
    need c c.cc.cust.member.isNone (Status.inputFormat, 0x30F)
    let b := t.source
    need c (c.cc.cust.fleetId.isSome && c.cc.cust.certOk b && c.cc.cust.fleetId == some (certFleet b) && certSerial b == c.serialBytes
        && (certTransport b).drop 1 == c.transportPublic && (certAttestation b).drop 1 == c.attPublic) (Status.authFail, 0x311)
    let c ← c.gateTask t unitGroup
    return (c.updCust (fun k => { k with member := some (certMember b) }), { res0 := certMember b }))) s

/-! ### Transfer blobs (R291) -/

/-- The fixed header of a blob's key block. -/
def blobHeader : Bytes := ascii "D0144K1AE00E0000"

/-- The key-encryption key of a blob. -/
def blobKek (z head : Bytes) : Ctx := { usage := Usage.kek, alg := 4, bitLen := 256, key := transportKdf z (ascii "FTB1") head }

/-- The first 64 bytes of a blob, for a target's certificate. -/
def Core.blobHead (c : Core) (gen : Nat) (n : Node) (cert : Bytes) (counter : Nat) : Bytes :=
  let k := c.cc.cust
  ascii "FTB1" ++ k.fleetId.getD [] ++ c.serialBytes ++ beBytes 2 (k.member.getD 0) ++ beBytes 2 (certMember cert) ++ certSerial cert
    ++ beBytes 2 n.domain ++ [byte n.level, byte n.usage, 4, byte n.attrs] ++ beBytes 2 gen ++ beBytes 8 n.label ++ beBytes 8 counter

/-- The blob for a node, with an ephemeral key and padding of the Fondant. -/
def Core.blob (c : Core) (i gen : Nat) (n : Node) (cert : Bytes) (counter : Nat) : Bytes × Core :=
  let head := c.blobHead gen n cert counter
  let (r, c) := c.fondant
  let d := p384Scalar r
  let (pad, c) := c.fondant
  let key : Ctx := { usage := Usage.kek, alg := 4, bitLen := 256, attrs := attrExportable, key := c.keyOf i }
  let kb := kbWrap (blobKek (p384.ecdh d (certTransport cert)) head) key blobHeader (cut 0 14 pad)
  c.attest (head ++ (p384.publicKey d).drop 1 ++ kb)

/-- The transfer counter is incremented; its reservation in flash covers 256 values (R290). -/
def Custody.nextTransfer (k : Custody) : Custody :=
  let n := (k.xfer + 1) % 2 ^ 64
  { k with xfer := n, xferMark := if k.xfer < k.xferMark then k.xferMark else k.xfer + 256 }

/-- FL_EXPORT (R290). -/
def execFlExport (tid : Nat) (s : State) : Host.Outcome State Fault Refusal :=
  run (fun c => c.cuOp tid 0x312 (fun c t => do
    let d := bits 11 0 t.param
    c.domainPort t d
    need c (c.g.mode != .analysis) c.modeRefused
    let (c, x) ← c.opKey tid t t.key0 d 1
    need c (t.formOk 0xFFF true false (some 320) 400) (Status.inputFormat, 0x312)
    let p ← c.parentOf x
    need c (decide (p.node.level ≤ 3)) (Status.inputFormat, 0x202)
    let cert := t.source
    let k := c.cc.cust
    need c (k.fleetId.isSome && k.member.isSome && k.fleetId == some (certFleet cert)) (Status.authFail, 0x310)
    need c (k.certOk cert) (Status.authFail, 0x311)
    need c (bit 0 p.node.attrs) (Status.keyUseDenied, 0x205)
    let c ← c.gateTask t d
    let c := c.updCust (·.nextTransfer)
    let (b, c) := c.blob p.index p.gen p.node cert c.cc.cust.xfer
    return (c, { res0 := c.cc.cust.xfer, res1 := 400, data := b }))) s

/-- Layout of a blob for a domain (check 2 of R292). -/
def blobForm (b : Bytes) (d : Nat) : Bool :=
  let level := byteAt 42 b
  let usage := byteAt 43 b
  b.length == 400 && b.take 4 == ascii "FTB1" && beNat (cut 40 2 b) == d && byteAt 44 b == 4
    && ((level == 2 && usage == Usage.root && allZero (cut 48 8 b)) || (level == 3 && usage == Usage.branch && !allZero (cut 48 8 b)))
    && cut 160 16 b == blobHeader

/-- The owner tag that the module gives a transferred node (R293): the source member number and the low 6 bytes of the transfer counter. -/
def transferTag (member counter : Nat) : Bytes := beBytes 2 member ++ beBytes 6 (counter % 2 ^ 48)

/-- The slot of a node that a source member and counter transferred: its ORIGIN is TRANSFERRED and its owner tag names them (R292, R293). -/
def KeyTree.transferred (k : KeyTree) (member counter : Nat) : Option (Nat × KSlot × Node) :=
  k.slots.findSome? (fun e => match e.2.node with
    | some n => if bits 5 4 n.attrs = 3 ∧ n.owner = transferTag member counter then some (e.1, e.2, n) else none
    | none => none)

/-- The key a blob carries (check 8 of R292). The block's header is fixed, is compared in check 2 and is not read through R232 (R291). -/
def Core.openBlob (c : Core) (b : Bytes) : Op Bytes := do
  let eph := (4 : Byte) :: cut 64 96 b
  need c (p384Valid eph) (Status.authFail, 0x212)
  let kek := blobKek (p384.ecdh c.transportSecret eph) (b.take 64)
  let (alg, key) ← c.block (kbOpen kek (cut 160 144 b) 144)
  need c (alg == 4) (Status.inputFormat, 0x210)
  return key

/-- Where an imported node goes (R293): its slot, its parent and the parent's generation. -/
def Core.transferSlot (c : Core) (level d label : Nat) : Op (Nat × Nat × Nat) :=
  if level = 2 then do
    c.rootFree d
    return (d, 0, 0)
  else do
    let root := c.cc.kt.slot d
    match root.state, root.node with
    | .live, some rn =>
      need c (c.cc.kt.childWith { index := d, gen := root.gen, node := rn } label).isNone (Status.inputFormat, 0x204)
      let i ← c.takeSlot
      return (i, d, root.gen)
    | _, _ => throw (.refused c (Status.keyVoid, 0))

/-- FL_IMPORT (R292, R293). -/
def execFlImport (tid : Nat) (s : State) : Host.Outcome State Fault Refusal :=
  run (fun c => c.cuOp tid 0x313 (fun c t => do
    let d := bits 11 0 t.param
    c.domainPort t d
    need c (c.g.mode != .analysis) c.modeRefused
    let b := t.source.take 400
    let cert := t.source.drop 400
    let k := c.cc.cust
    let member := beNat (cut 24 2 b)
    let counter := beNat (cut 56 8 b)
    let gen := beNat (cut 46 2 b)
    need c (t.formOk 0xFFF false false (some 720) 0 && blobForm b d && decide (1 ≤ gen)) (Status.inputFormat, 0x312)
    need c (k.fleetId.isSome && k.member.isSome && k.fleetId == some (cut 4 8 b) && k.fleetId == some (certFleet cert)) (Status.authFail, 0x310)
    need c (k.certOk cert && certSerial cert == cut 12 12 b && certMember cert == member) (Status.authFail, 0x311)
    need c (cut 28 12 b == c.serialBytes && k.member == some (beNat (cut 26 2 b))) (Status.authFail, 0x303)
    need c (p384Valid (certAttestation cert) && p384Verify (certAttestation cert) (b.take 304) (cut 304 96 b)) (Status.authFail, 0x306)
    let level := byteAt 42 b
    let label := beNat (cut 48 8 b)
    match c.cc.kt.transferred member counter with
    | some (i, sl, n) =>
      if sl.state == .live then
        return (c, { res0 := handleOf i sl.gen n.domain, res1 := b2n (sl.gen == gen) })
      throw (.refused c (Status.authFail, 0x313))
    | none => pure ()
    let key ← c.openBlob b
    let (i, parent, parentGen) ← c.transferSlot level d label
    let c ← c.gateTask t d
    let n : Node :=
      { level := level, parent := parent, parentGen := parentGen, domain := d, usage := byteAt 43 b, alg := 4, bitLen := 256,
        attrs := newAttrs (b2n (bit 0 (byteAt 45 b))) 3 false false, label := label,
        owner := transferTag member counter }
    let g := max (c.cc.kt.slot i).gen gen
    let (c, n) := c.placeNode i g n key
    let c := (c.ktCommit (some tid) none (creationRecs i g n (c.cc.kt.slot n.parent).node)).edge (c.domainPorts d) 135
    let c := if level = 2 then c.edge (c.domainPorts d) 114 else c
    return (c, { res0 := handleOf i g d, res1 := b2n (g == gen), held := true }))) s

end Sys2Proof.Machine
end

