-- ==== Sys2Proof/Machine/Cpath.lean ====
section
/-! DEFINITION. The trusted path (R286, R287): frames, requests, responses and rejects. A request is a task outside every port's quota, in a staging slot of its own, with port 4. -/

namespace Sys2Proof.Machine

/-! ### Frames (R286) -/

/-- One bit of the reflected CRC-32 of IEEE 802.3. -/
def crc32Bit (r : Nat) : Nat := if r % 2 = 1 then (r / 2) ^^^ 0xEDB88320 else r / 2

/-- CRC-32 of IEEE 802.3. -/
def crc32 (b : Bytes) : Nat := (b.foldl (fun r x => iter crc32Bit 8 (r ^^^ x.toNat)) 0xFFFFFFFF) ^^^ 0xFFFFFFFF

/-- A frame of a type and payload. -/
def cpathFrame (type : Nat) (payload : Bytes) : Bytes :=
  let body := byte type :: (beBytes 2 payload.length ++ payload)
  (0x5A : Byte) :: (body ++ beBytes 4 (crc32 body))

/-- Type of a frame. -/
def frameType (f : Bytes) : Nat := byteAt 1 f
/-- Payload length field of a frame. -/
def frameLen (f : Bytes) : Nat := beNat (cut 2 2 f)
/-- Payload of a frame. -/
def framePayload (f : Bytes) : Bytes := cut 4 (frameLen f) f

/-- Staging slot of CPATH requests: the one above those of the ring pairs. -/
def Core.cpathSlot (c : Core) : Nat := Config.inflight c.g.variant

/-- Counts a rejected or discarded frame (R287). -/
def Core.cpathDrop (c : Core) : Core := c.edge 1 134

/-- Sends a REJECT. -/
def Core.cpathReject (c : Core) (f : Bytes) (code : Nat) : Core :=
  (c.send (.cpath (cpathFrame 0xFF (cut 0 2 (framePayload f) ++ [byte code])))).cpathDrop

/-- Modes in which CPATH is served (R287). -/
def Core.cpathMode (c : Core) (op : Nat) : Bool :=
  match c.g.mode with
  | .retain => false
  | .wake => false
  | .seed => false
  | .transit => false
  | .safeHalt => custodyH.contains op
  | .zeroized => custodyH.contains op
  | _ => true

/-- Codes that CPATH serves (R287). -/
def cpathCodes : List Nat := [0x300, 0x301, 0x302, 0x306, 0x308]

/-- The task of a request: its entry names the CUSTODY operation, PARAM and KEY0; the frame holds its source. -/
def Core.cpathTask (c : Core) (f : Bytes) : Task :=
  let p := framePayload f
  let src := p.drop 14
  let entry := [byte clsCustody, 0] ++ cut 2 2 p ++ zeros 8 ++ cut 4 4 p ++ cut 8 6 p ++ zeros 26 ++ leBytes 3 src.length ++ zeros 13
  { st := .admitted, port := 4, ring := 2 ^ 20, slice := 2 ^ 20, entry := entry, deadline := c.now + BitVec.ofNat 48 (2 ^ 46), due := c.clock + 2 ^ 46,
    seq := (c.cc.seq + 1) % 2 ^ 48, hasRecord := false, strict := false, work := src, trays := zeros 384,
    flags := admissionFlags false false false false false }

/-- Admits a request (R287). -/
def Core.cpathAdmit (c : Core) (f : Bytes) : Core :=
  let t := c.cpathTask f
  ({ c with cpath := { c.cpath with busy := some f } } : Core).updCC (fun s => { s with tasks := Table.put c.cpathSlot t s.tasks, seq := t.seq })

/-- A whole frame has arrived. -/
def Core.cpathArrive (c : Core) (f : Bytes) : Core :=
  let n := frameLen f
  let p := framePayload f
  let op := leNat (cut 2 2 p)
  let again := match c.cpath.last with
    | some (q, r) => if q = f then some r else none
    | none => none
  if !Config.cpath c.g.variant || c.g.mode == .retain || byteAt 0 f != 0x5A then c
  else if f.length < 8 ∨ n > 1024 ∨ f.length ≠ n + 8 then c.cpathReject f 2
  else if crc32 (cut 1 (n + 3) f) ≠ beNat (cut (n + 4) 4 f) then c.cpathReject f 1
  else if frameType f ≠ 1 then c.cpathReject f 3
  else if n < 14 then c.cpathReject f 2
  else if c.cpath.busy.isSome then c.cpathReject f 4
  else match again with
    | some r => c.send (.cpath r)
    | none =>
      if !cpathCodes.contains op then c.cpathReject f 5
      else if !c.cpathMode op then c.cpathReject f 6
      else c.cpathAdmit f

/-- CPATH_REQUEST (R287). -/
def execCpathRequest (frame : Bytes) (s : State) : Host.Outcome State Fault Refusal := run (fun c => c.cpathArrive frame) s

/-- The RESPONSE frame of a finished request (R286). -/
def Task.cpathResponse (t : Task) (f : Bytes) : Bytes :=
  cpathFrame 0x81 (cut 0 2 (framePayload f) ++ [byte t.status, 0] ++ leBytes 2 t.detail ++ leBytes 8 (t.res0.getD 0) ++ leBytes 8 (t.res1.getD 0)
    ++ t.out.take 512)

/-- CPATH_RESPONSE (R287): the outcome of the request, once its epoch is glazed. -/
def Core.cpathAnswer (c : Core) : Core :=
  match c.cpath.busy, c.task c.cpathSlot with
  | some f, some t =>
    if t.st != .retired || t.staged.getD 0 > c.cont.glazed || !c.leaseHeld then c
    else
      let r := t.cpathResponse f
      let c := { c with cpath := { busy := none, last := some (f, r) } }
      (c.updCC (fun s => { s with tasks := Table.del c.cpathSlot s.tasks })).send (.cpath r)
  | _, _ => c

/-- CPATH_RESPONSE (R287). -/
def execCpathResponse (s : State) : Host.Outcome State Fault Refusal := run Core.cpathAnswer s

/-- CPATH_FRAME_TIMEOUT (R286): a frame whose bytes stop for more than 1 ms is discarded without reply. -/
def execCpathFrameTimeout (s : State) : Host.Outcome State Fault Refusal :=
  run (fun c => if !Config.cpath c.g.variant || c.g.mode == .retain then c else c.cpathDrop) s

/-- A takeover re-executes a request whose admission was lost with its epoch (R287). -/
def Core.cpathReplay (c : Core) : Core :=
  match c.cpath.busy, c.task c.cpathSlot with
  | some f, none => c.cpathAdmit f
  | _, _ => c

end Sys2Proof.Machine
end

