-- ==== Sys2Proof/Machine/Sieve.lean ====
section
/-! DEFINITION. The Sieve: entries and search order (R355 to R359), the LOOKUP step (R360), route caches (R362, R363), bank parity and repair (R365 to R367), and the update of the table (R368 to R372). -/

namespace Sys2Proof.Machine

/-! ### Entries -/

/-- Prefix length (R355): one more than the last digit that is no wildcard. -/
def SvEntry.plen (e : SvEntry) : Nat := (e.digits.zipIdx).foldl (fun a x => if x.1 ≠ 15 then x.2 + 1 else a) 0

/-- The entry matches the nibbles of a PAN operand and a rule class, 0 for any (R356, R358). -/
def SvEntry.fits (e : SvEntry) (ns : List Nat) (rule : Nat) : Bool :=
  (List.zip e.digits ns).all (fun x => x.1 == 15 || x.1 == x.2) && (rule == 0 || e.rule == rule)

/-- The winner (R357): the longest prefix, and among equals the lowest position. -/
def svBest (ns : List Nat) (rule : Nat) (tb : Table SvEntry) : Option SvEntry :=
  tb.foldl (fun b x =>
    if !x.2.fits ns rule then b
    else match b with
      | some e => if e.plen < x.2.plen then some x.2 else some e
      | none => some x.2) none

/-- KMAX: the largest prefix length of a table (R362). -/
def svKmax (tb : Table SvEntry) : Nat := tb.foldl (fun a x => max a x.2.plen) 0

/-- The 8 bytes of R359 as a number. -/
def SvEntry.word (e : SvEntry) (retried : Bool) : Nat :=
  e.keyset + at_ 18 e.domain + at_ 30 e.flags + at_ 46 (b2n retried) + at_ 47 1 + at_ 48 e.plen + at_ 56 e.rule

/-! ### Parity (R365 to R367) -/

/-- The bank is usable. -/
def Siv.ok (s : Siv) (b : Nat) : Bool := s.usable.getD b false

/-- A bank becomes unusable; the other one answers searches where it can (R367). -/
def Core.bankFails (c : Core) (b : Nat) : Core :=
  if !c.siv.ok b then c
  else
    let s := { c.siv with usable := upd b (fun _ => false) c.siv.usable }
    ({ c with siv := { s with primary := if s.primary = b ∧ s.ok (1 - b) then 1 - b else s.primary } } : Core).pulseAll 97

/-- SIV_PARITY after an error at a position of a bank. -/
def parityCount (w : W48) (b p : Nat) : W48 :=
  w48 (at_ 44 b + at_ 26 p + at_ 16 (bits 23 16 w.toNat) + sat 16 (bits 15 0 w.toNat + 1))

/-- An entry of a bank was rewritten within the last second (R367). -/
def Core.rewrittenLately (c : Core) (b p : Nat) : Bool :=
  match Table.find (b * 2 ^ 18 + p) c.siv.rewritten with
  | some t => !later c.now (t + 100000000)
  | none => false

/-- An entry with bad parity is recorded and rewritten (R365). -/
def Core.noteParity (c : Core) (b p : Nat) : Core :=
  ({ c with
    r := { c.r with sivParity := parityCount c.r.sivParity b p }
    siv := { c.siv with rewritten := Table.put (b * 2 ^ 18 + p) c.now c.siv.rewritten } } : Core).pulseAll 96

/-- One entry with bad parity (R365): its bank is marked unusable when the entry fails again within 1 s (R367). -/
def Core.parityError (c : Core) (b p : Nat) : Core :=
  if c.rewrittenLately b p then (c.noteParity b p).bankFails b else c.noteParity b p

/-- One search of a bank, with the positions found with bad parity: whether it counts. -/
def Core.bankSearch (c : Core) (b : Nat) (bad : List Nat) : Core × Bool :=
  let bad := bad.filter (· < Config.sieveEntries c.g.variant)
  (bad.foldl (fun c p => c.parityError b p) c, bad.isEmpty)

/-- The twin mirrors the primary: it holds the same generation and no mirror is open (R364, R371). -/
def Siv.mirrors (s : Siv) : Bool := s.ok 0 && s.ok 1 && !s.mirrorOpen && s.bankGen.getD 0 0 == s.bankGen.getD 1 0

/-- Bank searches are suspended while the only usable bank loads (R372). -/
def Siv.suspended (s : Siv) : Bool :=
  s.ok 0 != s.ok 1 && (match s.commit with
    | some k => k.step == 3
    | none => false)

/-- A search that ends with INTERNAL is counted (R366). -/
def Core.doubleFault (c : Core) : Core :=
  let w := c.r.sivParity.toNat
  { c with r := { c.r with sivParity := w48 (at_ 24 (bits 47 24 w) + at_ 16 (sat 8 (bits 23 16 w + 1)) + bits 15 0 w) } }

/-- The bank that a repeated search takes: the one named while it is usable, else the other one of the same generation; a bank that has just been marked unusable answers nothing (R366, R367). -/
def Siv.bankFor (s : Siv) (b : Nat) : Option Nat :=
  if s.ok b then some b else if s.ok (1 - b) && s.bankGen.getD (1 - b) 0 == s.gen then some (1 - b) else none

/-- A repeated search: whether its answer stands; none where no bank is left. While the only usable bank loads, the backing copy answers (R372). -/
def Core.searchAgain (c : Core) (b : Nat) (bad : List Nat) : Core × Option Bool :=
  if c.siv.suspended then (c, some true) else
  match c.siv.bankFor b with
  | none => (c, none)
  | some b => let r := c.bankSearch b bad; (r.1, some r.2)

/-- A bank search with its repeats (R366): whether the answer stands, and whether it is a repeated search's. -/
def Core.search (c : Core) (parity : List (List Nat)) : Core × Option Bool :=
  let p := c.siv.primary
  let twin := c.siv.mirrors
  if !c.siv.ok 0 && !c.siv.ok 1 then (c, none)
  else if c.siv.suspended then (c, some false)
  else
    match c.bankSearch p (parity.getD 0 []) with
    | (c, true) => (c, some false)
    | (c, false) =>
      match c.searchAgain (if twin then 1 - p else p) (parity.getD 1 []) with
      | (c, none) => (c, none)
      | (c, some true) => (c, some true)
      | (c, some false) =>
        if !twin then (c.doubleFault, none)
        else match c.searchAgain c.siv.primary (parity.getD 2 []) with
          | (c, none) => (c, none)
          | (c, some true) => (c, some true)
          | (c, some false) => (c.doubleFault, none)

/-! ### Route caches (R362, R363) -/

/-- The cached entry of an operand in a cluster's cache, of the current generation. -/
def Core.routeHit (c : Core) (cluster : Nat) (ns : List Nat) (rule : Nat) : Option RouteEnt :=
  (c.eng.routes.getD cluster []).find? (fun e => e.nibbles == ns && e.rule == rule && e.gen == c.siv.gen)

/-- An entry becomes the most recently used of its cache, which keeps 4,096. -/
def Core.routePut (c : Core) (cluster : Nat) (e : RouteEnt) : Core :=
  { c with eng := { c.eng with routes := upd cluster (fun l => (e :: l.filter (fun x => !(x.nibbles == e.nibbles && x.rule == e.rule))).take 4096) c.eng.routes } }

/-- A cached entry with bad parity is discarded (R363). -/
def Core.routeDrop (c : Core) (cluster : Nat) (ns : List Nat) (rule : Nat) : Core :=
  { c with eng := { c.eng with routes := upd cluster (fun l => l.filter (fun x => !(x.nibbles == ns && x.rule == rule))) c.eng.routes } }

/-- The result word of a lookup, 0 for a miss, from the route cache or the banks; none ends the step with INTERNAL. -/
def Core.lookupWord (c : Core) (cluster : Nat) (ns : List Nat) (rule : Nat) (cacheBad : Bool) (parity : List (List Nat)) : Core × Option Nat :=
  let key := ns.take (svKmax c.siv.table)
  if !c.siv.ok 0 && !c.siv.ok 1 then (c, none)
  else
    let c := if cacheBad then c.routeDrop cluster key rule else c
    match c.routeHit cluster key rule with
    | some e => (({ c with r := { c.r with sivHits := sat 48 (c.r.sivHits + 1) } } : Core).routePut cluster e, some (leNat e.bytes))
    | none =>
      match c.search parity with
      | (c, none) => (c, none)
      | (c, some retried) =>
        let w := match svBest ns rule c.siv.table with
          | some e => e.word retried
          | none => 0
        (c.routePut cluster { nibbles := key, rule := rule, gen := c.siv.gen, bytes := leBytes 8 w }, some w)

/-! ### LOOKUP -/

/-- LOOKUP (R360). -/
def Core.lookupStep (c : Core) (t : Task) (s : RStep) (cacheBad : Bool) (parity : List (List Nat)) : Core × Option StepRes :=
  match panDigits (t.rd s.a 10) with
  | .error o => (c, some { out := o })
  | .ok _ =>
    match c.lookupWord t.cluster (nibs 19 (t.rd s.a 10)) (bits 7 0 s.arg) cacheBad parity with
    | (c, none) => (c, some { out := .ends Status.internal 3 })
    | (c, some w) =>
      let c := { c with r := { c.r with sivLookups := sat 48 (c.r.sivLookups + 1), sivMisses := if w = 0 then sat 48 (c.r.sivMisses + 1) else c.r.sivMisses } }
      (c, some (if w = 0 then { out := .miss Sub.lookupMiss, writes := [(s.d, zeros 8)] }
                else if bits 29 18 w ≠ t.domain then { out := .sub Sub.domainMismatch }
                else { out := .yes, writes := [(s.d, leBytes 8 w)] }))

/-- LOOKUP (R360). -/
def execLookup (tid step : Nat) (cacheBad : Bool) (parity : List (List Nat)) (s : State) : Host.Outcome State Fault Refusal :=
  run (fun c => c.compute tid step (isOp 0x80) (fun c t s => c.lookupStep t s cacheBad parity)) s

/-! ### Records (R369, R370) -/

/-- A record. -/
structure SvRec where
  pos : Nat
  empty : Bool
  entry : SvEntry
deriving DecidableEq, Repr

/-- The entry of a record's bytes. -/
def recEntry (b : Bytes) : SvEntry :=
  { digits := nibs 19 (b.drop 8), domain := leNat (cut 6 2 b), rule := byteAt 5 b, keyset := leNat (cut 20 4 b), flags := leNat (cut 18 2 b) }

/-- A record of 32 bytes in its form, none where it breaks SV_FORMAT. -/
def recOf (b : Bytes) : Option SvRec :=
  let pos := leNat (cut 0 4 b)
  if byteAt 4 b = 1 then (if allZero (b.drop 5) then some { pos := pos, empty := true, entry := {} } else none)
  else if byteAt 4 b = 0 ∧ nib 19 (b.drop 8) = 15 ∧ allZero (b.drop 24) ∧ leNat (cut 6 2 b) < 4096 then
    some { pos := pos, empty := false, entry := recEntry b }
  else none

/-- The domain of an entry, of a record or of an image, is one the caller's port may administer (R370). -/
def Core.svDomainOk (c : Core) (port d : Nat) : Bool := port == 0 || c.domainAllowed d port

/-- The first check of R370 that a record fails. -/
def Core.recFault (c : Core) (port : Nat) (image : Table SvEntry) (b : Bytes) : Option Ended :=
  let n := Config.sieveEntries c.g.variant
  match recOf b with
  | none => some (Status.inputFormat, 0x601)
  | some r =>
    firstBad
      [(decide (n ≤ r.pos), (Status.inputFormat, 0x602)),
       (!r.empty && r.entry.digits.any (fun d => decide (10 ≤ d) && decide (d ≤ 14)), (Status.inputFormat, 0x603)),
       (!r.empty && r.entry.rule == 0, (Status.inputFormat, 0x604)),
       ((!r.empty && !c.svDomainOk port r.entry.domain) || (match Table.find r.pos image with
          | some e => !c.svDomainOk port e.domain
          | none => false), (Status.keyUseDenied, 0x605)),
       (!r.empty && decide (n ≤ r.entry.keyset), (Status.inputFormat, 0x606))]

/-- A record applied to an image. -/
def applyRec (image : Table SvEntry) (b : Bytes) : Table SvEntry :=
  match recOf b with
  | some r => if r.empty then Table.del r.pos image else Table.put r.pos r.entry image
  | none => image

/-- The record that SV_READ returns for an entry, hidden from a port without its domain (R368). -/
def Core.recBytes (c : Core) (port pos : Nat) (e : SvEntry) : Bytes :=
  if c.svDomainOk port e.domain then
    leBytes 4 pos ++ [0, byte e.rule] ++ leBytes 2 e.domain ++ packNibs 15 e.digits ++ leBytes 2 e.flags ++ leBytes 4 e.keyset ++ zeros 8
  else zeros 4 ++ [2] ++ zeros 27

/-- The higher position of the first pair of entries with one prefix and one rule class (R370). -/
def shadowed (seen : List (List Nat × Nat)) : Table SvEntry → Option Nat
  | [] => none
  | (p, e) :: l => if seen.contains (e.digits, e.rule) then some p else shadowed ((e.digits, e.rule) :: seen) l

/-! ### Operations (R368) -/

/-- An operation that a check of R370 ends, with the word that RESULT0 then holds. -/
def svRefused (e : Ended) (res0 : Nat) : OpEnd := { status := e.1, detail := e.2, res0 := res0 }

/-- SV_STAGE_STATE. -/
def stageState : Ended := (Status.inputFormat, 0x608)
/-- SV_FORMAT. -/
def svFormat : Ended := (Status.inputFormat, 0x601)

/-- Runs a Sieve operation (R368): none runs in ANALYSIS, and PARAM holds nothing but the bits of a mask. -/
def Core.svOp (c : Core) (tid op mask : Nat) (f : Core → Task → Op (Core × OpEnd)) : Core :=
  c.runOp tid clsAdmin op (fun c t => do
    need c (c.g.mode != .analysis) c.modeRefused
    need c (t.param &&& mask == t.param) svFormat
    f c t)

/-- SV_OPEN (R368). -/
def execSvOpen (tid : Nat) (s : State) : Host.Outcome State Fault Refusal :=
  run (fun c => c.svOp tid 0x600 1 (fun c t => do
    need c c.cc.stage.isNone stageState
    let image := if bit 0 t.param then [] else c.siv.table
    return (c.updCC (fun s => { s with stage := some { owner := t.port, image := image } }), { res0 := c.siv.gen, res1 := image.length }))) s

/-- The staging image of a caller that owns it. -/
def Core.ownStage (c : Core) (t : Task) : Op (Table SvEntry) :=
  match c.cc.stage with
  | some st => if st.owner = t.port then .ok st.image else .error (.refused c stageState)
  | none => .error (.refused c stageState)

/-- SV_WRITE (R370). -/
def execSvWrite (tid : Nat) (s : State) : Host.Outcome State Fault Refusal :=
  run (fun c => c.svOp tid 0x601 0 (fun c t => do
    let image ← c.ownStage t
    need c (decide (32 ≤ t.srcLen) && decide (t.srcLen ≤ 65536) && t.srcLen % 32 == 0) svFormat
    let recs := chunks 32 t.source
    match (recs.zipIdx).findSome? (fun x => (c.recFault t.port image x.1).map (fun e => (e, x.2))) with
    | some (e, i) => return (c, svRefused e i)
    | none =>
      let image := recs.foldl applyRec image
      return (c.updCC (fun s => { s with stage := some { owner := t.port, image := image } }), { res0 := recs.length, res1 := image.length }))) s

/-- Steps 1 and 2 of R371 and R372: the image becomes the master and a backing copy, and the twin, or the usable bank, begins to load. With no usable bank the commit ends here. -/
def Core.svStart (c : Core) (tid : Nat) (t : Task) (image : Table SvEntry) : Core × OpEnd :=
  let gen := c.flash.svGen + 1
  let any := c.siv.ok 0 || c.siv.ok 1
  let c := { c with
    flash := { c.flash with svMaster := image, svGen := gen }
    siv := if any then { c.siv with next := some image, mirrorOpen := true, commit := some { tid := tid, seq := t.seq, step := 3 } } else c.siv }
  (c.updCC (fun s => { s with stage := none }), { res0 := gen, res1 := image.length, held := any })

/-- A commit is under way. -/
def Siv.busy (s : Siv) : Bool :=
  match s.commit with
  | some k => k.step != 7
  | none => false

/-- The staging image and the admission of a commit are glazed: no takeover gives the operation another image or another sequence number (R371, R387). -/
def Core.svGlazed (c : Core) (tid : Nat) (t : Task) : Bool :=
  c.mirror.stage == c.cc.stage && (match c.mirror.task tid with
    | some m => m.seq == t.seq && m.st != .fetching
    | none => false)

/-- SV_COMMIT (R370 to R372). It waits for another commit, and until what it takes is glazed (DESIGN CHOICE, log entry 112). After a takeover the re-executed operation resumes the commit that the Sieve records. -/
def execSvCommit (tid : Nat) (s : State) : Host.Outcome State Fault Refusal :=
  run (fun c => c.svOp tid 0x602 0 (fun c t => do
    let same := match c.siv.commit with
      | some k => k.tid == tid && k.seq == t.seq
      | none => false
    if same then
      return (c.updCC (fun s => { s with stage := none }),
        { res0 := c.flash.svGen, res1 := c.flash.svMaster.length, held := (match c.siv.commit with
            | some k => k.step == 3
            | none => false) })
    else
      let image ← c.ownStage t
      if c.siv.busy || !c.svGlazed tid t then throw (.wait c)
      match shadowed [] image with
      | some p => return (c, svRefused (Status.inputFormat, 0x607) p)
      | none => return c.svStart tid t image)) s

/-- SV_ABORT (R368). -/
def execSvAbort (tid : Nat) (s : State) : Host.Outcome State Fault Refusal :=
  run (fun c => c.svOp tid 0x603 0 (fun c t => do
    match c.cc.stage with
    | some st =>
      need c (st.owner == t.port || t.port == 0) stageState
      return ((c.updCC (fun s => { s with stage := none })).edge c.linkMask 99, {})
    | none => throw (.refused c stageState))) s

/-- SV_READ (R368). -/
def execSvRead (tid : Nat) (s : State) : Host.Outcome State Fault Refusal :=
  run (fun c => c.svOp tid 0x604 0x3FFFF (fun c t => do
    need c (t.dstLen % 32 == 0) svFormat
    let l := c.siv.table.filter (fun x => decide (t.param ≤ x.1))
    let got := l.take (t.dstLen / 32)
    let next := if got.length = l.length then max t.param (Config.sieveEntries c.g.variant) else (match got.getLast? with
      | some x => x.1 + 1
      | none => t.param)
    let data := (got.map (fun x => c.recBytes t.port x.1 x.2)).flatten
    return (c, { res0 := next, res1 := data.length, data := data }))) s

/-! ### Loading -/

/-- The table generation changes (R371 step 4, R372 step 4): one indivisible change of primary bank and generation, and the commit's completion is staged. -/
def Core.svSwap (c : Core) (bank tid step : Nat) (mirrorOpen : Bool) : Core :=
  let k := c.flash.svGen
  let c := ({ c with siv := { c.siv with
      table := c.siv.next.getD [], next := none, gen := k, primary := bank, bankGen := upd bank (fun _ => k) c.siv.bankGen
      mirrorOpen := mirrorOpen, commit := c.siv.commit.map (fun x => { x with step := step }) } } : Core).pulseAll 98
  match c.task tid with
  | some t => if t.st == .committing && t.opclass == clsAdmin && t.opcode == 0x602 then (c.updTask tid (fun t => { t with st := .ending })).tryRetire tid else c
  | none => c

/-- SIEVE_BANK_LOAD_END (R371 steps 3 to 5, R372 steps 3 to 5). -/
def Core.bankLoaded (c : Core) : Core :=
  if !c.leaseHeld then c else
  match c.siv.commit with
  | none => c
  | some k =>
    let p := c.siv.primary
    let setStep (n : Nat) (c : Core) : Core := { c with siv := { c.siv with commit := some { k with step := n }, mirrorOpen := n != 7 && c.siv.mirrorOpen } }
    if k.step = 3 then
      (if c.siv.ok 0 && c.siv.ok 1 then c.svSwap (1 - p) k.tid 5 true
       else if c.siv.ok 0 || c.siv.ok 1 then c.svSwap (if c.siv.ok 0 then 0 else 1) k.tid 7 false
       else
         let c := setStep 7 { c with siv := { c.siv with next := none } }
         match c.task k.tid with
         | some t => if t.st == .committing then (c.updTask k.tid (fun t => { t with st := .ending })).tryRetire k.tid else c
         | none => c)
    else if k.step = 6 then
      setStep 7 { c with siv := { c.siv with bankGen := upd (1 - p) (fun _ => c.siv.gen) c.siv.bankGen } }
    else c

/-- SIEVE_BANK_LOAD_END (R371). -/
def execSieveBankLoadEnd (s : State) : Host.Outcome State Fault Refusal := run Core.bankLoaded s

/-- SIEVE_SEARCHES_DRAINED (R371 step 5). -/
def execSieveSearchesDrained (s : State) : Host.Outcome State Fault Refusal :=
  run (fun c =>
    match c.siv.commit with
    | some k => if k.step = 5 ∧ c.leaseHeld then { c with siv := { c.siv with commit := some { k with step := 6 } } } else c
    | none => c) s

end Sys2Proof.Machine
end

