-- ==== Sys2Proof/Machine/Glaze.lean ====
section
/-! DEFINITION. The Lozenge and the Glaze: leases and epochs (R375 to R384), takeover (R385, R387 to R389), the return of a failed complex (R390), and the loss of both (R391). -/

namespace Sys2Proof.Machine

/-! ### Complexes -/

/-- Changes the continuity unit. -/
def Core.updCont (c : Core) (f : Cont → Cont) : Core := { c with cont := f c.cont }

/-- Sets the state of a complex. -/
def Cont.setCx (k : Cont) (n : Nat) (s : CxSt) : Cont := { k with cx := upd n (fun _ => s) k.cx }

/-- State of a complex. -/
def Cont.cxOf (k : Cont) (n : Nat) : CxSt := k.cx.getD n .unusable

/-- The complex qualifies under step 4 of R379: it mirrors and its health report is good. -/
def Cont.qualifies (k : Cont) (n : Nat) : Bool := k.mirrors n && k.healthy.getD n false

/-- An UPDATE ends, completed or reverted (R47, R402): a reverted one returns each complex to the committed image. -/
def Core.endUpdate (c : Core) (reverted : Bool) : Core :=
  let c := c.updCont (fun k => { k.leaveUpdate with fw := if reverted then [c.flash.fwCommitted, c.flash.fwCommitted] else k.fw })
  let c := { c with g := { c.g with updateReverted := c.g.updateReverted || reverted } }
  ((match c.g.mode with
    | .update => c.setMode c.serveMode
    | _ => c) : Core).pulseAll 16

/-- A complex becomes UNUSABLE: counted, told by source 2 (R390). An UPDATE whose trial complex it is ends reverted. -/
def Core.makeUnusable (c : Core) (n : Nat) : Core :=
  let trial := match c.cont.update with
    | some u => u.trial == n
    | none => false
  let c := (c.updCont (fun k => { k.setCx n .unusable with unusableCount := upd n (· + 1) k.unusableCount })).pulseAll 2
  if trial then c.endUpdate true else c

/-- A complex made UNUSABLE once enters the restoration of R390 in state TESTING. -/
def Core.restore (c : Core) (n : Nat) : Core :=
  if c.cont.cxOf n = .unusable ∧ c.cont.unusableCount.getD n 0 < 2 then c.updCont (·.setCx n .testing) else c

/-- Revokes or lapses the lease for a cause of CNT_TAKEOVER (R379 step 1); after anything but a handover the former holder is UNUSABLE (R390). -/
def Core.revoke (c : Core) (cause : Nat) : Core :=
  match c.cont.holder with
  | none => c
  | some h =>
    let c := c.updCont (fun k => { k with holder := none, revoked := some (cause, h), handover := none, adopting := none, resent := false })
    if cause = 4 then c else c.makeUnusable h

/-! ### Glazing an epoch -/

/-- Modes in which a life-cycle request is accepted (R433). -/
def Core.lcServed (c : Core) : Bool :=
  c.g.mode == .setup || c.g.mode == .serve || c.g.mode == .serveReduced || c.g.mode == .quiesce || c.g.mode == .analysis

/-- A life-cycle request, firmware activation or alarm configuration whose acceptance is glazed (R35, R47, R48, R413): the configuration takes effect, an activation starts its UPDATE where the mode is still SERVE, a request stops fetching, an image is staged in flash (R387). One that is overtaken, the loss of both inputs included, completes with MODE_REFUSED. -/
def Core.accept (c : Core) (tid : Nat) (t : Task) : Core :=
  if t.opclass ≠ clsCustody ∨ t.status ≠ Status.ok then c
  else if t.opcode = 0x331 then
    let n := 1 - c.cont.holder.getD 0
    if c.cont.update.isSome then c
    else if c.g.mode = .serve ∧ c.pwr.losing = 0 ∧ c.g.lcTarget = none ∧ c.cont.holder.isSome ∧ c.cont.mirrors n then
      (c.updCont (fun k => { k.setCx n .updating with update := some { trial := n, second := false, reverting := false } })).setMode .update
    else c.updTask tid (fun t => { t with status := Status.modeRefused, detail := c.g.mode.code })
  else if t.opcode = 0x330 then { c with flash := { c.flash with fwStaged := some t.source } }
  else if t.opcode = 0x320 then
    c.applyAlarmCfg (cfgOf t.source ((chunks 4 t.chain).map leNat))
  else if t.opcode = 0x340 then
    if c.g.lcTarget.isSome || c.g.mode == .transit then c
    else if c.lcServed && c.pwr.losing == 0 then { c with g := { c.g with lcTarget := some (t.res0.getD 0) } }
    else c.updTask tid (fun t => { t with status := Status.modeRefused, detail := c.g.mode.code })
  else c

/-- Tasks that wait for the glaze of their epoch, now glazed. -/
def Core.glazeReady (c : Core) : List (Nat × Task) :=
  c.cc.tasks.filter (fun e => e.2.st == .committing && e.2.commitEpoch != 0 && decide (e.2.commitEpoch ≤ c.cont.glazed))

/-- What waits for the glazed epochs: accepted requests take effect, custody commits are applied, and their operations complete (R280). -/
def Core.glazeWork (c : Core) : Core :=
  let ready := c.glazeReady.mergeSort (fun a b => decide (b.2.opcode ≤ a.2.opcode))
  (ready.foldl (fun c e => c.accept e.1 e.2) c).glazeCustody

/-- A CN_HANDOVER whose epoch is glazed: the lease is revoked when the other complex qualifies at that moment; otherwise nothing happens (R400). -/
def Core.glazeHandover (c : Core) : Core :=
  match c.cont.handover with
  | none => c
  | some (other, e) =>
    if c.cont.glazed < e then c
    else
      let c := c.updCont (fun k => { k with handover := none })
      if c.cont.qualifies other && c.cont.update.isNone then c.revoke 4 else c

/-- CNT_TAKEOVER.LAST_GAP after an epoch end is glazed. -/
def Cont.gapAt (k : Cont) (e : W48) : Nat :=
  match k.gapFrom with
  | some g => sat 16 ((e - g).toNat / 100)
  | none => k.lastGap

/-- State from which an epoch n has been glazed: its event edges are released and its violations shown (R121, R137); those of later epochs stay. -/
def CC.seen (s : CC) (n : Nat) : CC :=
  { s with
    edges := s.edges.filter (fun x => decide (n < x.1))
    caps := s.caps.filterMap (fun e => let k := e.2.seen n; if k = {} then none else some (e.1, k)) }

/-- The epoch n that ended at e is glazed (R380): the mirror holds its content, the lease is renewed (R376), the event edges of the epochs up to n and the host-log entries are released, and what waits for it follows. -/
def Core.glaze (c : Core) (n : Nat) (e : W48) (content : CC) : Core :=
  let edges := content.edges.filter (fun x => decide (x.1 ≤ n))
  let c := { c with
    cc := c.cc.seen n
    sent := (c.sent.filter (fun (x : Nat × W48 × CC) => decide (n < x.1))).map (fun (x : Nat × W48 × CC) => (x.1, x.2.1, x.2.2.seen n))
    mirror := content.seen n
    hostLog := c.hostLog.filter (fun x => decide (n < x.epoch)) }
  let c := c.updCont (fun k => { k with
    glazed := n, lastGlazeEnd := e, expiry := c.now + 2400, resent := false, lastGap := k.gapAt e, gapFrom := none })
  ((edges.foldl (fun (c : Core) (x : Nat × Nat × Nat) => c.pulse x.2.1 x.2.2) c).glazeHandover).glazeWork

/-- The oldest record sent is glazed, while a complex holds the Lozenge. -/
def Core.glazeFirst (c : Core) : Core :=
  match c.sent with
  | [] => c
  | (n, e, s) :: _ => if c.cont.holder.isSome then c.glaze n e s else c

/-- Every record sent counts as glazed, in order: simplex operation (R383). -/
def Core.glazeSent (c : Core) : Core := iter Core.glazeFirst c.sent.length c

/-- The next epoch end: a multiple of 400 ticks not yet taken (R380). -/
def Core.nextEnd (c : Core) : W48 :=
  let n := c.now.toNat
  if n % 400 = 0 ∧ c.now ≠ c.cont.lastEnd then c.now
  else if (n / 400 + 1) * 400 < 2 ^ 48 then BitVec.ofNat 48 ((n / 400 + 1) * 400) else 0

/-- Control-complex state as an epoch record carries it. -/
def CC.carried (s : CC) : CC := { s with tasks := s.tasks.map (fun e => (e.1, e.2.carried)) }

/-- The epoch in progress ends at e: its record is sent, and the next one begins. -/
def Core.endEpoch (c : Core) (e : W48) : Core :=
  ({ c with
    sent := c.sent ++ [(c.cc.epoch, e, c.cc.carried)]
    cc := { c.cc with epoch := c.cc.epoch + 1 } } : Core).updCont (fun k => { k with lastEnd := e })

/-- GLAZE_EPOCH_END (R380, R383). No epoch after the one of the loss of both inputs is glazed (R54, R449). -/
def Core.epochEnd (c : Core) : Core :=
  let e := c.nextEnd
  if c.pwr.losing != 0 || c.cont.holder.isNone || c.cont.adopting.isSome || !later c.cont.expiry e then c
  else
    let c := (c.moveTo e).endEpoch e
    if c.cont.simplex then c.glazeSent else c

/-- GLAZE_EPOCH_END (R380). -/
def execGlazeEpochEnd (s : State) : Host.Outcome State Fault Refusal := run Core.epochEnd s

/-- A complex mirrors for the holder. -/
def Core.mirrored (c : Core) : Bool :=
  match c.cont.holder with
  | some h => c.cont.mirrors (1 - h)
  | none => false

/-- GLAZE_ACK (R376, R380): the oldest unacknowledged record, before the lease expires. -/
def Core.glazeAck (c : Core) : Core :=
  match c.sent with
  | [] => c
  | (n, e, s) :: _ => if c.pwr.losing == 0 && c.leaseHeld && c.mirrored then c.glaze n e s else c

/-- GLAZE_ACK (R376). -/
def execGlazeAck (s : State) : Host.Outcome State Fault Refusal := run Core.glazeAck s

/-- GLAZE_RESEND (R382): 1.0 µs after the end of the oldest unacknowledged epoch. -/
def Core.glazeResend (c : Core) : Core :=
  match c.sent with
  | [] => c
  | (_, e, _) :: _ =>
    if !c.leaseHeld || !c.mirrored || c.cont.resent || !later c.cont.expiry (e + 100) then c
    else ((c.moveTo (e + 100)).updCont (fun k => { k with retries := sat 24 (k.retries + 1), resent := true })).pulseAll 4

/-- GLAZE_RESEND (R382). -/
def execGlazeResend (s : State) : Host.Outcome State Fault Refusal := run Core.glazeResend s

/-- GLAZE_LINK_CHECK (R382): 2.0 µs after the end, the arbiter reads both reports. A bad holder is revoked; otherwise the standby becomes UNUSABLE and the holder goes on in simplex operation. -/
def Core.linkCheck (c : Core) : Core :=
  match c.sent, c.cont.holder with
  | (_, e, _) :: _, some h =>
    if !c.leaseHeld || !c.cont.resent || !later c.cont.expiry (e + 200) then c
    else
      let c := c.moveTo (e + 200)
      if c.cont.healthy.getD h false then ((c.makeUnusable (1 - h)).restore (1 - h)).glazeSent else c.revoke 3
  | _, _ => c

/-- GLAZE_LINK_CHECK (R382). -/
def execGlazeLinkCheck (s : State) : Host.Outcome State Fault Refusal := run Core.linkCheck s

/-! ### Losing the lease -/

/-- LEASE_LAPSE (R375): at the expiry. -/
def Core.leaseLapse (c : Core) : Core := if c.cont.holder.isNone then c else (c.moveTo c.cont.expiry).revoke 2

/-- LEASE_LAPSE (R375). -/
def execLeaseLapse (s : State) : Host.Outcome State Fault Refusal := run Core.leaseLapse s

/-- HEALTH_REPORT_BAD (R377): the holder's lease is revoked at once; a standby no longer qualifies. -/
def Core.healthBad (c : Core) (n : Nat) : Core :=
  let c := c.updCont (fun k => { k with healthy := upd n (fun _ => false) k.healthy })
  if c.cont.holder = some n then c.revoke 1 else c

/-- HEALTH_REPORT_BAD (R377). -/
def execHealthReportBad (complex : Nat) (s : State) : Host.Outcome State Fault Refusal := run (fun c => c.healthBad complex) s

/-- What lies between the F to which fetching returns and the T that the log shows at the grant is suspect (R385 step 6). -/
def RingPos.suspects (p : RingPos) : RingPos := if p.started && p.f != p.t then { p with suspectTo := some p.t } else p

/-- The entries that the taken-up state makes suspect, marked at the grant (R385 step 6). -/
def Core.markSuspects (c : Core) : Core :=
  { c with mirror := { c.mirror with rings := c.mirror.rings.map (fun e => (e.1, e.2.suspects)) } }

/-- LOZENGE_GRANT (R379): the former holder's work leaves the engines, and the Lozenge goes to the other complex where it qualifies; otherwise the last one reruns its self-test (R391). -/
def Core.grantLozenge (c : Core) : Core :=
  match c.cont.revoked with
  | none => c
  | some (cause, former) =>
    let other := 1 - former
    let c := { c with eng := { c.eng with jobs := [] } }
    let updating := c.cont.update.isSome
    if c.cont.qualifies other then
      (c.updCont (fun k =>
        let k := k.setCx other .active
        let k := if cause = 4 then k.setCx former (if updating then .updating else .testing) else k
        { k with holder := some other, expiry := c.now + 2400, adopting := some cause, revoked := none, takeoverTime := c.now })).markSuspects
    else c.updCont (fun k => { k.setCx former .testing with revoked := none, lastChance := some former })

/-- LOZENGE_GRANT (R379). -/
def execLozengeGrant (s : State) : Host.Outcome State Fault Refusal := run Core.grantLozenge s

/-! ### Adoption (R385) -/

/-- A task re-dispatched after a takeover: the fields that R151 marks No return to their admission values (R152), trays 0 and 1 reload from the mirrored entry, its requests are issued again, and it is suspect (R389). -/
def Task.redispatch (halted : Bool) (t : Task) : Task :=
  { st := .admitted, port := t.port, ring := t.ring, slice := t.slice, entry := t.entry, suspect := true, domain := t.domain, deadline := t.deadline, due := t.due,
    seq := t.seq, cluster := t.cluster, credits := t.credits, hasRecord := t.hasRecord, fenced := t.fenced, strict := t.strict, needs := t.needs,
    image := t.image, slot := t.slot
    work := if t.port = 4 then t.work else []
    trays := patch 0 (if t.ext then cut 8 64 t.inline else []) (zeros 384)
    flags := if t.port = 4 then admissionFlags false false false false false
      else if halted then admissionFlags false (t.srcLen != 0) false false false
      else admissionFlags t.fenced (t.srcLen != 0) t.needsKey0 t.needsKey1 (t.rndLen != 0) }

/-- A task whose retirement is glazed: what staging still holds of it is what the former holder had not yet issued (R385 step 4); a STRICT completion decided in a lost epoch is staged anew. -/
def Task.keepRetired (live : Option Task) (epoch : Nat) (t : Task) : Task :=
  match live with
  | some l =>
    if l.seq = t.seq ∧ l.st = .retired then { l with staged := l.staged.map (fun e => min e epoch) }
    else { t with pieces := [], staged := some (t.staged.getD epoch) }
  | none => { t with pieces := [], staged := some (t.staged.getD epoch) }

/-- A task of the mirror as the new holder takes it up; an entry refused at admission that waits for its fence has nothing to run again. -/
def Task.adopt (halted : Bool) (live : Option Task) (epoch : Nat) (t : Task) : Task :=
  match t.st with
  | .retired => t.keepRetired live epoch
  | .committing => t
  | .aborting => t
  | _ => if t.refused then t else t.redispatch halted

/-- A violation that no re-run finds again: its task is admitted in the glazed state, which does not hold it unretired (R121). Fetches are made again. -/
def CC.losesViol (m : CC) (v : Viol) : Bool :=
  (v.posted || v.access != 1) && (v.seq == m.seq || earlierSeq v.seq m.seq) && !m.tasks.any (fun e => e.2.seq == v.seq && e.2.st != .retired && !e.2.gone)

/-- A violation recorded in an epoch. -/
def SlcCap.carry (epoch : Nat) (p : SlcCap) (v : Viol) : SlcCap :=
  if v.posted then p.notice epoch v.seq v.iova else p.violate epoch v.seq v.access v.cause v.ring v.tag v.iova

/-- The unglazed violations of the live state that no re-run finds again stand in the first epoch of the new holder (R121). -/
def CC.carryViols (s live m : CC) (epoch : Nat) : CC :=
  live.caps.foldl (fun s e => s.updCap e.1 (fun p => (e.2.recent.filter m.losesViol).foldl (SlcCap.carry epoch) p)) s

/-- The unit's state that the new holder takes: its mirror, in the first epoch after the last glazed one (R385 steps 1, 5 and 7). The construction counter stands outside the Glaze and never repeats (R310). -/
def Core.adopted (c : Core) : CC :=
  let m := c.mirror
  let epoch := c.cont.glazed + 1
  let keep := m.tasks.filter (fun e => e.2.st != .fetching && !e.2.gone)
  (({ m with
    epoch := epoch
    edges := m.edges.map (fun x => (epoch, x.2))
    tasks := keep.map (fun e => (e.1, { (e.2.adopt c.halted (c.cc.task e.1) epoch) with outLen := m.outLen e.2 }))
    queue := []
    detCtr := c.cc.detCtr, detMark := c.cc.detMark } : CC).unpinFrom m.tasks).carryViols c.cc m epoch

/-- Tasks of reset ports that still ran: their completions count as discarded (R63). Those that have retired, or ended their abort, are counted already. -/
def Core.adoptGone (c : Core) : Core :=
  (c.mirror.tasks.filter (fun e => e.2.gone && e.2.st != .retired && e.2.st != .fetching && (match c.cc.task e.1 with
    | some l => l.seq == e.2.seq
    | none => false))).foldl (fun c e =>
    c.updPort e.2.port (fun p => { p with discarded := sat 32 (p.discarded + 1) })) c

/-- One completion of the glazed state written again under the lease of the new holder, without coalescing (R23, R388). -/
def Core.rewriteOne (c : Core) (port r tid : Nat) (t : Task) : Core :=
  let p := c.cc.pos r
  let g := c.ringOf r
  let a := (g.cq + 32 * p.w) % 2 ^ 64
  let w := (p.w + 1) % g.n
  if c.ringClosed port r || !c.completionMoves port r t
      || (c.slice t.slice).cause a 1 2 (c.granted port (c.slice t.slice).pasid a []) != 0 then c
  else
    (c.send (.write port (c.slice t.slice).pasid a (t.completion p.phase) false)).updCC (fun s =>
      (s.updPos r (fun p => { p with w := w, phase := if w = 0 then !p.phase else p.phase })).leave tid)

/-- A slot that the host has released is skipped: its completion was written. -/
def Core.skipOne (c : Core) (r tid : Nat) : Core :=
  let g := c.ringOf r
  c.updCC (fun s => (s.updPos r (fun p =>
    let w := (p.w + 1) % g.n
    { p with w := w, phase := if w = 0 then !p.phase else p.phase })).leave tid)

/-- The completions of the glazed state of one ring pair are written again, then one message (R388). -/
def Core.rewriteRing (live : CC) (c : Core) (port r : Nat) : Core :=
  let n := (c.ringOf r).n
  let p := c.cc.pos r
  let written := ringDist n (live.pos r).w p.w
  let released := ringDist n p.c p.w
  let skip := if released ≤ written then released else 0
  let l := c.cc.stagedOf port r
  let c := (l.take skip).foldl (fun c e => c.skipOne r e.1) c
  let w := (c.cc.pos r).w
  let c := (l.drop skip).foldl (fun c e => c.rewriteOne port r e.1 e.2) c
  if (c.cc.pos r).w ≠ w then c.ringMessage port r else c

/-- The completions of every ring pair (R385 step 3). -/
def Core.rewriteAll (live : CC) (c : Core) : Core :=
  ((List.range 4).filter c.created).foldl (fun c port => (c.ringsOf port).foldl (fun c r => c.rewriteRing live port r) c) c

/-- SV_COMMIT whose commit has passed its change of generation completes (R371). -/
def Core.resumeSieve (c : Core) : Core :=
  match c.siv.commit with
  | some k =>
    (match c.task k.tid with
     | some t => if t.st == .committing && t.seq == k.seq && decide (5 ≤ k.step) then (c.updTask k.tid (fun t => { t with st := .ending })).tryRetire k.tid else c
     | none => c)
  | none => c

/-- A recovery sequence whose operation is lost has not begun (R385 step 1). -/
def Core.resumeRecovery (c : Core) : Core :=
  match c.g.recovery with
  | some (tid, _) =>
    (match c.task tid with
     | some t => if t.st == .committing then c else { c with g := { c.g with recovery := none, recover := false } }
     | none => { c with g := { c.g with recovery := none, recover := false } })
  | none => c

/-- In SAFE_HALT and ZEROIZED the tasks admitted before the halt complete with SAFE_HALT (R49). -/
def Core.haltAdopted (c : Core) : Core := if !c.halted then c else c.haltTasks (fun t => t.hasRecord && t.staged.isNone)

/-- The low-slot edge of R270 that the lost epochs raised is raised again where the condition stands (R137). -/
def Core.resumeLow (live : CC) (c : Core) : Core :=
  if live.edges.any (fun x => x.2.2 == 113) && c.ktrLow then c.edge 1 113 else c

/-- The new holder takes its state (R385 steps 1 to 7). -/
def Core.adopt (c : Core) : Core :=
  let live := c.cc
  let epoch := c.cont.glazed + 1
  let c := { c.adoptGone with cc := c.adopted, sent := [], hostLog := c.hostLog.map (fun (x : HostWrite) => { x with epoch := epoch }) }
  let c := (c.updCC CC.fence).updCont (fun k => { k with adopting := none, gapFrom := some k.lastGlazeEnd, lastEnd := c.now, resent := false })
  (((c.rewriteAll live).resumeSieve.resumeRecovery.haltAdopted.glazeWork).cpathReplay).resumeLow live

/-- An UPDATE after a takeover (R47): after the handover to the new image the former complex takes its turn; after any other the update has reverted. -/
def Core.updateTakeover (c : Core) (cause : Nat) : Core :=
  match c.cont.update, c.cont.holder with
  | some u, some h =>
    if cause = 4 ∧ u.trial = h ∧ !u.second ∧ !u.reverting then
      c.updCont (fun k => { k with update := some { trial := 1 - h, second := true, reverting := false } })
    else c.endUpdate true
  | _, _ => c

/-- TAKEOVER_END (R385). -/
def Core.takeoverEnd (c : Core) : Core :=
  match c.cont.adopting, c.cont.holder with
  | some cause, some h =>
    let c := (c.adopt.updateTakeover cause).updCont (fun k => { k with takeovers := sat 16 (k.takeovers + 1), lastCause := cause })
    (c.pulseAll 1).restore (1 - h)
  | _, _ => c

/-- TAKEOVER_END (R385). -/
def execTakeoverEnd (s : State) : Host.Outcome State Fault Refusal := run Core.takeoverEnd s

/-! ### Restoration (R390) and the loss of both complexes (R391) -/

/-- The last complex passes its self-test: it takes the Lozenge from its state at the last epoch end and enters SAFE_HALT with cause CONTINUITY (R391). -/
def Core.lastPass (c : Core) (n : Nat) : Core :=
  let c := c.updCont (fun k => { k.setCx n .active with holder := some n, expiry := c.now + 2400, lastChance := none, healthy := upd n (fun _ => true) k.healthy })
  c.glazeSent.markSuspects.adopt.enterSafeHalt 4 0

/-- The last complex fails: SAFE_HALT without a holder (R391). -/
def Core.lastFail (c : Core) (n : Nat) : Core :=
  (c.updCont (fun k => { k.setCx n .unusable with dead := true, lastChance := none })).enterSafeHalt 4 0

/-- COMPLEX_SELF_TEST_END (R390, R391). -/
def Core.selfTestEnd (c : Core) (n : Nat) (pass : Bool) : Core :=
  if c.cont.lastChance = some n then (if pass then c.lastPass n else c.lastFail n)
  else if c.cont.holder.isNone || c.cont.cxOf n != .testing then c
  else if pass then c.updCont (fun k => { k.setCx n .syncing with copyStart := c.now, healthy := upd n (fun _ => true) k.healthy })
  else (c.updCont (fun k => { k with unusableCount := upd n (max 1) k.unusableCount })).makeUnusable n

/-- COMPLEX_SELF_TEST_END (R390). -/
def execComplexSelfTestEnd (complex : Nat) (pass : Bool) (s : State) : Host.Outcome State Fault Refusal :=
  run (fun c => c.selfTestEnd complex pass) s

/-- The complex that takes a state copy, beside the holder. -/
def Cont.copying (k : Cont) : Option Nat :=
  match k.holder with
  | some h => if k.cxOf (1 - h) = .syncing then some (1 - h) else none
  | none => none

/-- STATE_COPY_END (R390): within 10 ms. In an UPDATE that reverts, the Lozenge returns to the complex on the former image (R47). -/
def Core.copyEnd (c : Core) : Core :=
  match c.cont.copying with
  | none => c
  | some n =>
    if !c.leaseHeld || later c.now (c.cont.copyStart + 1000000) then c
    else
      let c := (c.updCont (·.setCx n .standby)).pulseAll 3
      match c.cont.update with
      | some u => if u.reverting && u.trial == n && c.cont.qualifies n then c.revoke 4 else c
      | none => c

/-- STATE_COPY_END (R390). -/
def execStateCopyEnd (s : State) : Host.Outcome State Fault Refusal := run Core.copyEnd s

/-- STATE_COPY_TIMEOUT (R390): 10 ms after the copy began. -/
def Core.copyTimeout (c : Core) : Core :=
  match c.cont.copying with
  | none => c
  | some n => ((c.moveTo (c.cont.copyStart + 1000000)).makeUnusable n).restore n

/-- STATE_COPY_TIMEOUT (R390). -/
def execStateCopyTimeout (s : State) : Host.Outcome State Fault Refusal := run Core.copyTimeout s

end Sys2Proof.Machine
end

