-- ==== Sys2Proof/Machine/Continuity.lean ====
section
/-! DEFINITION. Continuity beside the Glaze: engine stalls (R392), Crumb tests (R395 to R399), the other redundancy (R394), and firmware staging, activation and handover (R47, R400). -/

namespace Sys2Proof.Machine

/-! ### Engines (R21, R392) -/

/-- The engine holds a step. -/
def Core.holdsStep (c : Core) (cls n : Nat) : Bool := (Table.findD (engKey cls n) {} c.eng.jobs).run.isSome

/-- ENGINE_STALL (R392): counted with its engine and class, and marked unusable. -/
def Core.engineStall (c : Core) (cls n : Nat) : Core :=
  if !c.holdsStep cls n || c.eng.isBad cls n then c
  else ({ c with r := { c.r with stallCount := sat 32 (c.r.stallCount + 1), stallLast := cls + at_ 4 n } } : Core).markBad cls n

/-- ENGINE_STALL (R392). -/
def execEngineStall (cls engine : Nat) (s : State) : Host.Outcome State Fault Refusal := run (fun c => c.engineStall cls engine) s

/-- The engine is one of the variant's. -/
def Core.hasEngine (c : Core) (cls n : Nat) : Bool := decide (1 ≤ cls) && decide (cls ≤ 5) && (classEngines c.g.variant cls).contains n

/-- DUAL_RAIL_INVALID (R21): an engine that sees an invalid value stops, with a step or without one, by the path of a stall without its count. -/
def execDualRailInvalid (cls engine : Nat) (s : State) : Host.Outcome State Fault Refusal :=
  run (fun c => if c.g.mode != .retain && c.hasEngine cls engine then c.markBad cls engine else c) s

/-! ### The round of Crumb tests (R395, R396) -/

/-- Engine targets: every engine of the five classes, spares included. -/
def crumbEngines (v : Variant) : List (Nat × Nat) := [1, 2, 3, 4, 5].flatMap (fun k => (classEngines v k).map (fun n => (k, n)))

/-- Memories: kind and number; a variant without Sieve has no banks. -/
def crumbMemories (v : Variant) : List (Nat × Nat) :=
  [(7, 0), (7, 1)] ++ (List.range 8).map (fun n => (8, n)) ++ (List.range 4).map (fun n => (9, n)) ++ (if Config.sieve v then [(10, 0), (10, 1)] else [])

/-- Targets of a round. -/
def crumbTargets (v : Variant) : Nat := (crumbEngines v).length + 8 + 256 * (crumbMemories v).length

/-- The target at a position of the round: engines, then DRBG instances, then memory slices (DESIGN CHOICE: R396 fixes that the order is fixed). -/
def crumbAtPos (v : Variant) (p : Nat) : Crumb :=
  let l := (crumbEngines v).length
  if p < l then
    let e := (crumbEngines v).getD p (1, 0)
    { kind := e.1, target := e.2, slice := 0, spare := false }
  else if p < l + 8 then { kind := 6, target := p - l, slice := 0, spare := false }
  else
    let m := (crumbMemories v).getD ((p - l - 8) / 256) (7, 0)
    { kind := m.1, target := m.2, slice := (p - l - 8) % 256, spare := false }

/-- A target is passed over: an engine that has left service or stands under a test. -/
def Core.crumbSkips (c : Core) (k : Crumb) : Bool :=
  decide (k.kind ≤ 5) && (c.eng.isBad k.kind k.target || c.underTest k.kind k.target)

/-- The next position of the round that is not passed over, from p on, and whether a round ends on the way. -/
def Core.crumbNext (c : Core) : Nat → Nat → Nat × Bool
  | 0, p => (p, false)
  | f + 1, p =>
    if crumbTargets c.g.variant ≤ p then ((c.crumbNext f 0).1, true)
    else if c.crumbSkips (crumbAtPos c.g.variant p) then c.crumbNext f (p + 1)
    else (p, false)

/-- The spare that waits for its own test and has none running (R393). -/
def Core.waitingSpare (c : Core) : Option Crumb :=
  (c.eng.waiting.find? (fun k => !c.underTest (k / 256) (k % 256))).map (fun k => { kind := k / 256, target := k % 256, slice := 0, spare := true })

/-- CRUMB_START (R396): at most two run, and starts are 10 µs apart. A test that a failure has asked for comes first, then a spare that waits for its own. -/
def Core.crumbStart (c : Core) : Core :=
  if !c.crumbMode || decide (2 ≤ c.cont.crumbs.length) then c
  else
    let c := match c.cont.crumbAt with
      | some t => c.moveTo (t + 1000)
      | none => c
    match c.cont.crumbDue, c.waitingSpare with
    | k :: l, _ => (c.updCont (fun x => { x with crumbDue := l })).startCrumb k
    | [], some k => c.startCrumb k
    | [], none =>
      let (p, wrapped) := c.crumbNext ((crumbEngines c.g.variant).length + 2) c.cont.crumbPos
      (c.updCont (fun x => { x with crumbPos := p + 1, rounds := if wrapped then (x.rounds + 1) % 2 ^ 24 else x.rounds })).startCrumb (crumbAtPos c.g.variant p)

/-- CRUMB_START (R396). -/
def execCrumbStart (s : State) : Host.Outcome State Fault Refusal := run Core.crumbStart s

/-! ### The end of a Crumb test (R397 to R399) -/

/-- Changes the table of a memory. -/
def bumpMem (k : Nat) (t : Table Nat) : Table Nat := Table.put k (Table.findD k 0 t + 1) t

/-- A memory slice that fails: a spare slice takes its place, source 9 tells of the last one; with both used, the slice leaves service. -/
def Core.sliceFails (c : Core) (k : Crumb) : Core :=
  let key := k.kind * 256 + k.target
  let used := Table.findD key 0 c.cont.memUsed
  if used < 2 then
    let c := c.updCont (fun x => { x with memUsed := bumpMem key x.memUsed })
    if used = 1 then c.pulseAll 9 else c
  else c.updCont (fun x => { x with memSpent := true, memOut := bumpMem key x.memOut })

/-- A failing Crumb test is recorded, and its target replaced (R399). -/
def Core.crumbFails (c : Core) (k : Crumb) : Core :=
  let c := (c.updCont (fun x => { x with
    crumbFails := sat 8 (x.crumbFails + 1), crumbLast := at_ 24 k.kind + at_ 8 k.target + k.slice })).pulseAll 8
  if k.kind ≤ 5 then c.markBad k.kind k.target
  else if k.kind = 6 then c.mismatch k.target
  else c.sliceFails k

/-- The spare that has passed its test enters service (R393). -/
def Engs.engage (e : Engs) (key : Nat) : Engs :=
  if e.waiting.contains key then { e with waiting := e.waiting.filter (· != key), engaged := e.engaged ++ [key] } else e

/-- CRUMB_END (R399): an engine has finished its steps first (R397). -/
def Core.crumbEnd (c : Core) (slot : Nat) (fails : Bool) : Core :=
  match c.cont.crumbs[slot]? with
  | none => c
  | some k =>
    if decide (k.kind ≤ 5) && !(Table.findD (engKey k.kind k.target) {} c.eng.jobs).jobs.isEmpty then c
    else
      let c := c.updCont (fun x => { x with crumbs := x.crumbs.eraseIdx slot })
      if fails then c.crumbFails k
      else if k.kind ≤ 5 then { c with eng := c.eng.engage (engKey k.kind k.target) }
      else c

/-- CRUMB_END (R399). -/
def execCrumbEnd (slot : Nat) (fails : Bool) (s : State) : Host.Outcome State Fault Refusal := run (fun c => c.crumbEnd slot fails) s

/-! ### Other redundancy (R394) -/

/-- Main power is present. -/
def Core.powered (c : Core) : Bool := c.g.mode != .retain

/-- Devices with 16 or more corrections in a pass that no earlier pass has found failing (R394). -/
def Core.newBadDevices (c : Core) (corrections : List Nat) : List Nat :=
  ((corrections.zipIdx).filter (fun e => decide (16 ≤ e.1) && !c.cont.dramBad.contains e.2)).map (·.2)

/-- PATROL_SCRUB_PASS (R394): source 15 tells of each device it finds failing (R402). -/
def execPatrolScrubPass (corrections : List Nat) (s : State) : Host.Outcome State Fault Refusal :=
  run (fun c => if c.powered
    then (c.newBadDevices corrections).foldl (fun c n => (c.updCont (fun k => { k with dramBad := k.dramBad ++ [n] })).pulseAll 15) c else c) s

/-- FLASH_COPY_UNREADABLE (R394): what was being copied into the copy's other region is lost with it. -/
def Core.flashLost (c : Core) (n : Nat) : Core :=
  let f := c.flash
  ({ c with flash := { f with
      readable := upd n (fun _ => false) f.readable
      journals := upd n (fun (j : JCopy) => { j with next := none }) f.journals } } : Core).pulseAll 10

/-- FLASH_COPY_UNREADABLE (R394). -/
def execFlashCopyUnreadable (copy : Nat) (s : State) : Host.Outcome State Fault Refusal :=
  run (fun c => if c.powered && c.flash.readable.getD copy false then c.flashLost copy else c) s

/-- FLASH_RESYNC_END (R394): the copy is written afresh from the other one. -/
def Core.flashResynced (c : Core) (n : Nat) : Core :=
  let f := c.flash
  let recs := (f.journals.getD (1 - n) {}).recs
  ({ c with flash := { f with
      readable := upd n (fun _ => true) f.readable
      journals := upd n (fun (j : JCopy) => { j with recs := recs, next := none }) f.journals } } : Core).pulseAll 11

/-- FLASH_RESYNC_END (R394). -/
def execFlashResyncEnd (copy : Nat) (s : State) : Host.Outcome State Fault Refusal :=
  run (fun c => if c.powered && !(c.flash.readable.getD copy true) && c.flash.readable.getD (1 - copy) false then c.flashResynced copy else c) s

/-- POWER_PHASE_SHED (R394, R403): below 10 usable phases source 27 detects. -/
def Core.phaseShed (c : Core) : Core :=
  if !c.powered || c.pwr.phases = 0 then c
  else
    let c := ({ c with pwr := { c.pwr with phases := c.pwr.phases - 1 } } : Core).pulseAll 14
    if c.pwr.phases < 10 then c.detect 27 0 0 else c

/-- POWER_PHASE_SHED (R394). -/
def execPowerPhaseShed (s : State) : Host.Outcome State Fault Refusal := run Core.phaseShed s

/-! ### Firmware and handover (R47, R400) -/

/-- A mode in which CN_FW_STAGE is accepted. -/
def Core.fwMode (c : Core) : Bool := c.g.mode == .setup || c.g.mode == .serve || c.g.mode == .serveReduced || c.g.mode == .quiesce

/-- Signature and version of an image (R400). -/
def Core.imageChecks (c : Core) (im : Bytes) : Op Unit := do
  need c (Config.firmwareSignatureOk im) (Status.authFail, 0x330)
  need c (decide (c.lcs.fwFloor.toNat ≤ (Config.firmwareVersion im).toNat)) (Status.authFail, 0x331)

/-- CN_FW_STAGE (R400). The image is staged when its epoch is glazed (R387). -/
def execCnFwStage (tid : Nat) (s : State) : Host.Outcome State Fault Refusal :=
  run (fun c => c.cuOp tid 0x330 (fun c t => do
    c.portZero t
    need c c.fwMode c.modeRefused
    need c (t.formOk 0 false false none 0) requestFormat
    need c (decide (t.srcLen ≤ 8 * 2 ^ 20) && Config.firmwareFormatOk t.source) (Status.inputFormat, 0x332)
    c.imageChecks t.source
    return (c, { res0 := (Config.firmwareVersion t.source).toNat, atGlaze := true }))) s

/-- CN_FW_ACTIVATE (R47, R400): the digest of the staged image, its signature and version, and the unit quorum last (R279). It takes effect when its epoch is glazed. -/
def execCnFwActivate (tid : Nat) (s : State) : Host.Outcome State Fault Refusal :=
  run (fun c => c.cuOp tid 0x331 (fun c t => do
    c.portZero t
    need c (c.g.mode == .serve) c.modeRefused
    need c (t.formOk 0 false false (some 48) 0) requestFormat
    match c.flash.fwStaged with
    | none => throw (.refused c (Status.authFail, 0x333))
    | some im =>
      need c (sha384 im == t.source) (Status.authFail, 0x333)
      c.imageChecks im
      let c ← c.gateTask t unitGroup
      return (c, { atGlaze := true }))) s

/-- CN_HANDOVER (R400): its completion belongs to the epoch that records it, and the Lozenge is surrendered once that epoch is glazed. -/
def execCnHandover (tid : Nat) (s : State) : Host.Outcome State Fault Refusal :=
  run (fun c => c.cuOp tid 0x332 (fun c t => do
    c.portZero t
    let other := 1 - c.cont.holder.getD 0
    need c (c.g.mode == .serve && c.cont.cxOf other == .standby) c.modeRefused
    need c (t.formOk 0 false false (some 0) 0) requestFormat
    return (c.updCont (fun k => { k with handover := some (other, c.cc.epoch) }), { res0 := other }))) s

/-- The staged image's version. -/
def Core.stagedVersion (c : Core) : BitVec 24 :=
  match c.flash.fwStaged with
  | some im => Config.firmwareVersion im
  | none => c.flash.fwCommitted

/-- The complex on trial runs the staged image. -/
def Core.loadTrial (c : Core) (n : Nat) : Core := c.updCont (fun k => { k with fw := upd n (fun _ => c.stagedVersion) k.fw })

/-- The second complex has passed: the new image is committed, its floor raised where its header asks for it, and the mode returns to service (R47 step 6, R400). -/
def Core.commitImage (c : Core) (n : Nat) : Core :=
  let v := c.stagedVersion
  let raise := match c.flash.fwStaged with
    | some im => Config.firmwareRaisesFloor im
    | none => false
  let c := (c.loadTrial n).updCont (fun k => { k.setCx n .syncing with copyStart := c.now })
  let c := { c with
    flash := { c.flash with fwCommitted := v, fwStaged := none }
    lcs := { c.lcs with fwFloor := if raise then v else c.lcs.fwFloor } }
  c.endUpdate false

/-- UPDATE_SELF_TEST_END (R47 steps 3 to 6). -/
def Core.updateTested (c : Core) (pass : Bool) : Core :=
  match c.cont.update with
  | none => c
  | some u =>
    if u.reverting || !c.leaseHeld || c.cont.cxOf u.trial != .updating then c
    else if u.second then
      (if pass then c.commitImage u.trial
       else c.updCont (fun k => { k.setCx u.trial .testing with update := some { u with reverting := true } }))
    else if pass && c.cont.qualifies u.trial then ((c.loadTrial u.trial).updCont (·.setCx u.trial .standby)).revoke 4
    else (c.updCont (·.setCx u.trial .standby)).endUpdate true

/-- UPDATE_SELF_TEST_END (R47). -/
def execUpdateSelfTestEnd (pass : Bool) (s : State) : Host.Outcome State Fault Refusal := run (fun c => c.updateTested pass) s

end Sys2Proof.Machine
end

