-- ==== Sys2Proof/Machine/Wake.lean ====
section
/-! DEFINITION. Power-up and WAKE (R28, R34, R428, R451), the building of the working image (R260), and the recovery sequence (R51, R261, R288). -/

namespace Sys2Proof.Machine

/-! ### What every WAKE resets -/

/-- The share of a created port (R67); a port that is not created gets none. -/
def Port.share (v : Variant) (split n : Nat) : Port :=
  let k := 2 ^ split
  if n < k then
    { slcBase := n * (Config.slices v / k), slcCount := Config.slices v / k,
      ringBase := n * (Config.ringPairs v / k), ringCount := Config.ringPairs v / k, quota := Config.inflight v / k }
  else {}

/-- A port across TRANSIT and the following WAKE: its link and its configuration space stay, its BAR0 registers return to reset (R48). A scrapped unit moves the link to 2.5 GT/s. -/
def Port.rewake (fresh old : Port) (scrapped : Bool) : Port :=
  { fresh with
    perstLow := old.perstLow, refStable := old.refStable, detect := old.detect, training := old.training
    link := if scrapped ∧ old.link = .l0 then .low else old.link
    speed := if scrapped ∧ old.link ≠ .down then 1 else old.speed
    width := old.width, d3 := old.d3, msixEnable := old.msixEnable, funcMask := old.funcMask, msix := old.msix
    ats := old.ats, relaxed := old.relaxed, translations := old.translations, aer := old.aer, aerLog := old.aerLog
    maxPayload := old.maxPayload, maxRead := old.maxRead, cplTimeout := old.cplTimeout, tags10 := old.tags10
    ecrcGen := old.ecrcGen, ecrcCheck := old.ecrcCheck, aspmL1 := old.aspmL1, l1Substates := old.l1Substates }

/-- Control-complex state at WAKE: empty, with custody state and the construction counter from flash (R274, R290, R310). -/
def Core.wakeCC (c : Core) : CC :=
  { cust := c.flash.cust.woken, detCtr := c.flash.detMark, detMark := c.flash.detMark, libGen := c.flash.libGen, commitNo := c.flash.commitNo }

/-- The last entry of the alarm log, from which TMP_LAST_GROUP takes its reset value (R421). -/
def Core.lastAlarm (c : Core) : AlarmEnt := lastAlarmOf c.flash.alarmLog

/-- The tamper unit at WAKE: the B sources have watched throughout; the configuration has yet to be read (R409). -/
def Core.wakeTmp (c : Core) (group : Option OpenGroup) : Tmp :=
  let a := c.lastAlarm
  { cfg := AlarmCfg.default
    level := c.tmp.level &&& ((setBits 29 (2 ^ 29 - 1)).filter isBattery).foldl (fun m i => m + 2 ^ i) 0
    group := group, lastGroup := a.group, lastSources := a.members, lastClass := a.cls
    overs := c.tmp.overs
    unprotected := c.tmp.unprotected
    temp := c.tmp.temp, vbat := c.tmp.vbat, pace := c.tmp.pace, ohms := c.tmp.ohms }

/-- Everything that WAKE finds: what R27 keeps, and the rest at its reset values. -/
def Core.rewoken (c : Core) (ports : List Port) (split : Nat) (invalid : Bool) (time : W48) (group : Option OpenGroup) : Core :=
  { g := { variant := c.g.variant, mode := c.g.mode, devtime := time, split := split, strapInvalid := invalid, stepping := c.g.stepping }
    r := { longPool := w48 (at_ 16 2048 + Config.longPool c.g.variant), tagStaged := c.flash.tag }
    ports := ports
    cc := c.wakeCC
    mirror := c.wakeCC
    cont := { fw := [c.flash.fwCommitted, c.flash.fwCommitted], memUsed := c.cont.memUsed, memOut := c.cont.memOut, memSpent := c.cont.memSpent }
    pwr := { c.pwr with pwrok := true, phases := 12 }
    tmp := c.wakeTmp group
    lcs := { serial := c.lcs.serial, copies := c.lcs.copies, progress := c.lcs.progress, ndx := c.lcs.ndx, l0 := c.lcs.l0, attSeed := c.lcs.attSeed, trims := c.lcs.trims,
             burntOut := c.lcs.burntOut, fwFloor := c.lcs.fwFloor, closedNow := c.lcs.closedNow }
    flash := c.flash
    batt := c.batt
    fx := c.fx
    free := c.free }

/-- The event controllers return to reset and WAKE is entered (R34, R36); then source 99 tells of a Sieve image that is discarded (R374). -/
def Core.enterWake (c : Core) (staged : Bool) : Core :=
  let c := ((List.range 4).foldl (fun c n => c.addFx (.evcReset n)) c).setMode .wake
  if staged then c.pulseAll 99 else c

/-- TRANSIT passes to WAKE (R48, R436): links stay, straps are not sampled again, device time runs on. An open Sieve image is discarded, which source 99 tells once the event controllers have returned to reset (R368, R374). -/
def Core.wakeFromTransit (c : Core) : Core :=
  let scrapped := c.lcState == 4
  let staged := c.cc.stage.isSome
  let ports := (c.ports.zipIdx).map (fun (p, n) => (Port.share c.g.variant c.g.split n).rewake p scrapped)
  (c.rewoken ports c.g.split c.g.strapInvalid c.now c.tmp.group).enterWake staged

/-! ### Power-up (R451) -/

/-- An input stands at 9.0 V or more and is not opened. -/
def Pwr.someGood (p : Pwr) : Bool := p.vin.any (fun s => s == 2 || s == 3)

/-- MAIN_POWER_GOOD (R451). -/
def execMainPowerGood (s : State) : Host.Outcome State Fault Refusal :=
  run (fun c => if c.g.mode == .retain && c.pwr.someGood then { c with pwr := { c.pwr with railsUp := true } } else c) s

/-- PWROK_OUT_RISE (R61, R451): WAKE begins, the straps are sampled, a group that opened in RETAIN closes, and a port whose PERSTn_N is high and whose clock is stable leaves reset (R62). -/
def Core.powerUp (c : Core) (hsplit : Nat) : Core :=
  if c.g.mode != .retain || !c.pwr.railsUp || c.pwr.pwrok then c
  else
    let c := c.closeGroup
    let split := Config.effectiveSplit c.g.variant (hsplit % 4)
    let c := { c with pwr := { c.pwr with back := c.pwr.vin.map (· == 2) } }
    let port (n : Nat) : Port :=
      let q : Port := { (Port.share c.g.variant split n) with perstLow := (c.port n).perstLow, refStable := (c.port n).refStable }
      if n < 2 ^ split then q.leaveReset else q
    (c.rewoken ((List.range 4).map port) split (hsplit % 4 == 3) 0 none).enterWake false

/-- PWROK_OUT_RISE (R451). -/
def execPwrokOutRise (hsplit : Nat) (s : State) : Host.Outcome State Fault Refusal := run (fun c => c.powerUp hsplit) s

/-! ### The steps of WAKE -/

/-- WAKE holds with a fault (R36, R37). -/
def Core.holdWake (c : Core) (fault : Nat) : Core := ({ c with g := { c.g with wakeFault := fault } } : Core).noteMode

/-- WAKE has come to a step and holds no fault. -/
def Core.waking (c : Core) (step : Nat) : Bool := c.g.mode == .wake && c.g.wakeStep == step && c.g.wakeFault == 0

/-- The three life-cycle copies differ outside the target group of an open mark whose STATE_BURNT is clear (R429). -/
def Lcs.copiesDiffer (l : Lcs) : Bool :=
  let skip := (l.openMarks.filter (fun t => !groupSet (l.mark t) 2)).foldl (fun m t => m ||| at_ (8 * t) 0xFF) 0
  copyDiff l.copies &&& ((2 ^ 48 - 1) ^^^ skip) != 0

/-- The step of R436 at which a resumed transition goes on, after its last mark. -/
def resumeStep (level : Nat) : Nat := if level = 1 then 2 else if level = 2 then 4 else if level = 3 then 6 else 1

/-- WAKE_OTP_LOADED: tests 1 to 3 of R428 and the OTP source (R429); a unit that goes on starts its entropy test. -/
def Core.otpLoaded (c : Core) : Core :=
  if !c.waking 0 then c
  else
    let c := if c.lcs.copiesDiffer then c.detect 25 0 0 else c
    if c.lcs.badWord then ({ c with lcs := { c.lcs with incoherent := true } } : Core).holdWake 1
    else
      match c.lcs.openMarks with
      | t :: _ =>
        let c := (c.readAlarmCfg).setMode .transit
        { c with lcs := { c.lcs with transitTo := t + 1, transitStep := resumeStep (markLevel (c.lcs.mark t)) } }
      | [] =>
        if c.lcState = 4 then c.holdWake 2
        else { c with g := { c.g with wakeStep := 1 }, ent := c.ent.startTest }

/-- WAKE_OTP_LOADED (R428). -/
def execWakeOtpLoaded (s : State) : Host.Outcome State Fault Refusal := run Core.otpLoaded s

/-- State of a complex after the power-on self-test of WAKE. -/
def wakeCx (holder : Bool) (pass : Bool) : CxSt := if holder then .active else if pass then .standby else .unusable

/-- WAKE_SELF_TEST_END (R37, R401): CC-A takes the Lozenge when it passes; a complex that fails is UNUSABLE until the next WAKE or recovery (R390). Where SAFE_HALT was entered from WAKE before this, the test ends without effect: no complex takes the Lozenge, and no release runs (DESIGN CHOICE, log entry 95). -/
def Core.wakeTested (c : Core) (a b : Bool) : Core :=
  if !c.waking 1 then c
  else if !a && !b then c.holdWake 3
  else
    let h := if a then 0 else 1
    let c := ({ c with g := { c.g with wakeStep := 2 } } : Core).updCont (fun k => { k with
      holder := some h, expiry := c.now + 2400, cx := [wakeCx (h == 0) a, wakeCx (h == 1) b], healthy := [a, b]
      unusableCount := [if a then 0 else 2, if b then 0 else 2] })
    if a && b then c else c.pulseAll 2

/-- WAKE_SELF_TEST_END (R37). -/
def execWakeSelfTestEnd (aPass bPass : Bool) (s : State) : Host.Outcome State Fault Refusal := run (fun c => c.wakeTested aPass bPass) s

/-- FLASH_UNREADABLE (R37, R409). -/
def execFlashUnreadable (s : State) : Host.Outcome State Fault Refusal :=
  run (fun c => if c.waking 1 || c.waking 2
    then (({ c with flash := { c.flash with readable := [false, false] } } : Core).readAlarmCfg).holdWake 4 else c) s

/-! ### Building the working image -/

/-- A new SWK from a conditioned block, and its check value (R28, R428). -/
def Core.commission (c : Core) (block : Bytes) : Core :=
  let k := seedOf block
  { c with batt := { c.batt with swk := some k }, flash := { c.flash with swkCheck := some (Config.swkCheck k) } }

/-- The library as it is found: its generation is raised once for a loss of the whole (R177). -/
def Core.findLibrary (c : Core) : Core :=
  let gen := if c.flash.libLost then (c.flash.libGen + 1) % 2 ^ 48 else c.flash.libGen
  { c with flash := { c.flash with libGen := gen, libLost := false } }

/-- The Sieve loads the master into its backing copy and its banks (R364, R371). -/
def Core.loadSieve (c : Core) : Core :=
  { c with siv := { table := c.flash.svMaster, gen := c.flash.svGen, bankGen := [c.flash.svGen, c.flash.svGen] } }

/-- A DRAM key, AES-256-XTS, from two conditioned blocks (R28, R350). -/
def dramKeyOf (blocks : List Bytes) : Bytes := (blocks.map seedOf).flatten

/-- Two blocks for a DRAM key, each of which fails neither health test (R28, R341). -/
def dramBlocksOk (blocks : List Bytes) : Bool := blocks.length == 2 && blocks.all blockOk

/-- The working image is built from flash (R260). -/
def Core.buildImage (c : Core) (badA badB : List Nat) : Core :=
  let c := ((c.loadJournal badA badB).findLibrary).loadSieve
  let f (s : CC) : CC := { s with kt := replay c.journal, lib := c.flash.lib, libGen := c.flash.libGen, ktCommits := [], queue := [], commitNo := c.flash.commitNo, libCommits := [], stage := none }
  c.allCC f

/-- A DRAM key is drawn (R28). -/
def Core.drawDramKey (c : Core) (blocks : List Bytes) : Core := { c with g := { c.g with dramKey := some (dramKeyOf blocks) } }

/-- The end of WAKE: GLB_CAP1 is written, and sources 113 and 162 tell of what holds (R73, R270, R445). -/
def Core.endWake (c : Core) (image : Bool) : Core :=
  let c := ({ c with g := { c.g with cap1 := true }, batt := { c.batt with lost := false } } : Core).tellClosed
  if image && c.ktrLow then c.pulse 1 113 else c

/-- The SWK in the battery domain fits the check value in flash; without a check value it is absent. -/
def Core.swkFits (c : Core) : Bool :=
  match c.flash.swkCheck, c.batt.swk with
  | some k, some s => Config.swkCheck s == k
  | some _, none => false
  | none, _ => true

/-- The loss of the battery domain found at WAKE: a group of CELL_REMOVED with class ERASE and flag RETAIN (R417). Its number. -/
def Core.cellLost (c : Core) : Core × Nat :=
  let c := c.takeGroup
  let n := c.batt.counter.getD 0
  ((c.logAlarm { group := n, time := 0, seconds := 0, mode := 1, state := c.lcState, cls := 3, flags := 1, members := 2 ^ 6, overflow := 0 }).pulseAll 38, n)

/-- WAKE finds the SWK lost, or an ERASE from RETAIN, and enters ZEROIZED with the group that tells of it (R34, R416, R417). An SWK that does not match is destroyed (R52). -/
def Core.wakeErased (c : Core) (crowbar : Option BattEnt) : Core :=
  let c := { c with flash := { c.flash with libLost := true, lib := [] }, batt := { c.batt with swk := none } }
  let (c, group) := match crowbar with
    | some e => (c, e.group)
    | none => if c.batt.lost then c.cellLost else (c, 0)
  ((c.endWake false).enterZeroized (group % 2 ^ 16))

/-- The configuration, the battery log and the channels that failed their stimulus in RETAIN, as WAKE takes them up before SEED (R406, R409, R416). -/
def Core.takeBattery (c : Core) (stimulusFails : List Nat) : Core :=
  let again := c.batt.failedStimulus.filter stimulusFails.contains
  let c := (c.readAlarmCfg).copyBattLog
  let c := { c with batt := { c.batt with failedStimulus := [] } }
  if again.isEmpty then c else c.detect 28 0 0

/-- The first commissioning: an SWK, and an empty tree (R428). -/
def Core.firstSwk (c : Core) (block : Bytes) : Core :=
  let c := c.commission block
  { c with flash := { c.flash with journals := [{}, {}] } }

/-- KEY_TREE_LOAD_COMPLETE: tests 4 to 6 of R428 and the conditions of R34. The blocks of the DRAM key and of a new SWK come from sources that have passed the start-up test (R28, R350). -/
def Core.treeLoaded (c : Core) (swkBlock : Bytes) (dramBlocks : List Bytes) (badA badB stimulusFails : List Nat) : Core :=
  if !c.waking 2 || !c.flash.readable.any (·) || (!c.ent.wakePass && decide (c.ent.wakeDone < 4)) then c
  else
    let analysis := c.lcState == 3
    let crowbar := c.batt.log.find? (·.crowbar)
    let erased := crowbar.isSome || !c.swkFits
    let fresh := c.flash.swkCheck.isNone
    if !erased && c.ent.wakePass && analysis && !c.ent.seeded then c
    else if !erased && c.ent.wakePass && (!dramBlocksOk dramBlocks || (fresh && !blockOk swkBlock)) then c
    else
      let c := c.takeBattery stimulusFails
      if erased then c.wakeErased crowbar
      else if !c.ent.wakePass then (c.endWake false).enterSafeHalt 3 0
      else
        let c := (c.seeBlocks (dramBlocks ++ (if fresh then [swkBlock] else []))).drawDramKey dramBlocks
        let c := if fresh then c.firstSwk swkBlock else c
        let c := (c.buildImage badA badB).endWake true
        if analysis then (({ c with g := { c.g with phase := .configuring } } : Core).unlock).setMode .analysis
        else ({ c with ent := c.ent.startTest } : Core).setMode .seed

/-- KEY_TREE_LOAD_COMPLETE (R34). -/
def execKeyTreeLoadComplete (swkBlock : Bytes) (dramBlocks : List Bytes) (badA badB stimulusFails : List Nat) (s : State) : Host.Outcome State Fault Refusal :=
  run (fun c => c.treeLoaded swkBlock dramBlocks badA badB stimulusFails) s

/-! ### The recovery sequence (R51) -/

/-- An enabled source of class HALT or ERASE has its condition present (R412). -/
def Core.alarmStands (c : Core) : Bool :=
  (setBits 29 c.tmp.level).any (fun a => c.alarmEnabled a && decide (2 ≤ c.alarmClass a))

/-- The complexes after the self-test of the recovery sequence: the other one is restored, or stays UNUSABLE (R390). -/
def Cont.retested (k : Cont) (now : W48) (h : Nat) (pass : Bool) : Cont :=
  let n := 1 - h
  { k with
    unusableCount := upd n (fun _ => if pass then 0 else 2) [0, 0]
    healthy := upd n (fun _ => pass) k.healthy
    copyStart := if pass ∧ k.cxOf n ≠ .standby then now else k.copyStart
    cx := upd n (fun s => if !pass then .unusable else if s = .standby then .standby else .syncing) k.cx }

/-- The complexes after the self-test of the recovery sequence; source 2 tells of one that becomes UNUSABLE by it (R390, R402). -/
def Core.retest (c : Core) (h : Nat) (pass : Bool) : Core :=
  let c' := c.updCont (·.retested c.now h pass)
  if !pass && c.cont.cxOf (1 - h) != .unusable then c'.pulseAll 2 else c'

/-- The FLOOR record that keeps a slot's generation through recommissioning: the last one a node of it had (R261). -/
def floorOf (e : Nat × KSlot) : Option JRec :=
  e.2.node.map (fun n => { type := .floor, index := e.1, gen := e.2.lastGen, level := n.level, domain := n.domain })

/-- The records of flash read without their tags, which no key verifies any more (R261). -/
def Core.unverified (c : Core) : List JRec :=
  (readRecs (match c.flash.usableJournals.map (·.recs) with
    | [a, b] => mergeJournals a b
    | [a] => a
    | _ => [])).map (·.2)

/-- Recommissioning: a new SWK, a FLOOR record for every slot that has held a node, nothing else of the tree, the library and the Sieve master; tokens, challenges and sessions are cleared (R261, R288). -/
def Core.recommission (c : Core) (block : Bytes) : Core :=
  let floors := (replay c.unverified).slots.filterMap floorOf
  let c := c.commission block
  let recs := floors.map (JRec.encode (Config.recordKey c.swk))
  let c := { c with flash := { (c.flash.mapJournals (fun j => { j with recs := recs, next := none })) with lib := [], svMaster := [] } }
  (c.buildImage [] []).allCC (fun s => { s with cust := s.cust.kept })

/-- Step 5 of R51: on recommissioning a new DRAM key and SWK; on a release from a halt entered from WAKE the DRAM key, and an SWK where flash holds no check value. -/
def Core.rebuild (c : Core) (recomm : Bool) (block : Bytes) (dramBlocks : List Bytes) (badA badB : List Nat) : Core :=
  if recomm then (c.drawDramKey dramBlocks).recommission block
  else if c.g.haltFromWake then
    let c := c.drawDramKey dramBlocks
    (if c.flash.swkCheck.isNone then c.firstSwk block else c).buildImage badA badB
  else c.loadSieve

/-- The sequence ends without success: RECOVER clears, and the operation completes with MODE_REFUSED (R51). HALT_CAUSE and HALT_GROUP are set afresh: HALT_GROUP is 0 for a cause that is no alarm, and HALT_CAUSE, which tells of SAFE_HALT, stays as it is in ZEROIZED (DESIGN CHOICE, log entry 16). -/
def Core.recoveryFails (c : Core) (tid cause group : Nat) : Core :=
  let c := { c with g := { c.g with recover := false, recovery := none, haltCause := if c.g.mode = Mode.safeHalt then cause else c.g.haltCause, haltGroup := group } }
  (c.updTask tid (fun t => { t with st := .ending, status := Status.modeRefused, detail := c.g.mode.code })).tryRetire tid

/-- Steps 5 and 6 of R51. -/
def Core.recovered (c : Core) (tid : Nat) : Core :=
  let c := { c with g := { c.g with recover := false, recovery := none, haltFromWake := false, cap1 := true } }
  let c := if c.lcState = 3 then (({ c with g := { c.g with phase := .configuring } } : Core).unlock).setMode .analysis else c.unlock.setMode .setup
  (c.updTask tid (fun t => { t with st := .ending })).tryRetire tid

/-- RECOVERY_SEQUENCE_END (R51): the self-test of both halves, the start-up test of the four sources, which has ended for each, sixteen pool seeds for the instances, and the rebuilding. -/
def Core.recoveryEnd (c : Core) (a b : Bool) (swkBlock : Bytes) (dramBlocks : List Bytes) (badA badB : List Nat) : Core :=
  match c.g.recovery, c.cont.holder with
  | some (tid, recomm), some h =>
    let drawsKey := recomm || c.g.haltFromWake
    let drawsSwk := recomm || (c.g.haltFromWake && c.flash.swkCheck.isNone)
    if !c.halted || !c.leaseHeld then c
    else if c.alarmStands then c.recoveryFails tid 1 (c.tmp.lastGroup % 2 ^ 16)
    else if !(if h = 0 then a else b) then c.recoveryFails tid 4 0
    else if !c.ent.tested then c
    else if c.ent.healthy = 0 then (c.retest h (if h = 0 then b else a)).recoveryFails tid 3 0
    else if (drawsKey && !dramBlocksOk dramBlocks) || (drawsSwk && !blockOk swkBlock) then c
    else
      match c.ent.instantiateAll c.serialBytes with
      | none => c
      | some e => ((({ c with ent := e } : Core).retest h (if h = 0 then b else a)).seeBlocks ((if drawsKey then dramBlocks else []) ++ (if drawsSwk then [swkBlock] else [])) |>.rebuild recomm swkBlock dramBlocks badA badB).recovered tid
  | _, _ => c

/-- RECOVERY_SEQUENCE_END (R51). -/
def execRecoverySequenceEnd (aPass bPass : Bool) (swkBlock : Bytes) (dramBlocks : List Bytes) (badA badB : List Nat) (s : State) :
    Host.Outcome State Fault Refusal :=
  run (fun c => c.recoveryEnd aPass bPass swkBlock dramBlocks badA badB) s

end Sys2Proof.Machine
end

