-- ==== Sys2Proof/Machine/LifeCycle.lean ====
section
/-! DEFINITION. Life-cycle requests and the transition sequence (R430 to R439), the debug port (R440 to R443), and the alarm configuration and log operations (R413, R414, R418). -/

namespace Sys2Proof.Machine

/-! ### LC_REQUEST (R431 to R434) -/

/-- The signer set of a row of R430: bit 0 Ndepevex, bit 1 owner. -/
def lcSigners (frm dest : Nat) : Nat :=
  match frm, dest with
  | 0, 1 => 1
  | 1, 2 => 2
  | 2, 3 => 3
  | 2, 4 => 2
  | 3, 4 => 2
  | _, _ => 1

/-- The form of a request (check 1 of R434). Where R430 has no row for the two states, the signer set is left to check 3. -/
def lcForm (b : Bytes) : Bool :=
  let frm := byteAt 64 b
  let dest := byteAt 65 b
  let who := byteAt 66 b
  b.length == 256 && b.take 4 == ascii "LCR1" && allZero (cut 76 84 b) && decide (frm ≤ 4) && decide (dest ≤ 4) && decide (who < 4) && decide (byteAt 67 b < 4)
    && (bit 0 who || (byteAt 67 b == 0 && allZero (cut 160 96 b))) && (!lcPermitted frm dest || who == lcSigners frm dest)

/-- The Ndepevex signature of a request verifies under the key its index names. -/
def Core.lcSigned (c : Core) (b : Bytes) : Bool :=
  match c.lcs.ndx.getD (byteAt 67 b) none with
  | some k => p384Valid ((4 : Byte) :: k) && p384Verify ((4 : Byte) :: k) (b.take 160) (cut 160 96 b)
  | none => false

/-- A request refused with AUTH_FAIL raises source 163 (R445), told once its completion is glazed (R137). -/
def Core.lcAuth (c : Core) (detail : Nat) : Stop := .refused (c.edge c.linkMask 163) (Status.authFail, detail)

/-- An earlier life-cycle request has been accepted. -/
def Core.lcPending (c : Core) : Bool :=
  c.g.lcTarget.isSome || c.cc.tasks.any (fun e => e.2.st == .committing && e.2.opclass == clsCustody && e.2.opcode == 0x340)

/-- LC_REQUEST (R433, R434): accepted, it takes effect when its epoch is glazed (R48, R280). -/
def execLcRequest (tid : Nat) (s : State) : Host.Outcome State Fault Refusal :=
  run (fun c => c.cuOp tid 0x340 (fun c t => do
    c.portZero t
    need c (c.lcServed && !c.lcPending) c.modeRefused
    need c (t.formOk 0 false false none 0) requestFormat
    let b := t.source
    need c (lcForm b) (Status.inputFormat, 0x340)
    let who := byteAt 66 b
    if !c.ourSerial b 4 || cut 16 48 b != c.identityDigest then throw (c.lcAuth 0x341)
    need c (byteAt 64 b == c.lcState && lcPermitted (byteAt 64 b) (byteAt 65 b)) (Status.inputFormat, 0x342)
    if bit 0 who && !c.lcSigned b then throw (c.lcAuth 0x343)
    need c (!(byteAt 65 b == 2 && decide ((c.cc.cust.group unitGroup).count < 2))) (Status.inputFormat, 0x344)
    let c ← (if bit 1 who then c.gateTask t unitGroup else .ok c)
    return (c.log 3 (beNat (cut 68 8 b)), { res0 := byteAt 65 b, atGlaze := true }))) s

/-! ### The transition sequence (R436 to R438) -/

/-- The low n bits of group i of a word set. -/
def burnLow (i n : Nat) (w : W48) : W48 := w ||| w48 (at_ (8 * i) (2 ^ min 8 n - 1))

/-- The first n bits of group i burnt over three copies: copy 0, then copy 1, then copy 2, each from its lowest bit (R436, R438; the order within a copy DESIGN CHOICE, log entry 108). 24 bits are the whole. -/
def burnGroup (i n : Nat) (l : List W48) : List W48 := l.zipIdx.map (fun e => burnLow i (n - 8 * e.2) e.1)

/-- Burns the first n bits of mark i of the target's progress word. -/
def Lcs.burnMark (l : Lcs) (i n : Nat) : Lcs := { l with progress := upd (l.transitTo - 1) (burnGroup i n) l.progress }

/-- Burns the first n bits of the target state's group in the three copies of the life-cycle word. -/
def Lcs.burnState (l : Lcs) (n : Nat) : Lcs := { l with copies := burnGroup (l.transitTo - 1) n l.copies }

/-- The first n bits of a row burnt to ones. -/
def burnRow (n : Nat) (b : Bytes) : Bytes := b.zipIdx.map (fun e => e.1 ||| byte (2 ^ min 8 (n - 8 * e.2) - 1))

/-- Burns the first n bits of the rows that scrapping burns: trims, L0, attestation seed (R437). -/
def Lcs.burnRows (l : Lcs) (n : Nat) : Lcs :=
  let all := 8 * (l.trims.length + l.l0.length + l.attSeed.length)
  { l with
    burntOut := l.burntOut || decide (all ≤ n)
    trims := burnRow n l.trims
    l0 := burnRow (n - 8 * l.trims.length) l.l0
    attSeed := burnRow (n - 8 * l.trims.length - 8 * l.l0.length) l.attSeed }

/-- The erase steps of the MAKER → INTEGRATOR row (R437). The transfer counter and the library generation survive. -/
def Core.eraseOwner (c : Core) : Core :=
  let gone (k : Custody) : Custody := { ({} : Custody) with xfer := k.xfer, xferMark := k.xferMark }
  ({ c with
    batt := { c.batt with swk := none }
    flash := { c.flash with swkCheck := none, journals := [{}, {}], lib := [], libLost := true, svMaster := [], cust := gone c.flash.cust } } : Core).allCC
    (fun s => { s with cust := gone s.cust, stage := none })

/-- What scrapping erases in flash beyond it: logs, configuration, tag, counters, images and the copy of the trims (R437). -/
def Core.eraseUnit (c : Core) : Core :=
  let f := c.flash
  { (c.allCC (fun s => { s with cust := {} })) with
    flash := { f with alarmLog := [], cfg := AlarmCfg.default, tag := zeros 256, cust := {}, fwStaged := none, fwCommitted := 0, libGen := 0, libLost := false, trims := none } }

/-- The erase steps of a target (R437). -/
def Core.eraseFor (c : Core) (dest : Nat) : Core :=
  match dest with
  | 1 => c.eraseOwner
  | 3 => c.eraseSecrets.eraseOwner
  | 4 => c.eraseSecrets.eraseOwner.eraseUnit
  | _ => c

/-- The work after STATE_BURNT: entering FIELDED raises every class to its floor, and the battery domain takes its copy (R408, R437). -/
def Core.afterBurn (c : Core) (dest : Nat) : Core :=
  if dest ≠ 2 then c
  else
    let cfg := { c.tmp.cfg with cls := List.zipWith max c.tmp.cfg.cls fieldedFloors }
    { c with tmp := { c.tmp with cfg := cfg }, flash := { c.flash with cfg := cfg }, batt := { c.batt with cls := cfg.cls, enables := cfg.enables } }

/-- The transition goes on at a step. -/
def Core.atStep (c : Core) (n : Nat) : Core := { c with lcs := { c.lcs with transitStep := n } }

/-- A burn of a step (R438): it has ended (outcome 0), a bit after the first n has failed all its pulses, which detects OTP and stops the transition with its mark as it then stands (1), or the first n bits are burnt and it goes on (any other). -/
def Core.burn (c : Core) (outcome n next : Nat) (f : Lcs → Nat → Lcs) : Core :=
  match outcome with
  | 0 => ({ c with lcs := f c.lcs (2 ^ 16) } : Core).atStep next
  | 1 => (({ c with lcs := f c.lcs n } : Core).atStep 0).detect 25 0 0
  | _ => { c with lcs := f c.lcs n }

/-- Step 2 of R436: the erase steps, of which scrapping ends with rows that are burnt (R437, R438). -/
def Core.eraseStep (c : Core) (outcome n : Nat) : Core :=
  if c.lcs.transitTo = 4 then (c.eraseFor 4).burn outcome n 3 Lcs.burnRows
  else if outcome = 0 then (c.eraseFor c.lcs.transitTo).atStep 3
  else c

/-- TRANSIT_STEP_END (R436): the seven steps; CLOSED passes to WAKE, but not past the loss of both inputs, which has precedence (R35). -/
def Core.transitStep (c : Core) (outcome n : Nat) : Core :=
  if c.g.mode != .transit then c
  else
    match c.lcs.transitStep with
    | 1 => c.burn outcome n 2 (fun l n => l.burnMark 0 n)
    | 2 => c.eraseStep outcome n
    | 3 => c.burn outcome n 4 (fun l n => l.burnMark 1 n)
    | 4 => c.burn outcome n 5 Lcs.burnState
    | 5 => c.burn outcome n 6 (fun l n => l.burnMark 2 n)
    | 6 => if outcome = 0 then (c.afterBurn c.lcs.transitTo).atStep 7 else c
    | 7 =>
      if outcome = 0 then
        let c : Core := { c with lcs := { (c.lcs.burnMark 3 (2 ^ 16)) with closedNow := true } }
        if c.pwr.losing = 0 then c.wakeFromTransit else c.atStep 0
      else c.burn outcome n 7 (fun l n => l.burnMark 3 n)
    | _ => c

/-- TRANSIT_STEP_END (R436). -/
def execTransitStepEnd (outcome burnt : Nat) (s : State) : Host.Outcome State Fault Refusal := run (fun c => c.transitStep outcome burnt) s

/-! ### The debug port (R440 to R443) -/

/-- The TAP leaves Test-Logic-Reset; source 165 tells of the first time since WAKE (R444, R445). -/
def Core.attach (c : Core) : Core :=
  if c.lcs.attached then c else ({ c with lcs := { c.lcs with attached := true } } : Core).pulseAll 165

/-- The frame of the debug port: unpowered it does nothing; in FIELDED it is inert, and an edge on DBG_CK detects DEBUG (R443); disabled it is inert (R442). -/
def Core.tap (c : Core) (f : Core → Core) : Core :=
  if !c.powered then c
  else if c.fielded then c.detect 24 0 0
  else if c.lcs.disabled then c
  else f c.attach

/-- An instruction is selected (R440): a scan of the instruction register, which shifts out the 0x01 it captured, unless the instruction stands there already. -/
def Core.selectIr (c : Core) (ir : Nat) : Core :=
  if c.lcs.ir = ir then c else ({ c with lcs := { c.lcs with ir := ir } } : Core).send (.tap 8 1)

/-- TEST_LOGIC_RESET_EXIT (R445). -/
def execTestLogicResetExit (s : State) : Host.Outcome State Fault Refusal := run (fun c => c.tap id) s

/-- Instructions other than BYPASS that the port implements (R440). -/
def tapCodes : List Nat := [0xFE, 0x01, 0x02, 0x20, 0x21]

/-- BYPASS (R440): 0xFF and every code that names no other instruction select the bypass register, which captures 0, as IEEE 1149.1 has it (PRESUMED, log entry 7). A code that names another instruction selects that one, and no data register is scanned. -/
def execBypass (code : Nat) (s : State) : Host.Outcome State Fault Refusal :=
  run (fun c => c.tap (fun c =>
    let d := c.selectIr (code % 256)
    if tapCodes.contains (code % 256) then d else ({ d with lcs := { d.lcs with bypass := 0 } } : Core).send (.tap 1 0))) s

/-- The 32 bits of IDCODE (R440). -/
def Core.idcode (c : Core) : Nat := at_ 28 (c.g.stepping % 16) + at_ 12 (Config.deviceId c.g.variant) + at_ 1 0x2D7 + 1

/-- IDCODE (R440). -/
def execIdcode (s : State) : Host.Outcome State Fault Refusal := run (fun c => c.tap (fun c => (c.selectIr 0xFE).send (.tap 32 c.idcode))) s

/-- The boundary register takes what its cells hold; the spec gives its length and cells nowhere, so the shifted bits carry no length. -/
def Core.boundaryScan (c : Core) (ir v : Nat) : Core :=
  ({ (c.selectIr ir) with lcs := { (c.selectIr ir).lcs with boundary := v } } : Core).send (.tap 0 v)

/-- SAMPLE (R441): the pins' levels are captured. -/
def execSample (boundary : Nat) (s : State) : Host.Outcome State Fault Refusal := run (fun c => c.tap (fun c => c.boundaryScan 0x01 boundary)) s

/-- EXTEST (R441): the register drives the pins. -/
def execExtest (boundary : Nat) (s : State) : Host.Outcome State Fault Refusal := run (fun c => c.tap (fun c => c.boundaryScan 0x02 boundary)) s

/-- DBG_ADDR (R440): 48 bits, 8-byte aligned. -/
def execDbgAddr (address : W64) (s : State) : Host.Outcome State Fault Refusal :=
  run (fun c => c.tap (fun c => { (c.selectIr 0x20) with lcs := { (c.selectIr 0x20).lcs with dbgAddr := w48 (address.toNat / 8 * 8) } })) s

/-- A region is locked for an access in a life-cycle state (R441). -/
def regionLocked (state region : Nat) (write : Bool) : Bool :=
  if state ≤ 2 then region != 0
  else region == 5 || region == 6 || (region == 7 && write)

/-- A violation is counted with its region and told of as the state says (R442). -/
def Core.violation (c : Core) (region : Nat) : Core :=
  let c := { c with lcs := { c.lcs with violations := sat 32 (c.lcs.violations + 1), lastRegion := region % 16 } }
  match c.lcState with
  | 0 => c.pulseAll 164
  | 1 => c.detect 24 0 0
  | 3 => c.pulseAll 164
  | _ => c

/-- The 51 bits of an outcome (R440). -/
def dbgOutcome (locked write : Bool) (data : Nat) : Nat := at_ 50 1 + at_ 49 (b2n locked) + at_ 48 (b2n write) + data

/-- The internal word at DBG_ADDR: what debug writes have left, else a free value, for the spec gives no map of internal addresses. -/
def Core.internalWord (c : Core) : W48 := Table.findD c.lcs.dbgAddr.toNat (Config.debugWord c.free c.lcs.dbgAddr) c.lcs.dbgWords

/-- DBG_ACCESS (R440, R442): the previous outcome is shifted out, then the access takes place and the address moves on by 8. -/
def Core.dbgAccess (c : Core) (write : Bool) (data : W48) : Core :=
  let a := c.lcs.dbgAddr
  let region := Config.debugRegion a
  let locked := regionLocked c.lcState region write
  let seen := if locked then 0xD0D0D0D0D0D0 else c.internalWord.toNat
  let c := (c.selectIr 0x21).send (.tap 51 c.lcs.dbgOut)
  let words := if write ∧ !locked then Table.put a.toNat data c.lcs.dbgWords else c.lcs.dbgWords
  let c := { c with
    lcs := { c.lcs with dbgWords := words, dbgAddr := a + 8, dbgOut := dbgOutcome locked write seen }
    free := c.free + 1 }
  if locked then c.violation region else c

/-- DBG_ACCESS (R440). -/
def execDbgAccess (write : Bool) (data : W64) (s : State) : Host.Outcome State Fault Refusal :=
  run (fun c => c.tap (fun c => c.dbgAccess write (w48 data.toNat))) s

/-! ### The alarm configuration and log operations (R413, R414, R418) -/

/-- A mode in which TM_CONFIGURE is accepted; TM_LOG_READ is accepted in UPDATE too. -/
def Core.tmMode (c : Core) (read : Bool) : Bool := c.lcServed || (read && c.g.mode == .update)

/-- TM_CONFIGURE (R414): the loops are measured, and the configuration takes effect when its commit is applied (R413). -/
def execTmConfigure (tid : Nat) (ohms : List Nat) (s : State) : Host.Outcome State Fault Refusal :=
  run (fun c => c.cuOp tid 0x320 (fun c t => do
    c.portZero t
    need c (c.tmMode false) c.modeRefused
    need c (t.formOk 0 false false none 0) requestFormat
    match tmCheck t.source ohms c.floors with
    | some d => throw (.refused c (Status.inputFormat, d))
    | none =>
      let c ← c.gateTask t unitGroup
      let c := c.updTask tid (fun t => { t with chain := (ohms.map (leBytes 4)).flatten })
      return (c.edge c.linkMask 61, { atGlaze := true }))) s

/-- TM_LOG_READ (R418). -/
def execTmLogRead (tid : Nat) (s : State) : Host.Outcome State Fault Refusal :=
  run (fun c => c.cuOp tid 0x321 (fun c t => do
    need c (c.tmMode true) c.modeRefused
    need c (t.formOk 0xFFFFFFFF false false (some 0) 32 && t.dstLen % 32 == 0) requestFormat
    let r := logFrom c.flash.alarmLog t.param (t.dstLen / 32) c.nextUnlogged
    let data := (r.1.map AlarmEnt.bytes).flatten
    return (c, { res0 := r.2, res1 := data.length, data := data }))) s

end Sys2Proof.Machine
end

