-- ==== Sys2Proof/Machine/Recipes.lean ====
section
/-! DEFINITION. The recipe library (R173 to R194): what each opcode's fields mean to registration (R181 to R184), the fifteen tests of R188, and the operations that register, retire and read recipes. -/

namespace Sys2Proof.Machine

/-! ### Opcodes as registration sees them (R182, R184) -/

/-- What taint a step's output carries (R184). -/
inductive Taint where
  /-- The union of its operands' taints. -/
  | union
  /-- The union and C. -/
  | card
  /-- P. -/
  | pin
  /-- None, or no output. -/
  | clean
  /-- A KEY tray. -/
  | key
  /-- A HANDLE tray. -/
  | handle
deriving DecidableEq, Repr

/-- A row of R182 with R184: whether the opcode is a test and can miss; the range of LEN, none where it takes none, and whether LEN may stand for the source length; how many key selectors; its taint; whether it refuses P. -/
structure OpRow where
  code : Nat
  test : Bool := false
  miss : Bool := false
  lo : Nat := 0
  hi : Nat := 0
  srcLen : Bool := false
  keys : Nat := 0
  taint : Taint
  refuseP : Bool
deriving DecidableEq, Repr

/-- TRAY rows. -/
def trayRows : List OpRow :=
  [{ code := 0x01, lo := 1, hi := 384, taint := .union, refuseP := false }, { code := 0x02, lo := 1, hi := 384, taint := .union, refuseP := false },
   { code := 0x03, lo := 1, hi := 384, taint := .clean, refuseP := false }, { code := 0x04, test := true, lo := 1, hi := 384, taint := .clean, refuseP := true },
   { code := 0x05, lo := 1, hi := 64, taint := .union, refuseP := false }, { code := 0x06, lo := 1, hi := 64, taint := .union, refuseP := false },
   { code := 0x07, lo := 1, hi := 64, taint := .union, refuseP := false }]

/-- Cipher and MAC rows. -/
def cipherRows : List OpRow :=
  [{ code := 0x20, lo := 1, hi := 320, srcLen := true, keys := 1, taint := .union, refuseP := false },
   { code := 0x21, lo := 1, hi := 320, srcLen := true, keys := 1, taint := .card, refuseP := false },
   { code := 0x22, lo := 1, hi := 320, srcLen := true, keys := 1, taint := .clean, refuseP := true },
   { code := 0x23, test := true, lo := 1, hi := 320, srcLen := true, keys := 1, taint := .clean, refuseP := true },
   { code := 0x24, keys := 1, taint := .clean, refuseP := true }]

/-- PIN and card verification rows. -/
def pinRows : List OpRow :=
  [{ code := 0x30, keys := 2, taint := .clean, refuseP := false }, { code := 0x31, keys := 1, taint := .pin, refuseP := false },
   { code := 0x32, keys := 1, taint := .clean, refuseP := false }, { code := 0x33, test := true, keys := 2, taint := .clean, refuseP := false },
   { code := 0x34, test := true, keys := 2, taint := .clean, refuseP := false }, { code := 0x35, keys := 2, taint := .clean, refuseP := false },
   { code := 0x36, keys := 2, taint := .clean, refuseP := false }, { code := 0x38, keys := 1, taint := .clean, refuseP := true },
   { code := 0x39, test := true, keys := 1, taint := .clean, refuseP := true }]

/-- Key derivation, cryptogram and key-block rows. -/
def deriveRows : List OpRow :=
  [{ code := 0x3A, keys := 1, taint := .key, refuseP := true }, { code := 0x3B, keys := 1, taint := .key, refuseP := true },
   { code := 0x3C, keys := 1, taint := .key, refuseP := true }, { code := 0x3D, keys := 1, taint := .key, refuseP := true },
   { code := 0x3E, test := true, lo := 1, hi := 320, srcLen := true, keys := 1, taint := .clean, refuseP := true },
   { code := 0x3F, keys := 1, taint := .clean, refuseP := true },
   { code := 0x40, lo := 1, hi := 384, keys := 2, taint := .clean, refuseP := true }, { code := 0x41, lo := 1, hi := 384, keys := 1, taint := .key, refuseP := true }]

/-- HASH, BN, KEYRES, SIEVE and EMIT rows. -/
def otherRows : List OpRow :=
  [{ code := 0x50, lo := 1, hi := 384, srcLen := true, taint := .union, refuseP := true },
   { code := 0x51, lo := 1, hi := 384, srcLen := true, keys := 1, taint := .clean, refuseP := true },
   { code := 0x52, lo := 1, hi := 320, keys := 1, taint := .key, refuseP := true },
   { code := 0x60, lo := 1, hi := 64, keys := 1, taint := .clean, refuseP := true },
   { code := 0x61, test := true, lo := 1, hi := 64, keys := 1, taint := .clean, refuseP := true },
   { code := 0x62, lo := 1, hi := 133, keys := 1, taint := .key, refuseP := true },
   { code := 0x70, taint := .handle, refuseP := true }, { code := 0x71, miss := true, taint := .handle, refuseP := true },
   { code := 0x80, test := true, miss := true, taint := .clean, refuseP := true },
   { code := 0x90, lo := 1, hi := 384, srcLen := true, taint := .clean, refuseP := false }]

/-- The row of an opcode. -/
def opRow (op : Nat) : Option OpRow := (trayRows ++ cipherRows ++ pinRows ++ deriveRows ++ otherRows).find? (·.code == op)

/-- The step's row; a code that R182 does not list has none and fails test 6. -/
def RStep.row (s : RStep) : OpRow := (opRow s.op).getD { code := 0, taint := .clean, refuseP := false }

/-- A byte range: first byte and length. -/
abbrev Range := Nat × Nat

/-- Two ranges share a byte. -/
def meets (a b : Range) : Bool := decide (0 < a.2) && decide (0 < b.2) && decide (a.1 < b.1 + b.2) && decide (b.1 < a.1 + a.2)

/-- Trays that a range touches. -/
def traysOf (r : Range) : List Nat := (List.range 12).filter (fun t => meets r (32 * t, 32))

/-- Bytes of the output extent of a signature scheme (R323). -/
def signExtent (scheme : Nat) : Nat := if scheme = 7 then 132 else if scheme = 8 ∨ scheme = 9 then 64 else 256

/-- Bytes of A, B and D that a step uses, for an effective LEN and an IV size; 0 where a field is not used (R182, R205, R228). -/
def RStep.sizes (s : RStep) (n iv : Nat) : Nat × Nat × Nat :=
  let g := s.arg
  let h := (n + 1) / 2
  let blk (f : Nat) : Nat := if f = 4 then 16 else 8
  let pan (one : Bool) : Nat := if one then 0 else 10
  let fi := bits 3 0 g
  let fo := bits 7 4 g
  match s.op with
  | 0x01 => (n, 0, n)
  | 0x02 => (n, n, n)
  | 0x03 => (0, 0, n)
  | 0x04 => (n, n, 0)
  | 0x05 => (n, 0, h)
  | 0x06 => (h, 0, n)
  | 0x07 => (h, 16, h)
  | 0x20 => (n, if bit 4 g then iv else 0, n)
  | 0x21 => (n, if bit 4 g then iv else 0, n)
  | 0x22 => (n, 0, bits 9 5 g)
  | 0x23 => (n, bits 9 5 g, 0)
  | 0x24 => (0, 0, 3)
  | 0x30 => (blk fi, pan (fi == 1 && fo == 1), blk fo)
  | 0x31 => (blk fi, pan (fi == 1), 16)
  | 0x32 => (16, pan (fo == 1), blk fo)
  | 0x33 => (blk fi, 32, 0)
  | 0x34 => (blk fi, 32, 0)
  | 0x35 => (blk fi, 32, 6)
  | 0x36 => (blk fi, 32, 2)
  | 0x38 => (16, 0, 2)
  | 0x39 => (16, 2, 0)
  | 0x3A => (10, 0, 32)
  | 0x3B => (12, 0, 32)
  | 0x3C => (10, 1, 32)
  | 0x3D => (2, if bits 1 0 g = 1 then 4 else 0, 32)
  | 0x3E => (n, 8, 0)
  | 0x3F => (8, if bit 0 g then 4 else 2, 8)
  | 0x40 => (0, 16, n)
  | 0x41 => (n, 0, 32)
  | 0x50 => (n, 0, hashLen (bits 1 0 g))
  | 0x51 => (n, 0, bits 10 4 g)
  | 0x52 => (n, 0, 32)
  | 0x60 => (n, 0, signExtent (bits 3 0 g))
  | 0x61 => (n, signExtent (bits 3 0 g), 0)
  | 0x62 => (n, 0, 32)
  | 0x70 => (6, 0, 8)
  | 0x71 => (8, 0, 8)
  | 0x80 => (10, 0, 8)
  | 0x90 => (n, 0, 0)
  | _ => (0, 0, 0)

/-- Bytes of a fill area by output format (R204). -/
def fillArea (fmt : Nat) : Nat := if fmt = 1 ∨ fmt = 4 then 8 else if fmt = 3 then 10 else 0

/-- A defined PIN format code (R205). -/
def pinFormat (f : Nat) : Bool := [0, 1, 3, 4].contains f

/-- The fill area lies in the RND area (R204). -/
def fillOk (arg fmt rndLen : Nat) : Bool :=
  let o := bits 13 8 arg
  if fmt = 0 then o == 0 else decide (o + fillArea fmt ≤ rndLen)

/-- A scheme and LEN that a recipe may use (R323). -/
def recipeScheme (scheme len : Nat) : Bool :=
  scheme != 6 && decide (scheme ≤ 9) && decide (len ≤ 64) && schemeLenOk scheme len

/-- ARG of a MAC step (R216, R218). -/
def macArgOk (g : Nat) : Bool :=
  let alg := bits 2 0 g
  let pad := bits 4 3 g
  let m := bits 9 5 g
  decide (g < 2 ^ 10) && [1, 3, 5].contains alg && (alg == 5) == (pad == 0) && decide (4 ≤ m) && decide (m ≤ 16)

/-- ARG is defined for the opcode (R182 and the rules it names). -/
def RStep.argOk (s : RStep) (rndLen : Nat) : Bool :=
  let g := s.arg
  let fi := bits 3 0 g
  let fo := bits 7 4 g
  match s.op with
  | 0x03 => decide (g < 256)
  | 0x05 => decide (g < 2)
  | 0x20 => decide (g < 32) && decide (fi ≤ 5)
  | 0x21 => decide (g < 32) && decide (fi ≤ 5)
  | 0x22 => macArgOk g
  | 0x23 => macArgOk g
  | 0x30 => decide (g < 2 ^ 14) && pinFormat fi && pinFormat fo && (fo != 1 || fi == 1) && fillOk g fo rndLen
  | 0x31 => decide (g < 16) && pinFormat fi
  | 0x32 => decide (g < 2 ^ 14) && fi == 0 && pinFormat fo && fillOk g fo rndLen
  | 0x33 => decide (g < 16) && pinFormat fi
  | 0x34 => decide (g < 16) && pinFormat fi
  | 0x35 => decide (g < 16) && pinFormat fi
  | 0x36 => decide (g < 16) && pinFormat fi
  | 0x38 => decide (g ≤ 2)
  | 0x39 => decide (g ≤ 2)
  | 0x3A => decide (g ≤ 4)
  | 0x3B => decide (g < 256) && decide (fi ≤ 6) && decide (fo ≤ 4)
  | 0x3C => decide (g ≤ 1)
  | 0x3D => decide (g ≤ 1)
  | 0x3E => decide (g ≤ 2)
  | 0x3F => decide (g ≤ 1)
  | 0x41 => [1, 2, 3, 4, 5, 6, 7, 8, 9, 0x0A, 0x0B, 0x10, 0x11, 0x12, 0x13, 0x20, 0x21].contains g
  | 0x50 => decide (g ≤ 3)
  | 0x51 => decide (g < 2 ^ 11) && bits 3 2 g == 0 && decide (4 ≤ bits 10 4 g) && decide (bits 10 4 g ≤ hashLen (bits 1 0 g))
  | 0x52 => decide (g < 256) && decide (fi ≤ 4) && decide (1 ≤ fo) && decide (fo ≤ 9)
  | 0x60 => decide (g < 16) && recipeScheme g s.len
  | 0x61 => decide (g < 16) && recipeScheme g s.len
  | 0x62 => decide (1 ≤ g) && decide (g ≤ 6) && s.len == pubBytes (0x10 + g) 0
  | 0x71 => decide (g < 8)
  | 0x80 => decide (g < 256)
  | 0x90 => true
  | _ => g == 0

/-! ### A recipe under test -/

/-- An image under test, with its steps. -/
structure Rcp where
  img : Bytes
  steps : List RStep
deriving DecidableEq, Repr

/-- SRC address. -/
def Rcp.srcArea (r : Rcp) : Range := (imgSrc r.img, imgSrcMax r.img)
/-- RND area. -/
def Rcp.rndArea (r : Rcp) : Range := (imgRnd r.img, imgRndLen r.img)
/-- Step k. -/
def Rcp.step (r : Rcp) (k : Nat) : RStep := r.steps.getD k { w0 := 0, w1 := 0 }
/-- Step indexes. -/
def Rcp.idx (r : Rcp) : List Nat := List.range r.steps.length
/-- The lowest step that fails a test. -/
def Rcp.firstStep (r : Rcp) (bad : Nat → Bool) : Option Nat := r.idx.find? bad

/-- Effective LEN at registration: LEN 0 stands for the largest source. -/
def Rcp.lenOf (r : Rcp) (s : RStep) : Nat := if s.len = 0 ∧ s.row.srcLen then imgSrcMax r.img else s.len

/-- The step that produces the KEY tray at the start of tray t, if any. -/
def Rcp.keyMaker (r : Rcp) (t : Nat) : Option RStep := r.steps.find? (fun s => s.row.taint == .key && s.d == 32 * t)

/-- The IV size registration counts (R182). -/
def Rcp.ivLen (r : Rcp) (s : RStep) : Nat :=
  if s.ksel < 16 then 16
  else match r.keyMaker (s.ksel - 16) with
    | some p =>
      let alg := if p.op = 0x3A then 0 else if p.op = 0x3B then bits 7 4 p.arg else if p.op = 0x52 then bits 3 0 p.arg else 2
      if isTdea alg then 8 else 16
    | none => 16

/-- Bytes of A, B and D of a step. -/
def Rcp.sizes (r : Rcp) (s : RStep) : Nat × Nat × Nat := s.sizes (r.lenOf s) (r.ivLen s)
/-- What a step reads at A and B. -/
def Rcp.operands (r : Rcp) (s : RStep) : List Range := [(s.a, (r.sizes s).1), (s.b, (r.sizes s).2.1)].filter (fun x => x.2 != 0)
/-- What a step writes at D. -/
def Rcp.writes (r : Rcp) (s : RStep) : List Range := [(s.d, (r.sizes s).2.2)].filter (fun x => x.2 != 0)
/-- The fill area a step reads (R204). -/
def Rcp.fill (r : Rcp) (s : RStep) : List Range :=
  if s.op = 0x30 ∨ s.op = 0x32 then [(imgRnd r.img + bits 13 8 s.arg, fillArea (bits 7 4 s.arg))].filter (fun x => x.2 != 0) else []
/-- The KEY and HANDLE trays that a step's selectors read. -/
def RStep.keyTrays (s : RStep) : List Nat := ([s.ksel, s.ksel2].filter (fun k => decide (16 ≤ k) && decide (k ≤ 27))).map (· - 16)
/-- Everything a step reads. -/
def Rcp.reads (r : Rcp) (s : RStep) : List Range := r.operands s ++ r.fill s ++ s.keyTrays.map (fun t => (32 * t, 32))

/-- A range of one list meets one of another. -/
def anyMeet (l m : List Range) : Bool := l.any (fun x => m.any (meets x))

/-! ### The tests of R188 -/

/-- Test 1: HEADER_FORMAT. -/
def headerBad (img : Bytes) : Bool :=
  let n := imgSteps img
  leNat (cut 0 2 img) != 1 || n == 0 || decide (32 < n) || img.length != 128 + 16 * n || decide (16 ≤ imgPorts img)
    || decide (512 ≤ imgSrc img) || decide (512 ≤ imgRnd img) || bits 14 9 (imgRes0 img) != 0 || bits 14 9 (imgRes1 img) != 0
    || decide (4 ≤ imgKeyreq img) || !allZero (cut 17 7 img) || !allZero (cut 32 32 img)

/-- The tray range a result word names. -/
def resRange (h : Nat) : List Range := if bit 15 h then [(bits 8 0 h, 8)] else []

/-- Test 5: AREA. -/
def Rcp.areaBad (r : Rcp) : Bool :=
  let inside (x : Range) : Bool := x.2 == 0 || (decide (0x40 ≤ x.1) && decide (x.1 + x.2 ≤ 0x180))
  decide (320 < imgSrcMax r.img) || decide (64 < imgRndLen r.img) || decide (72 < imgInlineMin r.img) || !inside r.srcArea || !inside r.rndArea
    || meets r.srcArea r.rndArea || (resRange (imgRes0 r.img) ++ resRange (imgRes1 r.img)).any (fun x => decide (0x200 < x.1 + x.2))

/-- A key selector that R181 defines. -/
def selectorOk (k : Nat) : Bool := decide (k ≤ 2) || (decide (16 ≤ k) && decide (k ≤ 27))

/-- Test 8: FIELD. -/
def Rcp.fieldBad (r : Rcp) (s : RStep) : Bool :=
  let row := s.row
  let z := s.sizes (if s.len = 0 then 1 else s.len) 16
  let ops := r.operands s
  let outs := r.writes s
  decide (2 ^ 58 ≤ s.w0) || bits 47 46 s.w1 != 0
    || (z.1 == 0 && s.a != 0) || (z.2.1 == 0 && s.b != 0) || (z.2.2 == 0 && s.d != 0)
    || (if row.hi = 0 then s.len != 0
        else if s.len = 0 then !(row.srcLen && s.a == imgSrc r.img && imgSrcMax r.img != 0)
        else decide (s.len < row.lo) || decide (row.hi < s.len))
    || (ops ++ outs).any (fun x => decide (0x200 < x.1 + x.2))
    || outs.any (fun x => decide (0x180 < x.1 + x.2) || meets x r.srcArea || meets x r.rndArea || ops.any (meets x))
    || (s.sense && s.cond == 0)
    || !selectorOk s.ksel || !selectorOk s.ksel2 || (s.ksel != 0) != (decide (1 ≤ row.keys)) || (s.ksel2 != 0) != (row.keys == 2)
    || (s.op == 0x24 && decide (16 ≤ s.ksel) && (match r.keyMaker (s.ksel - 16) with
        | some p => p.op == 0x3C || p.op == 0x3D
        | none => false))
    || !s.argOk (imgRndLen r.img)

/-- Test 9: FLAG. -/
def RStep.flagBad (s : RStep) : Bool :=
  let low (f : Nat) : Bool := decide (1 ≤ f) && decide (f ≤ 7)
  bit 5 s.wait || bit 7 s.wait || low s.sets || low s.outFlag || low s.cond

/-- The steps that set a flag by SETS. -/
def Rcp.setters (r : Rcp) (f : Nat) : List Nat := r.idx.filter (fun k => (r.step k).sets == f)

/-- Steps that directly precede step y: the only setters of the flags it waits on (R185). -/
def Rcp.direct (r : Rcp) (y : Nat) : List Nat :=
  ((List.range 24).map (· + 8)).flatMap (fun f =>
    if bit f (r.step y).wait then (match r.setters f with
      | [x] => [x]
      | _ => []) else [])

/-- One round of closing precedence, as masks of preceding steps. -/
def closeRound (d : List (List Nat)) (m : List Nat) : List Nat :=
  d.map (fun xs => xs.foldl (fun a x => a ||| 2 ^ x ||| m.getD x 0) 0)

/-- For each step, the mask of the steps that precede it (R185). -/
def Rcp.before (r : Rcp) : List Nat :=
  let d := r.idx.map r.direct
  iter (closeRound d) r.steps.length (r.idx.map (fun _ => 0))

/-- Test 10: OUT_MISUSE. Where the OUT flag of one step is in SETS or WAIT of another, the spec names neither as the failing step: the refusal reports the step with the OUT (DESIGN CHOICE, log entry 102). -/
def Rcp.outBad (r : Rcp) (before : List Nat) (k : Nat) : Bool :=
  let s := r.step k
  let row := s.row
  let f := s.outFlag
  (f != 0 && !row.test && !row.miss) || (s.vf && !row.test && !row.miss) || (s.missBit && !row.miss)
    || (f != 0 && ((r.idx.take k).any (fun j => (r.step j).outFlag == f) || r.steps.any (fun x => x.sets == f || bit f x.wait)))
    || (s.cond != 0 && !r.idx.any (fun j => bit j (before.getD k 0) && (r.step j).outFlag == s.cond))

/-- One round of the set of steps that can become ready (R185). -/
def Rcp.readyRound (r : Rcp) (can : Nat) : Nat :=
  r.idx.foldl (fun c k =>
    if ((List.range 24).map (· + 8)).all (fun f => !bit f (r.step k).wait || (r.setters f).any (fun x => bit x c)) then c ||| 2 ^ k else c) can

/-- The steps that can become ready. -/
def Rcp.canReady (r : Rcp) : Nat := iter r.readyRound r.steps.length 0

/-- Test 12: INPUT_ORDER. -/
def Rcp.inputBad (r : Rcp) (s : RStep) : Bool :=
  let l := r.operands s ++ r.fill s
  (l.any (meets r.srcArea) && !bit 1 s.wait) || (l.any (meets r.rndArea) && !bit 4 s.wait)
    || ((s.ksel == 1 || s.ksel2 == 1) && !bit 2 s.wait) || ((s.ksel == 2 || s.ksel2 == 2) && !bit 3 s.wait)

/-- The step produces a KEY or HANDLE tray. -/
def RStep.makes (s : RStep) : Bool := s.row.taint == .key || s.row.taint == .handle

/-- Steps that write a tray. -/
def Rcp.writers (r : Rcp) (t : Nat) : List Nat := r.idx.filter (fun k => anyMeet (r.writes (r.step k)) [(32 * t, 32)])

/-- The step that gives a tray the type KEY or HANDLE (R183). -/
def Rcp.typedBy (r : Rcp) (t : Nat) : Option Nat :=
  match r.writers t with
  | [k] => if (r.step k).makes && (r.step k).d == 32 * t then some k else none
  | _ => none

/-- Test 13: TRAY_TYPE. -/
def Rcp.typeBad (r : Rcp) (k : Nat) : Bool :=
  let s := r.step k
  let ws := (r.writes s).flatMap traysOf
  (s.makes && s.d % 32 != 0)
    || ws.any (fun t => decide (1 < (r.writers t).length) && (r.writers t).any (fun j => (r.step j).makes))
    || ((r.operands s).flatMap traysOf).any (fun t => (r.typedBy t).isSome)
    || ws.any (fun t => (r.typedBy t).isSome && r.typedBy t != some k)
    || s.keyTrays.any (fun t => (r.typedBy t).isNone)

/-- The destination range of an EMIT step. -/
def Rcp.emitRange (r : Rcp) (s : RStep) : List Range := if s.op = 0x90 then [(s.arg, r.lenOf s)] else []

/-- Test 14: two steps conflict (R185), or two EMIT ranges overlap. -/
def Rcp.conflict (r : Rcp) (before : List Nat) (x y : Nat) : Bool :=
  let a := r.step x
  let b := r.step y
  (!bit x (before.getD y 0) && !bit y (before.getD x 0) &&
      (anyMeet (r.writes a) (r.reads b ++ r.writes b) || anyMeet (r.writes b) (r.reads a)))
    || anyMeet (r.emitRange a) (r.emitRange b)

/-- Taint labels: 1 P, 2 K, 4 C. -/
def taintOf (m : List Nat) (l : List Range) : Nat := (l.flatMap traysOf).foldl (fun a t => a ||| m.getD t 0) 0

/-- One round of the taints of the twelve trays (R184). -/
def Rcp.taintRound (r : Rcp) (m : List Nat) : List Nat :=
  r.steps.foldl (fun m s =>
    let t := match s.row.taint with
      | .union => taintOf m (r.operands s)
      | .card => taintOf m (r.operands s) ||| 4
      | .pin => 1
      | _ => 0
    ((r.writes s).flatMap traysOf).foldl (fun m i => upd i (· ||| t) m) m) m

/-- The taints of the trays. -/
def Rcp.taints (r : Rcp) : List Nat := iter r.taintRound (r.steps.length + 1) (List.replicate 12 0)

/-- Test 15: TAINT_LEAK. -/
def Rcp.leaks (r : Rcp) (m : List Nat) (s : RStep) : Bool :=
  let t := taintOf m (r.operands s)
  (s.row.refuseP && bit 0 t) || (s.op == 0x90 && t != 0)

/-- A test of the whole image. -/
def headerTest (bad : Bool) (code : Nat) : Option (Nat × Nat) := if bad then some (code, 0xFF) else none

/-- A test of each step in turn. -/
def Rcp.stepTest (r : Rcp) (code : Nat) (bad : Nat → Bool) : Option (Nat × Nat) :=
  match r.firstStep bad with
  | some k => some (code, k)
  | none => none

/-- Tests 1 to 5 of R188, of the header, the slot and the ports. -/
def Core.headTests (c : Core) (port param : Nat) (r : Rcp) : List (Option (Nat × Nat)) :=
  let slot := bits 15 0 param
  let inUse := match Table.find slot c.cc.lib with
    | some l => l.retiring || l.image != r.img
    | none => false
  let ports := imgPorts r.img
  [headerTest (headerBad r.img) 0x101,
   headerTest (decide (4096 ≤ slot) || bits 31 16 param != 0) 0x102,
   headerTest inUse 0x103,
   headerTest (ports == 0 || bits 31 c.nPorts ports != 0 || (port != 0 && ports != 2 ^ port)) 0x104,
   headerTest r.areaBad 0x105]

/-- Tests 6 to 12 of R188, step by step. -/
def Rcp.stepTests (r : Rcp) (sieve : Bool) : List (Option (Nat × Nat)) :=
  [r.stepTest 0x106 (fun k => (opRow (r.step k).op).isNone),
   r.stepTest 0x107 (fun k => opClass (r.step k).op == some 5 && !sieve),
   r.stepTest 0x108 (fun k => r.fieldBad (r.step k)),
   r.stepTest 0x109 (fun k => (r.step k).flagBad),
   r.stepTest 0x10A (r.outBad r.before),
   r.stepTest 0x10B (fun k => !bit k r.canReady),
   r.stepTest 0x10C (fun k => r.inputBad (r.step k))]

/-- Tests 13 to 15 of R188, of types, conflicts and taints. -/
def Rcp.trayTests (r : Rcp) : List (Option (Nat × Nat)) :=
  let results := resRange (imgRes0 r.img) ++ resRange (imgRes1 r.img)
  let before := r.before
  let taints := r.taints
  [r.stepTest 0x10D r.typeBad,
   headerTest ((results.flatMap traysOf).any (fun t => (r.typedBy t).isSome)) 0x10D,
   r.stepTest 0x10E (fun y => (List.range y).any (fun x => r.conflict before x y)),
   r.stepTest 0x10F (fun k => r.leaks taints (r.step k)),
   headerTest (taintOf taints results != 0) 0x10F]

/-- The fifteen tests of R188 in order for a caller's port: the code and the step reported, none when the image passes. -/
def Core.registerTests (c : Core) (port param : Nat) (img : Bytes) : Option (Nat × Nat) :=
  let r : Rcp := { img := img, steps := imgStepList img }
  match (c.headTests port param r).findSome? id with
  | some x => some x
  | none =>
    match (r.stepTests (Config.sieve c.g.variant)).findSome? id with
    | some x => some x
    | none => r.trayTests.findSome? id

/-! ### Operations (R175, R176) -/

/-- Records a library change in the current epoch: it raises the generation (R176). -/
def Core.libCommit (c : Core) (tid slot : Nat) (image : Option Bytes) : Core :=
  c.updCC (fun s => { s with
    libGen := (s.libGen + 1) % 2 ^ 48
    libCommits := s.libCommits ++ [{ epoch := s.epoch, tid := tid, slot := slot, gen := (s.libGen + 1) % 2 ^ 48, image := image }] })

/-- RCP_REGISTER (R175, R188). -/
def execRcpRegister (tid : Nat) (s : State) : Host.Outcome State Fault Refusal :=
  run (fun c => c.runOp tid clsAdmin 0x100 (fun c t =>
    let img := t.source
    let slot := bits 15 0 t.param
    let digest := leNat ((sha256 img).take 8)
    match c.registerTests t.port t.param img with
    | some (code, step) => .ok (c, { status := Status.inputFormat, detail := code, res0 := step })
    | none =>
      match Table.find slot c.cc.lib with
      | some _ => .ok (c, { res0 := digest, res1 := c.cc.libGen })
      | none =>
        let c := (c.updCC (fun s => { s with lib := Table.put slot { image := img } s.lib })).libCommit tid slot (some img)
        .ok (c, { res0 := digest, res1 := c.cc.libGen, held := true }))) s

/-- Tasks in flight that use a recipe slot. -/
def CC.recipeUsers (s : CC) (slot : Nat) : Nat := s.count (fun t => t.opclass == clsRecipe && t.slot == slot && !t.image.isEmpty)

/-- RCP_RETIRE (R173, R175). -/
def execRcpRetire (tid : Nat) (s : State) : Host.Outcome State Fault Refusal :=
  run (fun c => c.runOp tid clsAdmin 0x101 (fun c t =>
    let slot := bits 15 0 t.param
    match Table.find slot c.cc.lib with
    | none => .ok (c, { status := Status.recipeUnknown })
    | some l =>
      if l.retiring || !(t.port == 0 || bit t.port (imgPorts l.image)) then .ok (c, { status := Status.recipeUnknown })
      else
        let n := c.cc.recipeUsers slot
        let c := (c.updCC (fun s => ({ s with lib := Table.put slot { l with retiring := true } s.lib } : CC).emptySlots)).libCommit tid slot none
        .ok (c, { res0 := n, held := true }))) s

/-- RCP_READ (R175). -/
def execRcpRead (tid : Nat) (s : State) : Host.Outcome State Fault Refusal :=
  run (fun c => c.runOp tid clsAdmin 0x102 (fun c t =>
    let slot := bits 15 0 t.param
    if 4096 ≤ slot ∨ bits 31 16 t.param ≠ 0 then .ok (c, { status := Status.inputFormat, detail := 0x102 })
    else
      match Table.find slot c.cc.lib with
      | none => .ok (c, {})
      | some l =>
        let b := l.image ++ sha256 l.image
        if t.dstLen < b.length then .ok (c, { status := Status.inputFormat })
        else .ok (c, { res0 := if l.retiring then 2 else 1, res1 := b.length, data := b }))) s

/-- The first change of the library reaches flash; of a unit in ANALYSIS its generation alone, whatever mode the unit has come to since (R177); then its operation completes. -/
def Core.libraryWriteFirst (c : Core) : Core :=
  match c.cc.libCommits with
  | [] => c
  | k :: rest =>
    let dram := c.lcState == 3
    let lib := match k.image with
      | some im => if dram then c.flash.lib else Table.put k.slot { image := im } c.flash.lib
      | none => Table.del k.slot c.flash.lib
    let c := { c with flash := { c.flash with lib := lib, libGen := k.gen, libLost := c.flash.libLost || (dram && k.image.isSome) } }
    let c := c.updCC (fun s => { s with libCommits := rest })
    match c.task k.tid with
    | some t => if t.st == .committing then (c.updTask k.tid (fun t => { t with st := .ending })).tryRetire k.tid else c
    | none => c

/-- The first change's epoch is glazed. -/
def Core.libraryGlazed (c : Core) : Bool := match c.cc.libCommits with
  | [] => false
  | k :: _ => decide (k.epoch ≤ c.cont.glazed)

/-- The first change whose epoch is glazed, at the loss of both inputs (R54). -/
def Core.libraryFlush (c : Core) : Core := if c.libraryGlazed then c.libraryWriteFirst else c

/-- LIBRARY_COMMIT_WRITE (R176, R177): the complex that holds the Lozenge writes the first change whose epoch is glazed. -/
def Core.libraryWrite (c : Core) : Core := if c.libraryGlazed && c.leaseHeld then c.libraryWriteFirst else c

/-- LIBRARY_COMMIT_WRITE (R176). -/
def execLibraryCommitWrite (s : State) : Host.Outcome State Fault Refusal := run Core.libraryWrite s

end Sys2Proof.Machine
end

