-- ==== Sys2Proof/Machine/Power.lean ====
section
/-! DEFINITION. Inputs and their states (R447, R448), the loss of both inputs (R449 to R451), and the SMBus telemetry (R461). -/

namespace Sys2Proof.Machine

/-! ### Inputs -/

/-- The state of an input from its voltage and its present state (R447); an OPENED input stays so until it is restored. -/
def vinState (old : Nat) (mv : Int) : Nat :=
  if old = 4 then 4
  else if mv < -500 then 5
  else if mv < 8750 then 0
  else if mv < 9000 then (if old = 1 ∨ old = 2 ∨ old = 3 then 1 else 0)
  else if mv ≤ 60000 then 2
  else 3

/-- VIN_STATE_CHANGE (R447): source 12 tells of an input that leaves its range (R402). -/
def Core.vinChange (c : Core) (i : Nat) (mv : Int) : Core :=
  match c.pwr.vin[i]? with
  | none => c
  | some old =>
    let new := vinState old mv
    if new = old then c
    else
      let left := old == 2
      let c := { c with pwr := { c.pwr with vin := upd i (fun _ => new) c.pwr.vin, back := if left then upd i (fun _ => false) c.pwr.back else c.pwr.back } }
      if left then c.pulseAll 12 else c

/-- VIN_STATE_CHANGE (R447). -/
def execVinStateChange (input : Nat) (millivolts : Int) (s : State) : Host.Outcome State Fault Refusal := run (fun c => c.vinChange input millivolts) s

/-- VIN_RESTORE (R394, R447): 100 ms in range; an OPENED input closes again. -/
def Core.vinRestore (c : Core) (i : Nat) : Core :=
  let st := c.pwr.vin.getD i 0
  if (st = 2 ∧ c.pwr.back.getD i true = false) ∨ st = 4 then
    ({ c with pwr := { c.pwr with vin := upd i (fun _ => 2) c.pwr.vin, back := upd i (fun _ => true) c.pwr.back } } : Core).pulseAll 13
  else c

/-- VIN_RESTORE (R394). -/
def execVinRestore (input : Nat) (s : State) : Host.Outcome State Fault Refusal := run (fun c => c.vinRestore input) s

/-! ### Losing both inputs (R449) -/

/-- A state that carries load. -/
def carriesLoad (s : Nat) : Bool := s == 1 || s == 2 || s == 3

/-- The epoch in progress ends and is glazed, its acknowledgment included (R449). -/
def Core.lastEpoch (c : Core) : Core :=
  let e := c.nextEnd
  if c.cont.holder.isNone || c.cont.adopting.isSome || !later c.cont.expiry e then c
  else ((c.moveTo e).endEpoch e).glazeSent

/-- BOTH_INPUTS_LOST (R449): fetching stops, and the current epoch is glazed; no later one is. The loss has precedence over a request or activation accepted in it (R35). -/
def Core.inputsLost (c : Core) : Core :=
  if !c.powered || c.pwr.losing != 0 || c.pwr.vin.any carriesLoad then c
  else ({ c with pwr := { c.pwr with losing := 1, lossAt := c.now } } : Core).lastEpoch

/-- BOTH_INPUTS_LOST (R449). -/
def execBothInputsLost (s : State) : Host.Outcome State Fault Refusal := run Core.inputsLost s

/-- Every glazed commit of the key tree and the library reaches flash, whatever the lease (R54, R260). -/
def Core.flushCommits (c : Core) : Core :=
  let kt (c : Core) : Core := if c.ktGlazed then c.ktWriteFirst else c
  iter Core.libraryFlush c.cc.libCommits.length (iter kt c.cc.ktCommits.length c)

/-- HOLDUP_FLUSH_END (R449): at most 200 µs after the loss the glazed commits stand in flash, and PWR_HOLDUP records the sequence. A duration beyond that bound does not occur (R478). -/
def Core.flushEnd (c : Core) (us : Nat) : Core :=
  if c.pwr.losing ≠ 1 ∨ 200 < us then c
  else
    let c := c.flushCommits.moveTo (c.pwr.lossAt + BitVec.ofNat 48 (100 * us))
    { c with
      pwr := { c.pwr with losing := 2 }
      flash := { c.flash with losses := sat 16 (c.flash.losses + 1), lastUs := sat 16 us } }

/-- HOLDUP_FLUSH_END (R449). -/
def execHoldupFlushEnd (microseconds : Nat) (s : State) : Host.Outcome State Fault Refusal := run (fun c => c.flushEnd microseconds) s

/-- The battery domain at the loss of main power: an open group is recorded, a running ERASE completes on the cell, a loss in SAFE_HALT or ZEROIZED is recorded, and without retention protection everything is lost (R54, R411, R417). -/
def Core.battTakeover (c : Core) : Core :=
  let unprotected := c.tmp.unprotected
  let c := match c.tmp.group with
    | some g =>
      let c := if g.erasing && c.lcState != 4 then { c with batt := { c.batt with swk := none } } else c
      { c with batt := c.batt.logGroup g.battEnt, tmp := { c.tmp with group := none } }
    | none => c
  let c := if c.halted then
      let c := c.takeGroup
      { c with batt := c.batt.logGroup { group := c.batt.counter.getD 0, seconds := 0, members := 0, crowbar := false } }
    else c
  if unprotected then { c with batt := c.batt.lose } else c

/-- RETAIN_ENTER (R449, R451): after the flush, or once a rail has failed, what R27 does not keep is lost, links go down, PWROK_OUT falls. The battery domain's clock of seconds starts (R415). -/
def Core.retainEnter (c : Core) : Core :=
  if c.pwr.losing = 0 ∨ (c.pwr.losing = 1 ∧ c.pwr.pwrok = true) then c
  else
    let c := { c.battTakeover with batt := { c.battTakeover.batt with seconds := 0 } }
    let c := c.rewoken (c.ports.map (fun p => ({ perstLow := p.perstLow, refStable := p.refStable } : Port))) c.g.split c.g.strapInvalid c.now none
    let c := { c with pwr := { c.pwr with pwrok := false, railsUp := false, losing := 0 } }
    ((List.range 4).foldl (fun c n => c.addFx (.evcReset n)) c).setMode .retain

/-- RETAIN_ENTER (R449). -/
def execRetainEnter (s : State) : Host.Outcome State Fault Refusal := run Core.retainEnter s

/-! ### Telemetry (R461) -/

/-- TELEMETRY_REFRESH (R461): averages over the preceding 1 ms, saturated to their fields. -/
def Core.refresh (c : Core) (vin current : List Nat) (power : Nat) (temp : Int) (vbat : Nat) (pace ohms : List Nat) : Core :=
  if !c.powered then c
  else
    { c with
      pwr := { c.pwr with
        volts := (List.range 2).map (fun i => sat 16 (vin.getD i 0))
        amps := (List.range 2).map (fun i => sat 16 (current.getD i 0))
        power := sat 16 power }
      tmp := { c.tmp with
        temp := temp, vbat := sat 16 vbat
        pace := (List.range 2).map (fun i => sat 24 (pace.getD i 0))
        ohms := (List.range 4).map (fun i => sat 16 (ohms.getD i 0)) } }

/-- TELEMETRY_REFRESH (R461). -/
def execTelemetryRefresh (vin current : List Nat) (power : Nat) (temp : Int) (vbat : Nat) (pace ohms : List Nat) (s : State) : Host.Outcome State Fault Refusal :=
  run (fun c => c.refresh vin current power temp vbat pace ohms) s

/-- A 16-bit two's complement value. -/
def twos16 (i : Int) : Nat := (BitVec.ofInt 16 i).toNat

/-- The value of a command code of R461, with its size in bytes. -/
def Core.smbusValue (c : Core) (code : Nat) : Option (Nat × Nat) :=
  match code with
  | 0xD0 => some (c.pwr.volts.getD 0 0, 2)
  | 0xD1 => some (c.pwr.volts.getD 1 0, 2)
  | 0xD2 => some (sat 16 (c.pwr.amps.getD 0 0 + c.pwr.amps.getD 1 0), 2)
  | 0xD3 => some (c.pwr.power, 2)
  | 0xD4 => some (twos16 c.tmp.temp, 2)
  | 0xD5 => some (c.tmp.vbat, 2)
  | 0xD6 => some (c.g.mode.code + at_ 4 (b2n c.g.reducedWas) + at_ 5 (b2n c.safeLow) + at_ 6 (b2n c.alertLow) + at_ 8 c.pwr.phases, 2)
  | 0xD7 => some (c.pwr.vin.getD 0 0 + at_ 4 (c.pwr.vin.getD 1 0), 1)
  | _ => none

/-- The packet error code of a read: CRC-8 over address, command and data, as SMBus 3.0 lays down (PRESUMED). -/
def smbusPec (code : Nat) (data : Bytes) : Byte := byte (crc8 ([0x74, code, 0x75] ++ data.map (·.toNat)))

/-- The bytes of a read: low byte first; a byte beyond the value's size reads 0xFF. -/
def smbusBytes (v size : Nat) (word : Bool) : Bytes :=
  (leBytes size v ++ [0xFF]).take (if word then 2 else 1)

/-- A read of a command code (R461): served while PWROK_OUT is high. -/
def Core.smbusRead (c : Core) (code : Nat) (word pec : Bool) : Core :=
  if !c.pwr.pwrok then c
  else
    match c.smbusValue code with
    | some (v, n) =>
      let d := smbusBytes v n word
      c.send (.smbus (d ++ (if pec then [smbusPec code d] else [])) 0)
    | none => c.send (.smbus (List.replicate (1 + b2n word + b2n pec) 0xFF) 0)

/-- VIN_A (R461). -/
def execVinA (word pec : Bool) (s : State) : Host.Outcome State Fault Refusal := run (fun c => c.smbusRead 0xD0 word pec) s
/-- VIN_B (R461). -/
def execVinB (word pec : Bool) (s : State) : Host.Outcome State Fault Refusal := run (fun c => c.smbusRead 0xD1 word pec) s
/-- IIN (R461). -/
def execIin (word pec : Bool) (s : State) : Host.Outcome State Fault Refusal := run (fun c => c.smbusRead 0xD2 word pec) s
/-- PIN (R461). -/
def execPin (word pec : Bool) (s : State) : Host.Outcome State Fault Refusal := run (fun c => c.smbusRead 0xD3 word pec) s
/-- TEMP (R461). -/
def execTemp (word pec : Bool) (s : State) : Host.Outcome State Fault Refusal := run (fun c => c.smbusRead 0xD4 word pec) s
/-- VBAT (R461). -/
def execVbat (word pec : Bool) (s : State) : Host.Outcome State Fault Refusal := run (fun c => c.smbusRead 0xD5 word pec) s
/-- STATUS (R461). -/
def execStatus (word pec : Bool) (s : State) : Host.Outcome State Fault Refusal := run (fun c => c.smbusRead 0xD6 word pec) s
/-- INPUTS (R461). -/
def execInputs (word pec : Bool) (s : State) : Host.Outcome State Fault Refusal := run (fun c => c.smbusRead 0xD7 word pec) s

/-- SMBUS_OTHER_COMMAND (R461): a code of the table is answered as that code is. -/
def execSmbusOtherCommand (code : Nat) (word pec : Bool) (s : State) : Host.Outcome State Fault Refusal := run (fun c => c.smbusRead code word pec) s

/-- SMBUS_WRITE (R461): every data byte is refused. -/
def execSmbusWrite (code : Nat) (data : Bytes) (s : State) : Host.Outcome State Fault Refusal :=
  run (fun c => if c.pwr.pwrok ∧ code < 256 then c.send (.smbus [] data.length) else c) s

/-- SMBUS_CLOCK_LOW_TIMEOUT (R461): the bus is released; no transfer stands half done between two commands. -/
def execSmbusClockLowTimeout (s : State) : Host.Outcome State Fault Refusal := run id s

end Sys2Proof.Machine
end

