-- ==== Sys2Proof/Machine/Injection.lean ====
section
/-! DEFINITION. Detector injections (R419, R420): INJ_CTRL, the detectors an INSTANCE names, and the real response of each. -/

namespace Sys2Proof.Machine

/-- KIND of INJ_SEL. -/
def Tmp.injKind (t : Tmp) : Nat := bits 23 16 t.injSel.toNat
/-- INSTANCE of INJ_SEL. -/
def Tmp.injInst (t : Tmp) : Nat := bits 15 0 t.injSel.toNat

/-- Class code of an INSTANCE that names an engine. -/
def injClass (inst : Nat) : Nat := inst / 256
/-- Engine number of such an INSTANCE. -/
def injEngine (inst : Nat) : Nat := inst % 256

/-- The INSTANCE names a detector of the variant (R419). Dual-rail are the tray memories, under class 0 with the number of their cluster, cipher lanes, big-number cores and key resolvers (R20); only cipher lanes, hash lanes and big-number cores have result checks (R299, R317, R331). The spec does not say how many devices the DRAM has: every number names one (DESIGN CHOICE, log entry 106). -/
def injNames (v : Variant) (kind inst : Nat) : Bool :=
  let engine := decide (1 ≤ injClass inst) && decide (injClass inst ≤ 5) && (classEngines v (injClass inst)).contains (injEngine inst)
  match kind with
  | 1 => decide (inst < 58) && !(decide (18 ≤ inst) && decide (inst < 26) && decide (Config.hostPorts v ≤ inst / 2 - 9))
  | 2 => decide (inst < 8)
  | 3 => (engine && (injClass inst == 1 || injClass inst == 3 || injClass inst == 4)) || (injClass inst == 0 && decide (injEngine inst < 8))
  | 4 => engine && decide (injClass inst ≤ 3)
  | 5 => engine
  | 6 => (crumbMemories v).contains (bits 15 12 inst + 6, bits 11 8 inst)
  | 7 => Config.sieve v && decide (inst < 2)
  | 8 => true
  | 9 => decide (inst < 2)
  | 10 => inst == 0
  | _ => false

/-- The modes in which injections are accepted (R420). -/
def Core.injMode (c : Core) : Bool :=
  match c.g.mode with
  | .setup => true
  | .serve => true
  | .serveReduced => true
  | .quiesce => true
  | .analysis => true
  | _ => false

/-- REAL can be set only in INTEGRATOR and ANALYSIS (R420). -/
def Core.realAllowed (c : Core) : Bool := c.lcState == 1 || c.lcState == 3

/-- A write of INJ_CTRL that R420 drops and counts. -/
def Core.injRefused (c : Core) (v : Nat) : Bool :=
  (bit 1 v && !c.realAllowed) ||
  (bit 0 v && (c.tmp.injRunning || !c.injMode || !injNames c.g.variant c.tmp.injKind c.tmp.injInst))

/-- Starts the selected injection (R420): it is counted, and DONE reads 0 until it ends. -/
def Tmp.injStart (t : Tmp) : Tmp :=
  { t with
    injRunning := true
    injRunReal := t.injReal
    injRun := t.injSel
    injResult := w48 (clearBits t.injResult.toNat (2 ^ 32))
    injCount := sat 48 (t.injCount + 1) }

/-- A write of INJ_CTRL (R420, R422). -/
def Core.writeInjCtrl (c : Core) (port v : Nat) : Core :=
  c.hostWrite port 0 0x160008 v (fun c =>
    if port ≠ 0 ∨ c.frozen ∨ c.injRefused v then c.refuseWrite port 0 0x160008
    else
      let t := { c.tmp with injReal := bit 1 v }
      { c with tmp := if bit 0 v then t.injStart else t })

/-- INJ_CTRL_GO (R420): a write of INJ_CTRL whose GO bit is 1. -/
def execInjCtrlGo (port : Nat) (value : W64) (s : State) : Host.Outcome State Fault Refusal :=
  run (fun c => c.writeInjCtrl port (value.toNat ||| 1)) s

/-- A monitor channel detects under injection (R420): the group carries the flag INJECTED; no condition persists afterwards. The channel is driven, so that what makes a debug access an alarm does not count. -/
def Core.injAlarm (c : Core) (a : Nat) : Core :=
  if !c.alarmWorks a then c
  else (if a = 6 then { c with tmp := { c.tmp with unprotected := true } } else c).detectAs a (c.classFor a) 0 true

/-- A failed result check of an engine, counted as R300 and R332 count it; the engine is marked unusable. -/
def Core.injCheck (c : Core) (cls n : Nat) : Core := (c.countCheck cls n false).markBad cls n

/-- A stall of an engine, counted as R392 counts it. -/
def Core.injStall (c : Core) (cls n : Nat) : Core :=
  ({ c with r := { c.r with stallCount := sat 32 (c.r.stallCount + 1), stallLast := cls + at_ 4 n } } : Core).markBad cls n

/-- An invalid dual-rail code (R21): the engine is marked unusable; in a tray memory, which is no engine, the slice it strikes is replaced as a failing one is (R399; DESIGN CHOICE, log entry 106), a slice the spec does not name. -/
def Core.injRail (c : Core) (cls n : Nat) : Core :=
  if cls = 0 then ({ c with free := c.free + 1 } : Core).sliceFails { kind := 8, target := n, slice := Config.injectedEntry c.free % 256, spare := false }
  else c.markBad cls n

/-- A parity error in a bank (R365), at a position the spec does not name. -/
def Core.injParity (c : Core) (b : Nat) : Core :=
  ({ c with free := c.free + 1 } : Core).parityError b (Config.injectedEntry c.free % Config.sieveEntries c.g.variant)

/-- A withheld acknowledgment runs through the resend and the check of R382. -/
def Core.injGlaze (c : Core) : Core :=
  if !c.mirrored then c else (if c.sent.isEmpty then c.epochEnd else c).glazeResend.linkCheck

/-- The response of a real detection (R420). ECC corrects an injected DRAM error, and R21 and R377 state no response for a memory other than the record memory. -/
def Core.injRespond (c : Core) (kind inst : Nat) : Core :=
  match kind with
  | 1 => c.injAlarm (inst / 2)
  | 2 => c.healthFail (inst / 2) (inst % 2 == 1)
  | 3 => c.injRail (injClass inst) (injEngine inst)
  | 4 => c.injCheck (injClass inst) (injEngine inst)
  | 5 => c.injStall (injClass inst) (injEngine inst)
  | 6 => if bits 15 12 inst = 1 then c.healthBad (bits 11 8 inst) else c
  | 7 => c.injParity inst
  | 9 => c.healthBad inst
  | 10 => c.injGlaze
  | _ => c

/-- INJ_RESULT of an injection that has ended (R422). -/
def injOutcome (real fired : Bool) (latency : Nat) : W48 :=
  w48 (at_ 34 (b2n real) + at_ 33 (b2n fired) + 2 ^ 32 + (if fired then latency % 2 ^ 32 else 0))

/-- The latency in ns that a kind of detector reports lies within the bounds of R420, which R478 makes guarantees; a plain figure is exact. -/
def latencyOk (kind inst ns : Nat) : Bool :=
  match kind with
  | 1 => decide (ns ≤ 5000)
  | 2 => ns == (if inst % 2 = 1 then 15900 else 820)
  | 4 => decide (ns ≤ if injClass inst = 3 then 60000 else 20000)
  | 5 => decide (50000 ≤ ns) && decide (ns ≤ 50010)
  | 7 => decide (ns ≤ 400)
  | 10 => decide (2000 ≤ ns) && decide (ns ≤ 6000)
  | _ => decide (ns ≤ 1000)

/-- INJECTION_END (R420): the outcome is recorded and source 62 tells of it; a detection with REAL is handled as a real one. -/
def Core.injectionEnd (c : Core) (fired : Bool) (latency : Nat) : Core :=
  if !c.tmp.injRunning || (fired && !latencyOk (bits 23 16 c.tmp.injRun.toNat) (bits 15 0 c.tmp.injRun.toNat) latency) then c
  else
    let real := c.tmp.injRunReal
    let kind := bits 23 16 c.tmp.injRun.toNat
    let inst := bits 15 0 c.tmp.injRun.toNat
    let c := if fired && real then c.injRespond kind inst else c
    ({ c with tmp := { c.tmp with injRunning := false, injResult := injOutcome real fired latency } } : Core).pulseAll 62

/-- INJECTION_END (R420). -/
def execInjectionEnd (fired : Bool) (latency : Nat) (s : State) : Host.Outcome State Fault Refusal :=
  run (fun c => c.injectionEnd fired latency) s

end Sys2Proof.Machine
end

