-- ==== Sys2Proof/Machine/PublicKey.lean ====
section
/-! DEFINITION. The big-number steps: operand forms (R318), schemes (R323 to R326), the check phase (R328, R329), the recipe steps SIGN, SIG_VERIFY and AGREE, the PK_DIRECT operations (R320), and the prime reserve (R327, R338). -/

namespace Sys2Proof.Machine

/-! ### Integers (R318) -/

/-- An integer of n bytes in either FORMAT. -/
def intOut (slots : Bool) (n v : Nat) : Bytes :=
  if slots then ((List.range (n / 8)).map (fun i => leBytes 6 (v / 2 ^ (48 * i)) ++ zeros 2)).flatten else beBytes n v

/-- Kind SLOT_BITS: a slot with a non-zero bit above 47. -/
def slotBad (slots : Bool) (b : Bytes) : Bool := slots && (chunks 8 b).any (fun s => leNat (s.drop 6) != 0)

/-! ### Signatures (R323, R326) -/

/-- Modulus of an RSA public key of R319. -/
def rsaN (pub : Bytes) : Nat := beNat (pub.drop 10)
/-- Public exponent. -/
def rsaE (pub : Bytes) : Nat := beNat (cut 2 8 pub)

/-- The RSA private operation by CRT (R242, R334): the key is p, q, dp, dq, qInv, each of half the modulus, and e. -/
def rsaPrivate (nbits : Nat) (key : Bytes) (m : Nat) : Nat :=
  let h := ceilDiv nbits 16
  let part (i : Nat) : Nat := beNat (cut (i * h) h key)
  let p := part 0
  let q := part 1
  let m2 := powMod m (part 3) q
  m2 + q * ((powMod m (part 2) p + p - m2 % p) * part 4 % p)

/-- An RSA or ECDSA signature in a FORMAT: integers of a modulus of so many bits. -/
def sigInts (slots : Bool) (nbits : Nat) (l : List Nat) : Bytes := (l.map (intOut slots (intBytes slots nbits))).flatten

/-- A signature under a private key; seed is the scheme's own randomness of R326. -/
def signWith (slots : Bool) (scheme : Nat) (k : Ctx) (msg seed : Bytes) : Bytes :=
  let h := schemeHash scheme
  let nb := k.bitLen
  let rsa (m : Nat) : Bytes := sigInts slots nb [rsaPrivate nb k.key m]
  if scheme ≤ 2 then rsa (beNat (emsaPkcs1 h (ceilDiv nb 8) msg))
  else if scheme ≤ 5 then rsa (beNat (emsaPss h (nb - 1) msg (cut 0 (hashLen h) (Config.pssSalt seed (hashLen h)))))
  else if scheme = 6 then rsa (intIn slots msg)
  else if scheme = 7 then
    match curveOf k.alg with
    | some c =>
      let (r, s) := c.ecdsaSign (Config.rfc6979Hash msg.length) (beNat k.key) msg seed
      sigInts slots (bitLen c.n) [r, s]
    | none => []
  else if scheme = 8 then edSign [] k.key msg
  else if scheme = 9 then edSign edPh k.key msg
  else mldsaSign k.key msg seed

/-- A signature that R329 takes as invalid at the end of the check phase: an RSA value at or above n, an ECDSA r or s outside its range, an Ed25519 S at or above the order. -/
def sigOutside (slots : Bool) (alg : Nat) (pub sig : Bytes) : Bool :=
  if alg = 0x10 then decide (rsaN pub ≤ intIn slots sig)
  else if alg = 0x17 then decide (edL ≤ leNat (cut 32 32 sig))
  else
    match curveOf alg with
    | some c =>
      let n := intBytes slots (bitLen c.n)
      [intIn slots (cut 0 n sig), intIn slots (cut n n sig)].any (fun v => v == 0 || decide (c.n ≤ v))
    | none => false

/-- Whether a signature verifies under a public key of an algorithm and size. -/
def verifyWith (slots : Bool) (scheme alg nbits : Nat) (pub msg sig : Bytes) : Bool :=
  let h := schemeHash scheme
  if sigOutside slots alg pub sig then false
  else if scheme ≤ 5 then
    let m := powMod (intIn slots sig) (rsaE pub) (rsaN pub)
    if scheme ≤ 2 then beBytes (ceilDiv nbits 8) m == emsaPkcs1 h (ceilDiv nbits 8) msg
    else decide (m < 2 ^ (8 * ceilDiv (nbits - 1) 8)) && emsaPssOk h (nbits - 1) msg (beBytes (ceilDiv (nbits - 1) 8) m)
  else if scheme = 6 then Config.rsaRawValid pub sig
  else if scheme = 7 then
    match curveOf alg with
    | some c =>
      let n := intBytes slots (bitLen c.n)
      c.ecdsaVerify pub msg (intIn slots (cut 0 n sig)) (intIn slots (cut n n sig))
    | none => false
  else if scheme = 8 then edVerify [] pub msg sig
  else if scheme = 9 then edVerify edPh pub msg sig
  else mldsaVerify pub msg sig

/-- The shared value of an agreement with a peer key, as the curve gives it (R324). -/
def agreeWith (k : Ctx) (peer : Bytes) : Bytes :=
  match curveOf k.alg with
  | some c => c.ecdh (beNat k.key) peer
  | none => x25519 k.key peer

/-- The scheme's own randomness of a task. -/
def Task.seed (t : Task) : Bytes := cut 32 32 t.rnd

/-- The scheme's own randomness of a recipe step: that of its own 64 bytes (R326). -/
def Task.stepSeed (t : Task) (k : Nat) : Bytes :=
  cut (64 * (((imgStepList t.image).take k).filter (·.usesPrivate)).length + 32) 32 t.rnd

/-! ### Big-number steps of recipes -/

/-- The key of a big-number step, with its usage class and algorithm (R199, R323, R324). -/
def Task.bnKey (t : Task) (s : RStep) : SR Ctx := do
  let k ← t.keyAt s.ksel
  let sel := bits 3 0 s.arg
  needUsage k [if s.op = 0x60 then Usage.sign else if s.op = 0x61 then Usage.verify else Usage.agree]
  must (if s.op = 0x62 then k.alg == 0x10 + sel
        else schemeSuits sel k.alg && (k.alg != 0x10 || (rsaFits sel k.bitLen && decide (k.bitLen ≤ 2048)))) (.sub Sub.keyAlgorithm)
  return k

/-- The signature that SIG_VERIFY uses: of the extent at B, the length the key gives (R323). -/
def Task.stepSig (t : Task) (s : RStep) (k : Ctx) : Bytes := t.rd s.b (sigBytes false k.alg k.bitLen)

/-- A recipe step's check phase: how the step ends with it, if it does, and whether that is a rejection. -/
def Task.stepPhase (t : Task) (s : RStep) : Option (StepOut × Bool) :=
  match t.bnKey s with
  | .error o => some (o, false)
  | .ok k =>
    if s.op = 0x62 then ((keyFaults k.alg (t.rd s.a s.len)).head?).map (fun i => (.fail (kindStatus i), true))
    else if s.op = 0x61 ∧ sigOutside false k.alg k.pub (t.stepSig s k) then some (.no, false)
    else none

/-- A recipe's big-number step whose check phase has passed. -/
def bnOp (op k : Nat) (t : Task) (s : RStep) : Bool := isOp op t s && bit k t.checked

/-- SIGN (R323). -/
def execSign (tid step : Nat) (s : State) : Host.Outcome State Fault Refusal :=
  run (fun c => c.compute tid step (bnOp 0x60 step) (fun c t s => (c, some (stepOf (do
    let k ← t.bnKey s
    let scheme := bits 3 0 s.arg
    return dataOut s.d (cut 0 (signExtent scheme) (signWith false scheme k (t.rd s.a s.len) (t.stepSeed step)))))))) s

/-- SIG_VERIFY (R323). -/
def execSigVerify (tid step : Nat) (s : State) : Host.Outcome State Fault Refusal :=
  run (fun c => c.compute tid step (bnOp 0x61 step) (fun c t s => (c, some (stepOf (do
    let k ← t.bnKey s
    return testOut (verifyWith false (bits 3 0 s.arg) k.alg k.bitLen k.pub (t.rd s.a s.len) (t.stepSig s k))))))) s

/-- AGREE (R324): SHA-256 of Z in a KEY tray of SECRET-256 and KDK. -/
def execAgree (tid step : Nat) (s : State) : Host.Outcome State Fault Refusal :=
  run (fun c => c.compute tid step (bnOp 0x62 step) (fun c t s => (c, some (stepOf (do
    let k ← t.bnKey s
    return keyOut s.d Usage.kdk 5 false (sha256 (agreeWith k (t.rd s.a s.len)))))))) s

/-! ### The check phase -/

/-- The public key that PK_VERIFY uses: algorithm, size, key, and where the message starts. -/
def Task.pkPublic (t : Task) : Nat × Nat × Bytes × Nat :=
  if t.key0 = 0 then
    let nb := if t.pkAlg = 0x10 then t.pkSuppliedRsa.getD 0 else 0
    let n := pubBytes t.pkAlg nb
    (t.pkAlg, nb, cut 0 n t.work, n)
  else
    match t.ksel 1 with
    | some k => (k.alg, k.bitLen, k.pub, 0)
    | none => (0, 0, [], 0)

/-- The message of PK_VERIFY. -/
def Task.pkMsg (t : Task) : Bytes := cut t.pkPublic.2.2.2 t.pkLen t.work
/-- The signature of PK_VERIFY. -/
def Task.pkSig (t : Task) : Bytes := (t.source).drop (t.pkPublic.2.2.2 + t.pkLen)

/-- The kinds that each source operand of a PK_DIRECT task fails, in rising order, operand 0 first (R328, R329). -/
def Task.pkFaults (t : Task) : List (List Nat) :=
  let sl := t.pkSlots
  let src := t.source
  let kind (b : Bool) (n : Nat) : List Nat := if b then [n] else []
  let slot (b : Bytes) : List Nat := kind (slotBad sl b) 7
  let n := t.pkLen
  let op (i : Nat) : Bytes := (src.drop (i * n)).take n
  let m := intIn sl (op 0)
  match t.opcode with
  | 0x400 =>
    if t.pkSel = 6 then
      let x := intIn sl src
      let nn := match t.ksel 1 with
        | some k => rsaN k.pub
        | none => 0
      [kind (x == 0) 1 ++ kind (decide (nn ≤ x)) 2 ++ slot src]
    else []
  | 0x401 =>
    let sig := if t.pkPublic.1 = 0x10 ∨ (curveOf t.pkPublic.1).isSome then slot t.pkSig else []
    if t.key0 = 0 then [keyFaults t.pkAlg t.pkPublic.2.2.1, [], sig] else [[], sig]
  | 0x402 => [keyFaults (0x10 + t.pkSel) src]
  | 0x404 => [keyFaults 0x19 src]
  | 0x405 => [kind (m % 2 == 0 || decide (m < 3)) 3 ++ slot (op 0), kind (decide (m ≤ intIn sl (op 1))) 2 ++ slot (op 1), slot (src.drop (2 * n))]
  | 0x406 => [kind (m % 2 == 0 || decide (m < 3)) 3 ++ slot (op 0), kind (decide (m ≤ intIn sl (op 1))) 2 ++ slot (op 1),
      kind (decide (m ≤ intIn sl (op 2))) 2 ++ slot (op 2)]
  | _ => []

/-- The lowest operand with its lowest kind. -/
def firstFault (l : List (List Nat)) : Option (Nat × Nat) :=
  l.zipIdx.findSome? (fun x => (x.1.head?).map (fun k => (x.2, k)))

/-- A PK_DIRECT step's check phase. A supplied RSA key whose bit count is not that of its length breaks the layout of R320. -/
def Task.pkPhase (t : Task) : Option (StepOut × Bool) :=
  if t.opcode = 0x401 ∧ t.key0 = 0 ∧ t.pkAlg = 0x10 ∧ beNat (cut 0 2 t.work) ≠ t.pkPublic.2.1 then
    some (.ends Status.inputFormat 0x402, false)
  else
    match firstFault t.pkFaults with
    | some (i, k) => some (.ends (kindStatus k) (0x4000 + 0x100 * i + k), true)
    | none =>
      if t.opcode = 0x401 ∧ sigOutside t.pkSlots t.pkPublic.1 t.pkPublic.2.2.1 t.pkSig then some (.ends Status.verifyFail 0, false) else none

/-- CHECK_PHASE_END (R328, R329): the step goes on, or ends here. -/
def Core.checkPhase (c : Core) (tid k : Nat) : Core :=
  match c.task tid with
  | none => c
  | some t =>
    if t.stepClass k != some 3 || bit k t.checked || !c.atWork tid t k then c
    else
      match (if t.opclass = clsPk then t.pkPhase else t.stepPhase (imgStep t.image k)) with
      | none => c.updTask tid (fun t => { t with checked := setFlag k t.checked })
      | some (o, rejected) =>
        let c := if rejected then { c with r := { c.r with pkeReject := sat 48 (c.r.pkeReject + 1) } } else c
        c.stepEnds tid k t { out := o, res0 := if t.opclass = clsPk then some 0 else none }

/-- CHECK_PHASE_END (R329). -/
def execCheckPhaseEnd (tid step : Nat) (s : State) : Host.Outcome State Fault Refusal := run (fun c => c.checkPhase tid step) s

/-! ### PK_DIRECT (R320) -/

/-- What a PK_DIRECT operation does once its check phase has passed: its output. -/
def Core.pkOp (c : Core) (tid op : Nat) (f : Task → StepRes) : Core :=
  c.compute tid 0 (fun t _ => t.opclass == clsPk && t.opcode == op && bit 0 t.checked) (fun c t _ => (c, some (f t)))

/-- An output handed to the EMIT step. -/
def pkOut (b : Bytes) : StepRes := { chain := b, res0 := some 0 }

/-- The output of an operation under KEY0. -/
def Task.pkKeyed (t : Task) (f : Ctx → Bytes) : StepRes :=
  match t.ksel 1 with
  | some k => pkOut (f k)
  | none => { out := .ends Status.keyNotFound 0 }

/-- PK_SIGN (R320, R323). -/
def execPkSign (tid : Nat) (s : State) : Host.Outcome State Fault Refusal :=
  run (fun c => c.pkOp tid 0x400 (fun t => t.pkKeyed (fun k => signWith t.pkSlots t.pkSel k t.source t.seed))) s

/-- PK_VERIFY (R320). -/
def execPkVerify (tid : Nat) (s : State) : Host.Outcome State Fault Refusal :=
  run (fun c => c.pkOp tid 0x401 (fun t =>
    let (alg, nb, pub, _) := t.pkPublic
    if verifyWith t.pkSlots t.pkSel alg nb pub t.pkMsg t.pkSig then { res0 := some 1 }
    else { out := .ends Status.verifyFail 0, res0 := some 0 })) s

/-- PK_AGREE (R320, R324). -/
def execPkAgree (tid : Nat) (s : State) : Host.Outcome State Fault Refusal :=
  run (fun c => c.pkOp tid 0x402 (fun t => t.pkKeyed (fun k =>
    let z := agreeWith k t.source
    if k.alg = 0x16 then z else intOut t.pkSlots (zBytes t.pkSlots k.alg) (beNat z)))) s

/-- PK_KEM_DECAP (R325). -/
def execPkKemDecap (tid : Nat) (s : State) : Host.Outcome State Fault Refusal :=
  run (fun c => c.pkOp tid 0x403 (fun t => t.pkKeyed (fun k => mlkemDecaps k.key t.source))) s

/-- PK_KEM_ENCAP (R325): m is the task's own randomness. -/
def execPkKemEncap (tid : Nat) (s : State) : Host.Outcome State Fault Refusal :=
  run (fun c => c.pkOp tid 0x404 (fun t =>
    let (ct, ss) := mlkemEncaps t.source t.seed
    pkOut (ct ++ ss))) s

/-- PK_MODEXP (R320, R330). -/
def execPkModexp (tid : Nat) (s : State) : Host.Outcome State Fault Refusal :=
  run (fun c => c.pkOp tid 0x405 (fun t =>
    let n := t.pkLen
    let i (b : Bytes) : Nat := intIn t.pkSlots b
    pkOut (intOut t.pkSlots n (powMod (i (cut n n t.work)) (i (t.source.drop (2 * n))) (i (cut 0 n t.work)))))) s

/-- PK_MODMUL (R320). -/
def execPkModmul (tid : Nat) (s : State) : Host.Outcome State Fault Refusal :=
  run (fun c => c.pkOp tid 0x406 (fun t =>
    let n := t.pkLen
    let i (o : Nat) : Nat := intIn t.pkSlots (cut (o * n) n t.work)
    pkOut (intOut t.pkSlots n (i 1 * i 2 % i 0)))) s

/-! ### The prime reserve (R327, R338) -/

/-- The small primes of the trial division, and the bases of the Miller–Rabin test; FIPS 186-5 draws its bases at random and counts them by size, so that which ones and how many are the model's (DESIGN CHOICE, log entry 110). -/
def smallPrimes : List Nat := [3, 5, 7, 11, 13, 17, 19, 23, 29, 31, 37, 41, 43, 47, 53, 59, 61, 67, 71, 73, 79, 83, 89, 97]
def rabinBases : List Nat := [2, 3, 5, 7, 11]

/-- x, x², x⁴ and so on, n of them, modulo p, meets p − 1. -/
def meetsMinusOne (p : Nat) : Nat → Nat → Bool
  | 0, _ => false
  | n + 1, x => x == p - 1 || meetsMinusOne p n (x * x % p)

/-- The power of two in a number, at most f. -/
def twoPower : Nat → Nat → Nat
  | 0, _ => 0
  | f + 1, n => if n % 2 = 0 then twoPower f (n / 2) + 1 else 0

/-- One round of the Miller–Rabin test of an odd p. -/
def rabinRound (p a : Nat) : Bool :=
  let s := twoPower (bitLen p) (p - 1)
  let x := powMod a ((p - 1) / 2 ^ s) p
  x == 1 || meetsMinusOne p s x

/-- A prime that the reserve takes: half the modulus long, odd, its top two bits set, p − 1 prime to 65,537, past trial division and Miller–Rabin (R327; FIPS 186-5). -/
def primeFits (nbits p : Nat) : Bool :=
  bitLen p == nbits / 2 && p.testBit (nbits / 2 - 2) && p % 2 == 1 && (p - 1) % 65537 != 0
    && smallPrimes.all (fun q => p % q != 0) && rabinBases.all (rabinRound p)

/-- PRIME_SEARCH_UNIT_END (R327): a unit of the search ends on a core, for a reserve entry; the core starts the step that waits in its prefetch slot. -/
def Core.primeUnit (c : Core) (n i : Nat) (found : Option Nat) : Core :=
  let e := Table.findD (engKey 3 n) {} c.eng.jobs
  if !e.search then c
  else
    let c := { c with eng := ({ c.eng with jobs := Table.put (engKey 3 n) { e with search := false } c.eng.jobs } : Engs).kick }
    match found with
    | some p => if c.r.reserveOpen i && primeFits (c.r.rsaBits.getD i 0) p && !(c.r.primes.getD i []).contains p then { c with r := { c.r with primes := upd i (fun l => l ++ [p]) c.r.primes } } else c
    | none => c

/-- PRIME_SEARCH_UNIT_END (R327). -/
def execPrimeSearchUnitEnd (core entry : Nat) (found : Option Nat) (s : State) : Host.Outcome State Fault Refusal :=
  run (fun c => c.primeUnit core entry found) s

/-- A MOD_BITS value that R338 allows. -/
def modBitsOk (n : Nat) : Bool := n == 0 || rsaSizeOk n

/-- A write of PKE_RSA_GEN_i (R338). -/
def Core.writeRsaGen (c : Core) (port i v : Nat) : Core :=
  let off := 0x0F0040 + 8 * i
  c.hostWrite port 0 off v (fun c =>
    let n := bits 13 0 v
    if port ≠ 0 ∨ c.frozen ∨ c.g.locked ∨ !modBitsOk n then c.refuseWrite port 0 off
    else if n = c.r.rsaBits.getD i 0 then c
    else { c with r := { c.r with rsaBits := upd i (fun _ => n) c.r.rsaBits, primes := upd i (fun _ => []) c.r.primes } })

/-- PKE_RSA_GEN_WRITE (R338). -/
def execPkeRsaGenWrite (port entry : Nat) (value : W64) (s : State) : Host.Outcome State Fault Refusal :=
  run (fun c => if entry < 4 then c.writeRsaGen port entry value.toNat else c) s

end Sys2Proof.Machine
end

