-- ==== Sys2Proof/Machine/RegMap.lean ====
section
/-! DEFINITION. The register map (R65, R69 to R71): which register an offset of BAR0 or BAR2 names as a port sees it. -/

namespace Sys2Proof.Machine

/-- A register, by its block and its word number (offset in the block / 8); in the indexed blocks the local slice, local ring pair or port stands first. -/
inductive Reg where
  | glb (k : Nat)
  | port (k : Nat)
  | split (n k : Nat)
  | evc (k : Nat)
  | slc (l k : Nat)
  | ring (l k : Nat)
  | dsp (k : Nat)
  | ktr (k : Nat)
  | sym (k : Nat)
  | pke (k : Nat)
  | ent (k : Nat)
  | siv (k : Nat)
  | cnt (k : Nat)
  | tmp (k : Nat)
  | lcs (k : Nat)
  | pwr (k : Nat)
  | inj (k : Nat)
  /-- A mailbox word in the manager's or the tenant's view: local slice, slot, word (R126). -/
  | mbx (manager : Bool) (l slot word : Nat)
  | summary (g : Nat)
  | tag (k : Nat)
  /-- A doorbell of a local ring pair: 0 tail, 1 head. -/
  | door (l k : Nat)
deriving DecidableEq, Repr

/-- Words of the EVC block that hold a register (R148). -/
def evcWord (k : Nat) : Bool :=
  decide (k ≤ 4) || (decide (0x20 ≤ k) && decide (k < 0x26)) || (decide (0x28 ≤ k) && decide (k < 0x2E))
    || (decide (0x30 ≤ k) && decide (k < 0x36)) || (decide (0x40 ≤ k) && decide (k < 0x56))

/-- Words of the DSP block (R172, R193). -/
def dspWord (k : Nat) : Bool :=
  decide (k ≤ 10) || (decide (0x10 ≤ k) && decide (k < 0x18)) || (decide (0x20 ≤ k) && decide (k < 0x28)) || k == 0x30 || k == 0x31

/-- Words of the KTR block (R269). -/
def ktrWord (k : Nat) : Bool :=
  decide (k < 8) || (decide (0x200 ≤ k) && decide (k < 0x200 + 342)) || (decide (0x1000 ≤ k) && decide (k < 0x2000))

/-- Words of the PKE block (R338). -/
def pkeWord (k : Nat) : Bool := decide (k < 7) || (decide (8 ≤ k) && decide (k < 12))

/-- Words of the LCS block (R294, R444). -/
def lcsWord (k : Nat) : Bool :=
  decide (k < 7) || (decide (8 ≤ k) && decide (k < 18)) || (decide (0x100 ≤ k) && decide (k < 0x106)) || (decide (0x200 ≤ k) && decide (k < 0x1200))

/-- Words of the TAG block (R74). -/
def tagWord (k : Nat) : Bool := decide (k ≤ 42) || k == 0x42 || k == 0x43

/-- The unit-scoped register at a word (offset / 8) of BAR0 from 0x0C_0000 to 0x16_FFFF and in the TAG block (R69). -/
def unitRegAt (v : Variant) (w : Nat) : Option Reg :=
  let k := w % 0x2000
  let pick_ (b : Bool) (r : Reg) : Option Reg := if b then some r else none
  match w / 0x2000 with
  | 0x0C => pick_ (dspWord k) (.dsp k)
  | 0x0D => pick_ (ktrWord k) (.ktr k)
  | 0x0E => pick_ (decide (k < 8)) (.sym k)
  | 0x0F => pick_ (pkeWord k) (.pke k)
  | 0x10 => pick_ (decide (k < 8)) (.ent k)
  | 0x11 => pick_ (Config.sieve v && decide (k < 6)) (.siv k)
  | 0x12 => pick_ (decide (k < 12)) (.cnt k)
  | 0x13 => pick_ (decide (k < 16)) (.tmp k)
  | 0x14 => pick_ (lcsWord k) (.lcs k)
  | 0x15 => pick_ (decide (k < 4)) (.pwr k)
  | 0x16 => pick_ (decide (k < 4)) (.inj k)
  | 0x20 => pick_ (tagWord k) (.tag k)
  | _ => none

/-- The register at an 8-byte-aligned BAR0 offset as a port sees it; none where R70 applies. -/
def Core.regAt (c : Core) (port offset : Nat) : Option Reg :=
  let w := offset / 8
  let p := c.port port
  if w < 0x2000 then (if w ≤ 12 then some (.glb w) else none)
  else if w < 0x2020 then (if w - 0x2000 ≤ 4 then some (.port (w - 0x2000)) else none)
  else if w < 0x2030 then some (.split ((w - 0x2020) / 4) (w % 4))
  else if w < 0x4000 then none
  else if w < 0x6000 then (if evcWord (w - 0x4000) then some (.evc (w - 0x4000)) else none)
  else if w < 0x8000 then none
  else if w < 0x10000 then
    (if (w - 0x8000) / 32 < p.slcCount ∧ w % 32 ≤ 16 then some (.slc ((w - 0x8000) / 32) (w % 32)) else none)
  else if w < 0x18000 then
    (if (w - 0x10000) / 8 < p.ringCount then some (.ring ((w - 0x10000) / 8) (w % 8)) else none)
  else if w < 0x30000 then unitRegAt c.g.variant w
  else if w < 0x38000 then
    (if (w - 0x30000) / 32 < p.slcCount then some (.mbx true ((w - 0x30000) / 32) (w % 32 / 8) (w % 8)) else none)
  else if w < 0x40000 then
    (if w - 0x38000 < 64 ∧ 16 * (w - 0x38000) < p.slcCount then some (.summary (w - 0x38000)) else none)
  else unitRegAt c.g.variant w

/-- The local slice of a port whose home page is that of a unit-wide ring pair (R126). Where two slices of the port hold one home page, because its ring pair was bound to the other after the first was started, the page shows the lowest-numbered one (DESIGN CHOICE, log entry 97). -/
def Core.homeSlice (c : Core) (port r : Nat) : Option Nat :=
  (List.range (c.port port).slcCount).find? (fun l => (c.slice ((c.port port).slcBase + l)).home == some r)

/-- What an 8-byte-aligned BAR2 offset names as a port sees it (R71); none where R70 applies. -/
def Core.doorAt (c : Core) (port offset : Nat) : Option Reg :=
  let l := offset / 0x1000
  let o := offset % 0x1000
  match c.ringNo port l with
  | none => none
  | some r =>
    if o < 16 then some (.door l (o / 8))
    else if 0x800 ≤ o ∧ o < 0x900 then
      (c.homeSlice port r).map (fun s => .mbx false s ((o - 0x800) / 64) (o / 8 % 8))
    else none

end Sys2Proof.Machine
end

