-- ==== Sys2Proof/Machine/RegWrite.lean ====
section
/-! DEFINITION. Register writes without a command of their own (R10 to R13): every register of the map, its writable fields, locks and refusals; the MSI-X table (R57) and the capability enables of configuration space (R58, R59). -/

namespace Sys2Proof.Machine

/-! ### Unit-scoped registers -/

/-- A write to a unit-scoped register: the manager of port 0 alone, and not where the mode makes it read-only or a lock holds it (R11, R12, R33). -/
def Core.unitWrite (c : Core) (port offset v : Nat) (open_ : Bool) (f : Core → Core) : Core :=
  c.hostWrite port 0 offset v (fun c => if port ≠ 0 ∨ c.frozen ∨ !open_ then c.refuseWrite port 0 offset else f c)

/-- Changes the counters outside the control complexes. -/
def Core.updR (c : Core) (f : Regs → Regs) : Core := { c with r := f c.r }

/-- A write to an offset that holds no writable field, or no register (R12 case 1, R70). -/
def Core.refused (c : Core) (port bar offset v : Nat) : Core :=
  c.hostWrite port bar offset v (fun c => c.refuseWrite port bar offset)

/-- DSP_BN_LONG_POOL (R172): locked by the global enable. -/
def Core.writeLongPool (c : Core) (port v : Nat) : Core :=
  c.unitWrite port 0x0C0040 v (!c.g.locked) (·.updR (fun r => { r with longPool := w48 (at_ 16 (bits 29 16 v) + bits 6 0 v) }))

/-- DSP registers (R172). -/
def Core.writeDsp (c : Core) (port k v : Nat) : Core :=
  if k < 8 then c.writeClassCtrl port k v
  else if k = 8 then c.writeLongPool port v
  else if k = 10 then c.unitWrite port 0x0C0050 v true (·.updR (fun r => { r with late := bits 47 0 v }))
  else c.refused port 0 (0x0C0000 + 8 * k) v

/-- KTR_DOMAIN_PORTS_j (R269). -/
def Core.writeDomPorts (c : Core) (port j v : Nat) : Core :=
  c.unitWrite port (0x0D1000 + 8 * j) v true
    (·.updR (fun r => { r with domPorts := Table.putD j (w48 (if j = 341 then bits 15 0 v else v)) 0x111111111111 r.domPorts }))

/-- KTR registers (R269). -/
def Core.writeKtr (c : Core) (port k v : Nat) : Core :=
  if k = 3 then c.writeLowMark port v
  else if k = 4 then c.unitWrite port 0x0D0020 v true (·.updR (fun r => { r with cacheHit := bits 47 0 v }))
  else if k = 5 then c.unitWrite port 0x0D0028 v true (·.updR (fun r => { r with cacheMiss := bits 47 0 v }))
  else if k = 6 then c.unitWrite port 0x0D0030 v true (·.updR (fun r => { r with transient := bits 47 0 v }))
  else if 0x200 ≤ k ∧ k < 0x1000 then c.writeDomPorts port (k - 0x200) v
  else c.refused port 0 (0x0D0000 + 8 * k) v

/-- SYM_CHECK and SYM_AUTH as written (R313): a COUNT of 0 clears SECOND too. -/
def Regs.setSymCheck (r : Regs) (v : Nat) : Regs :=
  { r with symCheckCount := bits 31 0 v, symCheckSecond := if bits 31 0 v = 0 then 0 else r.symCheckSecond }

/-- SYM registers (R313). -/
def Core.writeSym (c : Core) (port k v : Nat) : Core :=
  if k = 3 then c.unitWrite port 0x0E0018 v true (·.updR (·.setSymCheck v))
  else if k = 4 then c.unitWrite port 0x0E0020 v true (·.updR (fun r => { r with authTag := bits 31 0 v, authChanged := bits 47 32 v }))
  else if k = 7 then c.unitWrite port 0x0E0038 v true (·.updR (fun r => { r with bulkUnits := 64 * bits 47 0 v }))
  else c.refused port 0 (0x0E0000 + 8 * k) v

/-- PKE_CHECK as written (R338): a COUNT of 0 clears SECOND too. -/
def Regs.setPkeCheck (r : Regs) (v : Nat) : Regs :=
  { r with pkeCheckCount := bits 31 0 v, pkeCheckSecond := if bits 31 0 v = 0 then 0 else r.pkeCheckSecond }

/-- PKE registers (R338). -/
def Core.writePke (c : Core) (port k v : Nat) : Core :=
  if k = 3 then c.unitWrite port 0x0F0018 v true (·.updR (·.setPkeCheck v))
  else if k = 4 then c.unitWrite port 0x0F0020 v true (·.updR (fun r => { r with pkeReject := bits 47 0 v }))
  else if k = 5 then c.unitWrite port 0x0F0028 v true (·.updR (fun r => { r with pkeAborts := bits 23 0 v, pkeZeroed := bits 47 24 v }))
  else if 8 ≤ k then c.writeRsaGen port (k - 8) v
  else c.refused port 0 (0x0F0000 + 8 * k) v

/-- ENT registers (R353). -/
def Core.writeEnt (c : Core) (port k v : Nat) : Core :=
  if k = 1 then c.writeEntCtrl port v
  else if k = 2 then c.unitWrite port 0x100010 v true (·.updR (fun r => { r with entFaults := bits 47 40 v, entReseeds := bits 39 0 v }))
  else if k = 3 then c.unitWrite port 0x100018 v true (·.updR (fun r => { r with entRefused := bits 47 32 v, entSeeds := bits 31 0 v }))
  else if 4 ≤ k then
    c.unitWrite port (0x100000 + 8 * k) v true (·.updSrc (k - 4) (fun s => { s with worstApt := bits 47 37 v, worstRun := bits 36 31 v }))
  else c.refused port 0 0x100000 v

/-- SIV registers (R373): in SIV_PARITY only DOUBLE and COUNT are written. -/
def Core.writeSiv (c : Core) (port k v : Nat) : Core :=
  if k = 2 then
    c.unitWrite port 0x110010 v true (·.updR (fun r => { r with sivParity := w48 (at_ 24 (bits 47 24 r.sivParity.toNat) + bits 23 0 v) }))
  else if k = 3 then c.unitWrite port 0x110018 v true (·.updR (fun r => { r with sivLookups := bits 47 0 v }))
  else if k = 4 then c.unitWrite port 0x110020 v true (·.updR (fun r => { r with sivHits := bits 47 0 v }))
  else if k = 5 then c.unitWrite port 0x110028 v true (·.updR (fun r => { r with sivMisses := bits 47 0 v }))
  else c.refused port 0 (0x110000 + 8 * k) v

/-- CNT registers (R401). -/
def Core.writeCnt (c : Core) (port k v : Nat) : Core :=
  if k = 2 then c.unitWrite port 0x120010 v true (·.updCont (fun x => { x with takeovers := bits 15 0 v }))
  else if k = 4 then c.unitWrite port 0x120020 v true (·.updCont (fun x => { x with retries := bits 23 0 v }))
  else if k = 5 then c.unitWrite port 0x120028 v true (·.updR (fun r => { r with stallCount := bits 31 0 v }))
  else c.refused port 0 (0x120000 + 8 * k) v

/-- PWR registers (R469). -/
def Core.writePwr (c : Core) (port k v : Nat) : Core :=
  if k = 3 then c.unitWrite port 0x150018 v true (fun c => { c with flash := { c.flash with losses := bits 47 32 v } })
  else c.refused port 0 (0x150000 + 8 * k) v

/-- INJ registers (R422). -/
def Core.writeInj (c : Core) (port k v : Nat) : Core :=
  if k = 0 then c.unitWrite port 0x160000 v true (fun c => { c with tmp := { c.tmp with injSel := w48 (bits 23 0 v) } })
  else if k = 1 then c.writeInjCtrl port v
  else if k = 3 then c.unitWrite port 0x160018 v true (fun c => { c with tmp := { c.tmp with injCount := bits 47 0 v } })
  else c.refused port 0 (0x160000 + 8 * k) v

/-- TAG registers (R74). -/
def Core.writeTag (c : Core) (port k v : Nat) : Core :=
  if k ≤ 42 then c.writeTagData port k v
  else if k = 0x42 then c.writeTagCtrl port v
  else c.refused port 0 (0x200000 + 8 * k) v

/-! ### Registers of one port -/

/-- GLB_MODE (R37): UPDATE_REVERTED is W1C, for every port. -/
def Core.writeGlbMode (c : Core) (port v : Nat) : Core :=
  c.hostWrite port 0 0x40 v (fun c =>
    if c.frozen then c.refuseWrite port 0 0x40
    else { c with g := { c.g with updateReverted := c.g.updateReverted && !bit 11 v } })

/-- GLB_HOST_ACCESS_ERR (R73): COUNT takes the value written. -/
def Core.writeGlbErr (c : Core) (port v : Nat) : Core :=
  c.hostWrite port 0 0x60 v (fun c =>
    if c.frozen then c.refuseWrite port 0 0x60 else c.updPort port (fun p => { p with errCount := bits 23 0 v }))

/-- GLB registers. -/
def Core.writeGlb (c : Core) (port k v : Nat) : Core :=
  if k = 8 then c.writeGlbMode port v
  else if k = 10 then c.writeGlbCtrl port v
  else if k = 12 then c.writeGlbErr port v
  else c.refused port 0 (8 * k) v

/-- PORT_SLACK (R107): locked by the port enable. -/
def Core.writeSlack (c : Core) (port v : Nat) : Core :=
  c.hostWrite port 0 0x10018 v (fun c =>
    if c.frozen || (c.port port).locked then c.refuseWrite port 0 0x10018
    else c.updPort port (fun p => { p with slack := bits 31 0 v }))

/-- PORT own registers (R107, R122). -/
def Core.writePort (c : Core) (port k v : Nat) : Core :=
  if k = 0 then c.writePortCtrl port v
  else if k = 3 then c.writeSlack port v
  else c.refused port 0 (0x10000 + 8 * k) v

/-- Split area (R66): PORT_QUOTA_n is locked by the global enable like the ranges. -/
def Core.writeSplitArea (c : Core) (port n k v : Nat) : Core :=
  if k = 0 then c.writeSplit port n false v
  else if k = 1 then c.writeSplit port n true v
  else if k = 2 then
    c.unitWrite port (0x10110 + 0x20 * n) v (!c.g.locked) (·.updPort n (fun p => { p with quota := bits 16 0 v }))
  else c.refused port 0 (0x10118 + 0x20 * n) v

/-- Changes the selected window of a slice. -/
def Slc.updWindow (x : Slc) (f : Window → Window) : Slc :=
  { x with windows := Table.putD x.winSel (f (Table.findD x.winSel {} x.windows)) {} x.windows }

/-- An address pair's value once its *_LO half is written (R13): the held *_HI half, or the one in effect. -/
def pairAddr (old : Nat) (hi : Option Nat) (v : Nat) : Nat := at_ 48 (hi.getD (old / 2 ^ 48)) + bits 47 0 v

/-- A write to an RWL register of a slice (R111). -/
def Core.slcLockedWrite (c : Core) (port l k v : Nat) (f : Slc → Slc) : Core :=
  c.hostWrite port 0 (slcOffset l (8 * k)) v (fun c =>
    match c.slcNo port l with
    | none => c.refuseWrite port 0 (slcOffset l (8 * k))
    | some s =>
      if c.frozen || (c.slice s).locked then c.refuseWrite port 0 (slcOffset l (8 * k)) else c.updSlice s f)

/-- SLC registers (R109, R112). -/
def Core.writeSlc (c : Core) (port l k : Nat) (v : W64) : Core :=
  let n := v.toNat
  match k with
  | 0 => c.writeSlcCtrl port l n
  | 2 => c.slcLockedWrite port l k n (fun x => { x with report := bit 32 n, domain := bits 31 20 n, pasid := bits 19 0 n })
  | 4 => c.writeWinSel port l v
  | 5 => c.slcLockedWrite port l k n (fun x => { x.updWindow (fun w => { w with base := pairAddr w.base x.winHi n }) with winHi := none })
  | 6 => c.slcLockedWrite port l k n (fun x => { x with winHi := some (bits 15 0 n) })
  | 7 => c.slcLockedWrite port l k n (·.updWindow (fun w => { w with len := bits 47 0 n }))
  | 8 => c.slcLockedWrite port l k n (·.updWindow (fun w => { w with attr := bits 5 0 n }))
  | 9 => c.writeViolInfo port l v
  | 13 => c.writeNotice port l v
  | 16 => c.writeMbxStat port l v
  | _ => c.refused port 0 (slcOffset l (8 * k)) n

/-- A write to an RWL register of a ring pair, locked with its slice (R77, R111). -/
def Core.ringLockedWrite (c : Core) (port l k v : Nat) (f : Ring → Ring) : Core :=
  c.hostWrite port 0 (ringOffset l (8 * k)) v (fun c =>
    match c.ringNo port l with
    | none => c.refuseWrite port 0 (ringOffset l (8 * k))
    | some r =>
      if c.frozen || c.sliceLocked port (c.ringOf r).slice then c.refuseWrite port 0 (ringOffset l (8 * k)) else c.updRing r f)

/-- RING registers (R77). -/
def Core.writeRing (c : Core) (port l k v : Nat) : Core :=
  match k with
  | 0 => c.ringLockedWrite port l k v (fun g => { g with sq := pairAddr g.sq g.sqHi v, sqHi := none })
  | 1 => c.ringLockedWrite port l k v (fun g => { g with sqHi := some (bits 15 0 v) })
  | 2 => c.ringLockedWrite port l k v (fun g => { g with cq := pairAddr g.cq g.cqHi v, cqHi := none })
  | 3 => c.ringLockedWrite port l k v (fun g => { g with cqHi := some (bits 15 0 v) })
  | 4 => c.ringLockedWrite port l k v (fun g => { g with msgAddr := pairAddr g.msgAddr g.msgHi v, msgHi := none })
  | 5 => c.ringLockedWrite port l k v (fun g => { g with msgHi := some (bits 15 0 v) })
  | 6 => c.ringLockedWrite port l k v (fun g => { g with msgData := bits 47 16 v, log2 := bits 15 11 v, slice := bits 9 0 v })
  | _ => c.writeRingCtrl port l v

/-! ### The whole map -/

/-- A write to a register of BAR0 or BAR2 other than those of the event controller (R12). -/
def Core.writeReg (c : Core) (port bar offset : Nat) (r : Option Reg) (v : W64) : Core :=
  let n := v.toNat
  match r with
  | none => c.refused port bar offset n
  | some (.glb k) => c.writeGlb port k n
  | some (.port k) => c.writePort port k n
  | some (.split m k) => c.writeSplitArea port m k n
  | some (.evc _) => c.refused port bar offset n
  | some (.slc l k) => c.writeSlc port l k v
  | some (.ring l k) => c.writeRing port l k n
  | some (.dsp k) => c.writeDsp port k n
  | some (.ktr k) => c.writeKtr port k n
  | some (.sym k) => c.writeSym port k n
  | some (.pke k) => c.writePke port k n
  | some (.ent k) => c.writeEnt port k n
  | some (.siv k) => c.writeSiv port k n
  | some (.cnt k) => c.writeCnt port k n
  | some (.tmp _) => c.refused port bar offset n
  | some (.lcs _) => c.refused port bar offset n
  | some (.pwr k) => c.writePwr port k n
  | some (.inj k) => c.writeInj port k n
  | some (.mbx m l k w) => c.mailboxAccess port m l k w v
  | some (.summary _) => c.refused port bar offset n
  | some (.tag k) => c.writeTag port k n
  | some (.door l k) => c.doorbell port l (8 * k) v (if k = 0 then Core.tail else Core.head)

/-- A write to a word of the event-controller block (R148). -/
def State.evcRegWrite (s : State) (port k : Nat) (v : W64) : Host.Outcome State Fault Refusal :=
  let n := v.toNat
  let off := 0x20000 + 8 * k
  if k = 1 then execEvcEoi port v s
  else if k = 3 then execEvcHoldWrite port v s
  else if k = 4 then s.evcWrite port off n (fun e => { e with strayCount := bits 31 0 n })
  else if 0x20 ≤ k ∧ k < 0x26 then execEvcPendWrite port (k - 0x20) v s
  else if 0x28 ≤ k ∧ k < 0x2E then execEvcEnableWrite port (k - 0x28) v s
  else if 0x40 ≤ k ∧ k < 0x56 then execEvcPrioWrite port (k - 0x40) v s
  else s.evcHole port off n

/-! ### BAR4 and configuration space (R57 to R59) -/

/-- A 32-bit word of an MSI-X table entry written. -/
def MsixEnt.setWord (e : MsixEnt) (k v : Nat) : MsixEnt :=
  match k with
  | 0 => { e with addr := at_ 32 (e.addr / 2 ^ 32) + bits 31 0 v }
  | 1 => { e with addr := at_ 32 (bits 31 0 v) + e.addr % 2 ^ 32 }
  | 2 => { e with data := bits 31 0 v }
  | _ => { e with masked := bit 0 v }

/-- A 32-bit write to the MSI-X table; the pending-bit array is read-only, and R8 and R9 do not apply (R57). -/
def Core.msixWord (c : Core) (port offset v : Nat) : Core :=
  if !c.hostUp port || 0x100 ≤ offset then c
  else c.updPort port (fun p => { p with msix := upd (offset / 16) (·.setWord (offset / 4 % 4) v) p.msix })

/-- Max_Payload_Size as programmed (PCIe Device Control [7:5]), not above the supported 512 B (R55). -/
def payloadSize (k : Nat) : Nat := min 512 (128 * 2 ^ k)
/-- Max_Read_Request_Size as programmed (PCIe Device Control [14:12]), not above the supported 4 KiB (R55). -/
def readSize (k : Nat) : Nat := min 4096 (128 * 2 ^ k)

/-- A write to the configuration space of the port's function; spec offsets there are none, so the model numbers the registers that R55, R57 and R58 give an effect: 0 MSI-X Message Control, 1 ATS Control, 2 Device Control, 3 Device Control 2, 4 AER Capabilities and Control, 5 Link Control, 6 L1 PM Substates Control 1, 7 AER status, which clears the header log (layouts of the PCIe specification; PRESUMED, log entry 4). Disabling ATS drops the translations held (DESIGN CHOICE, log entry 17). -/
def Core.configWrite (c : Core) (port offset v : Nat) : Core :=
  if !c.linked port || (c.port port).resetting then c
  else
    match offset with
    | 0 => c.updPort port (fun p => { p with msixEnable := bit 15 v, funcMask := bit 14 v })
    | 1 => c.updPort port (fun p => { p with ats := bit 15 v, translations := if bit 15 v then p.translations else [] })
    | 2 => c.updPort port (fun p => { p with relaxed := bit 4 v, maxPayload := payloadSize (bits 7 5 v), maxRead := readSize (bits 14 12 v) })
    | 3 => c.updPort port (fun p => { p with cplTimeout := bits 3 0 v, tags10 := bit 12 v })
    | 4 => c.updPort port (fun p => { p with ecrcGen := bit 6 v, ecrcCheck := bit 8 v })
    | 5 => c.updPort port (fun p => { p with aspmL1 := bit 1 v })
    | 6 => c.updPort port (fun p => { p with l1Substates := b2n (bit 3 v) + 2 * b2n (bit 2 v) })
    | 7 => c.updPort port (fun p => { p with aerLog := none })
    | _ => c

/-! ### Meanings -/

/-- A write to a BAR0 offset: misaligned, to a register of the event controller, or to another. -/
def State.bar0Write (s : State) (port offset : Nat) (value : W64) : Host.Outcome State Fault Refusal :=
  if 2 ^ 24 ≤ offset then .next s
  else if offset % 8 ≠ 0 then run (fun c => c.refused port 0 offset value.toNat) s
  else
    match s.core.regAt port offset with
    | some (.evc k) => s.evcRegWrite port k value
    | r => run (fun c => c.writeReg port 0 offset r value) s

/-- A write to a BAR2 offset. -/
def State.bar2Write (s : State) (port offset : Nat) (value : W64) : Host.Outcome State Fault Refusal :=
  if 2 ^ 24 ≤ offset then .next s
  else if offset % 8 ≠ 0 then run (fun c => c.refused port 1 offset value.toNat) s
  else run (fun c => c.writeReg port 1 offset (c.doorAt port offset) value) s

/-- A write of 64 or 32 bits to a BAR4 offset. -/
def State.bar4Write (s : State) (port offset : Nat) (value : W64) (long : Bool) : Host.Outcome State Fault Refusal :=
  if offset % (if long then 8 else 4) ≠ 0 then .next s
  else run (fun c =>
    let c := c.msixWord port offset value.toNat
    if long then c.msixWord port (offset + 4) (value.toNat / 2 ^ 32) else c) s

/-- REGISTER_WRITE (R12): a write to an offset of a space: 0 BAR0, 1 BAR2, 2 BAR4 as 64 bits, 3 configuration space, 4 BAR4 as 32 bits. -/
def execRegisterWrite (port space offset : Nat) (value : W64) (s : State) : Host.Outcome State Fault Refusal :=
  match space with
  | 0 => s.bar0Write port offset value
  | 1 => s.bar2Write port offset value
  | 2 => s.bar4Write port offset value true
  | 3 => run (fun c => c.configWrite port offset value.toNat) s
  | 4 => s.bar4Write port offset value false
  | _ => .next s

/-- ADDRESS_LO_WRITE (R13): a write to BAR0 whose offset is that of the *_LO half of an address pair. -/
def execAddressLoWrite (port offset : Nat) (value : W64) (s : State) : Host.Outcome State Fault Refusal :=
  s.bar0Write port offset value

end Sys2Proof.Machine
end

