-- ==== Sys2Proof/Machine/Dispatch.lean ====
section
/-! DEFINITION. The dispatch: one arm per command. -/

namespace Sys2Proof.Machine

/-- The effect of a command on everything but the queue. -/
def exec (i : Instr) (s : State) : Host.Outcome State Fault Refusal :=
  match i with
  | .mainPowerGood => Sys2Proof.Machine.execMainPowerGood s
  | .pwrokOutRise hsplit => Sys2Proof.Machine.execPwrokOutRise hsplit s
  | .wakeOtpLoaded => Sys2Proof.Machine.execWakeOtpLoaded s
  | .wakeSelfTestEnd aPass bPass => Sys2Proof.Machine.execWakeSelfTestEnd aPass bPass s
  | .flashUnreadable => Sys2Proof.Machine.execFlashUnreadable s
  | .keyTreeLoadComplete swkBlock dramBlocks badA badB stimulusFails => Sys2Proof.Machine.execKeyTreeLoadComplete swkBlock dramBlocks badA badB stimulusFails s
  | .startupTestEnd source run apt => Sys2Proof.Machine.execStartupTestEnd source run apt s
  | .seedComplete katFails => Sys2Proof.Machine.execSeedComplete katFails s
  | .glbCtrlHalt port value => Sys2Proof.Machine.execGlbCtrlHalt port value s
  | .glbCtrlQuiesce port value => Sys2Proof.Machine.execGlbCtrlQuiesce port value s
  | .glbCtrlResume port value => Sys2Proof.Machine.execGlbCtrlResume port value s
  | .glbCtrlEnable port value => Sys2Proof.Machine.execGlbCtrlEnable port value s
  | .glbCtrlEnableClear port value => Sys2Proof.Machine.execGlbCtrlEnableClear port value s
  | .configCheckEnd kind port slice => Sys2Proof.Machine.execConfigCheckEnd kind port slice s
  | .portCtrlEnable port value => Sys2Proof.Machine.execPortCtrlEnable port value s
  | .portCtrlEnableClear port value => Sys2Proof.Machine.execPortCtrlEnableClear port value s
  | .slcCtrlEnable port slice value => Sys2Proof.Machine.execSlcCtrlEnable port slice value s
  | .slcCtrlEnableClear port slice value => Sys2Proof.Machine.execSlcCtrlEnableClear port slice value s
  | .ringCtrlEnable port ring value => Sys2Proof.Machine.execRingCtrlEnable port ring value s
  | .ringCtrlEnableClear port ring value => Sys2Proof.Machine.execRingCtrlEnableClear port ring value s
  | .registerWrite port space offset value => Sys2Proof.Machine.execRegisterWrite port space offset value s
  | .addressLoWrite port offset value => Sys2Proof.Machine.execAddressLoWrite port offset value s
  | .misalignedAccess port bar offset write => Sys2Proof.Machine.execMisalignedAccess port bar offset write s
  | .poisonedWrite port bar offset ecrc => Sys2Proof.Machine.execPoisonedWrite port bar offset ecrc s
  | .portSplitWrite port target rings value => Sys2Proof.Machine.execPortSplitWrite port target rings value s
  | .perstAssert port => Sys2Proof.Machine.execPerstAssert port s
  | .functionLevelReset port => Sys2Proof.Machine.execFunctionLevelReset port s
  | .d3hotToD0 port => Sys2Proof.Machine.execD3hotToD0 port s
  | .perstRelease port => Sys2Proof.Machine.execPerstRelease port s
  | .linkUp port speed width => Sys2Proof.Machine.execLinkUp port speed width s
  | .readCompletionTimeout tid => Sys2Proof.Machine.execReadCompletionTimeout tid s
  | .tagCtrlCommit port value => Sys2Proof.Machine.execTagCtrlCommit port value s
  | .tagCtrlDiscard port value => Sys2Proof.Machine.execTagCtrlDiscard port value s
  | .tagCommitEnd => Sys2Proof.Machine.execTagCommitEnd s
  | .tailDoorbell port ring value => Sys2Proof.Machine.execTailDoorbell port ring value s
  | .headDoorbell port ring value => Sys2Proof.Machine.execHeadDoorbell port ring value s
  | .admissionReserve => Sys2Proof.Machine.execAdmissionReserve s
  | .entryFetchComplete tid data outcome => Sys2Proof.Machine.execEntryFetchComplete tid data outcome s
  | .keyResolutionComplete tid second => Sys2Proof.Machine.execKeyResolutionComplete tid second s
  | .operandReadComplete tid data refusedPages badPages ecrcPages => Sys2Proof.Machine.execOperandReadComplete tid data refusedPages badPages ecrcPages s
  | .randomRequestServe tid mismatch => Sys2Proof.Machine.execRandomRequestServe tid mismatch s
  | .prefetchFill cls engine => Sys2Proof.Machine.execPrefetchFill cls engine s
  | .stepComplete tid step checkFails => Sys2Proof.Machine.execStepComplete tid step checkFails s
  | .destinationPieceWrite tid refusedPages => Sys2Proof.Machine.execDestinationPieceWrite tid refusedPages s
  | .completionWrite port ring refused => Sys2Proof.Machine.execCompletionWrite port ring refused s
  | .coalTimeExpire port ring => Sys2Proof.Machine.execCoalTimeExpire port ring s
  | .libraryCommitWrite => Sys2Proof.Machine.execLibraryCommitWrite s
  | .dspClassDisable port cls value => Sys2Proof.Machine.execDspClassDisable port cls value s
  | .dspClassEnable port cls value => Sys2Proof.Machine.execDspClassEnable port cls value s
  | .abortZeroingEnd tid => Sys2Proof.Machine.execAbortZeroingEnd tid s
  | .rcpRegister tid => Sys2Proof.Machine.execRcpRegister tid s
  | .rcpRetire tid => Sys2Proof.Machine.execRcpRetire tid s
  | .rcpRead tid => Sys2Proof.Machine.execRcpRead tid s
  | .move tid step => Sys2Proof.Machine.execMove tid step s
  | .xor tid step => Sys2Proof.Machine.execXor tid step s
  | .fill tid step => Sys2Proof.Machine.execFill tid step s
  | .compare tid step => Sys2Proof.Machine.execCompare tid step s
  | .pack tid step => Sys2Proof.Machine.execPack tid step s
  | .unpack tid step => Sys2Proof.Machine.execUnpack tid step s
  | .decimalize tid step => Sys2Proof.Machine.execDecimalize tid step s
  | .encrypt tid step => Sys2Proof.Machine.execEncrypt tid step s
  | .decrypt tid step => Sys2Proof.Machine.execDecrypt tid step s
  | .macGen tid step => Sys2Proof.Machine.execMacGen tid step s
  | .macVerify tid step => Sys2Proof.Machine.execMacVerify tid step s
  | .kcv tid step => Sys2Proof.Machine.execKcv tid step s
  | .pinTranslate tid step => Sys2Proof.Machine.execPinTranslate tid step s
  | .pinDecrypt tid step => Sys2Proof.Machine.execPinDecrypt tid step s
  | .pinEncrypt tid step => Sys2Proof.Machine.execPinEncrypt tid step s
  | .pinVerifyOffset tid step => Sys2Proof.Machine.execPinVerifyOffset tid step s
  | .pinVerifyPvv tid step => Sys2Proof.Machine.execPinVerifyPvv tid step s
  | .pinOffsetGen tid step => Sys2Proof.Machine.execPinOffsetGen tid step s
  | .pvvGen tid step => Sys2Proof.Machine.execPvvGen tid step s
  | .cvvGen tid step => Sys2Proof.Machine.execCvvGen tid step s
  | .cvvVerify tid step => Sys2Proof.Machine.execCvvVerify tid step s
  | .dukptTdeaDerive tid step => Sys2Proof.Machine.execDukptTdeaDerive tid step s
  | .dukptAesDerive tid step => Sys2Proof.Machine.execDukptAesDerive tid step s
  | .emvMkDerive tid step => Sys2Proof.Machine.execEmvMkDerive tid step s
  | .emvSkDerive tid step => Sys2Proof.Machine.execEmvSkDerive tid step s
  | .arqcVerify tid step => Sys2Proof.Machine.execArqcVerify tid step s
  | .arpcGen tid step => Sys2Proof.Machine.execArpcGen tid step s
  | .keyblockWrap tid step => Sys2Proof.Machine.execKeyblockWrap tid step s
  | .keyblockUnwrap tid step => Sys2Proof.Machine.execKeyblockUnwrap tid step s
  | .hash tid step => Sys2Proof.Machine.execHash tid step s
  | .hmac tid step => Sys2Proof.Machine.execHmac tid step s
  | .kdf tid step => Sys2Proof.Machine.execKdf tid step s
  | .sign tid step => Sys2Proof.Machine.execSign tid step s
  | .sigVerify tid step => Sys2Proof.Machine.execSigVerify tid step s
  | .agree tid step => Sys2Proof.Machine.execAgree tid step s
  | .resolve tid step => Sys2Proof.Machine.execResolve tid step s
  | .resolveSet tid step => Sys2Proof.Machine.execResolveSet tid step s
  | .lookup tid step cacheBad parity => Sys2Proof.Machine.execLookup tid step cacheBad parity s
  | .emit tid step => Sys2Proof.Machine.execEmit tid step s
  | .ktCreate tid => Sys2Proof.Machine.execKtCreate tid s
  | .ktGenerate tid failedCores => Sys2Proof.Machine.execKtGenerate tid failedCores s
  | .ktImport tid => Sys2Proof.Machine.execKtImport tid s
  | .ktVoid tid => Sys2Proof.Machine.execKtVoid tid s
  | .ktRoll tid failedCores => Sys2Proof.Machine.execKtRoll tid failedCores s
  | .ktExport tid => Sys2Proof.Machine.execKtExport tid s
  | .ktInfo tid => Sys2Proof.Machine.execKtInfo tid s
  | .ktProvenance tid => Sys2Proof.Machine.execKtProvenance tid s
  | .ktChain tid => Sys2Proof.Machine.execKtChain tid s
  | .ktSetWrite tid => Sys2Proof.Machine.execKtSetWrite tid s
  | .ktRootGenerate tid => Sys2Proof.Machine.execKtRootGenerate tid s
  | .ktRootImport tid => Sys2Proof.Machine.execKtRootImport tid s
  | .ktRootVoid tid => Sys2Proof.Machine.execKtRootVoid tid s
  | .keyTreeCommitWrite => Sys2Proof.Machine.execKeyTreeCommitWrite s
  | .journalCompactionEnd => Sys2Proof.Machine.execJournalCompactionEnd s
  | .sweepEnd => Sys2Proof.Machine.execSweepEnd s
  | .ktrLowMarkWrite port value => Sys2Proof.Machine.execKtrLowMarkWrite port value s
  | .cuChallenge tid => Sys2Proof.Machine.execCuChallenge tid s
  | .cuAuthorize tid => Sys2Proof.Machine.execCuAuthorize tid s
  | .cuWithdraw tid => Sys2Proof.Machine.execCuWithdraw tid s
  | .cuEnroll tid => Sys2Proof.Machine.execCuEnroll tid s
  | .cuRemove tid => Sys2Proof.Machine.execCuRemove tid s
  | .cuQuorum tid => Sys2Proof.Machine.execCuQuorum tid s
  | .cuTransport tid => Sys2Proof.Machine.execCuTransport tid s
  | .cuComponentBegin tid => Sys2Proof.Machine.execCuComponentBegin tid s
  | .cuComponent tid => Sys2Proof.Machine.execCuComponent tid s
  | .cuComponentCancel tid => Sys2Proof.Machine.execCuComponentCancel tid s
  | .cuRelease tid => Sys2Proof.Machine.execCuRelease tid s
  | .cuRecommission tid => Sys2Proof.Machine.execCuRecommission tid s
  | .cuDomainReset tid => Sys2Proof.Machine.execCuDomainReset tid s
  | .recoverySequenceEnd aPass bPass swkBlock dramBlocks badA badB => Sys2Proof.Machine.execRecoverySequenceEnd aPass bPass swkBlock dramBlocks badA badB s
  | .flAuthority tid => Sys2Proof.Machine.execFlAuthority tid s
  | .flMember tid => Sys2Proof.Machine.execFlMember tid s
  | .flExport tid => Sys2Proof.Machine.execFlExport tid s
  | .flImport tid => Sys2Proof.Machine.execFlImport tid s
  | .challengeExpire challenge => Sys2Proof.Machine.execChallengeExpire challenge s
  | .componentSessionExpire session => Sys2Proof.Machine.execComponentSessionExpire session s
  | .cpathRequest frame => Sys2Proof.Machine.execCpathRequest frame s
  | .cpathResponse => Sys2Proof.Machine.execCpathResponse s
  | .cpathFrameTimeout => Sys2Proof.Machine.execCpathFrameTimeout s
  | .bkEncrypt tid => Sys2Proof.Machine.execBkEncrypt tid s
  | .bkDecrypt tid => Sys2Proof.Machine.execBkDecrypt tid s
  | .bkGcmSeal tid => Sys2Proof.Machine.execBkGcmSeal tid s
  | .bkGcmOpen tid => Sys2Proof.Machine.execBkGcmOpen tid s
  | .bkMacGen tid => Sys2Proof.Machine.execBkMacGen tid s
  | .bkMacVerify tid => Sys2Proof.Machine.execBkMacVerify tid s
  | .bkHash tid => Sys2Proof.Machine.execBkHash tid s
  | .bkHmacGen tid => Sys2Proof.Machine.execBkHmacGen tid s
  | .bkHmacVerify tid => Sys2Proof.Machine.execBkHmacVerify tid s
  | .pkSign tid => Sys2Proof.Machine.execPkSign tid s
  | .pkVerify tid => Sys2Proof.Machine.execPkVerify tid s
  | .pkAgree tid => Sys2Proof.Machine.execPkAgree tid s
  | .pkKemDecap tid => Sys2Proof.Machine.execPkKemDecap tid s
  | .pkKemEncap tid => Sys2Proof.Machine.execPkKemEncap tid s
  | .pkModexp tid => Sys2Proof.Machine.execPkModexp tid s
  | .pkModmul tid => Sys2Proof.Machine.execPkModmul tid s
  | .checkPhaseEnd tid step => Sys2Proof.Machine.execCheckPhaseEnd tid step s
  | .primeSearchUnitEnd core entry found => Sys2Proof.Machine.execPrimeSearchUnitEnd core entry found s
  | .pkeRsaGenWrite port entry value => Sys2Proof.Machine.execPkeRsaGenWrite port entry value s
  | .svOpen tid => Sys2Proof.Machine.execSvOpen tid s
  | .svWrite tid => Sys2Proof.Machine.execSvWrite tid s
  | .svCommit tid => Sys2Proof.Machine.execSvCommit tid s
  | .svAbort tid => Sys2Proof.Machine.execSvAbort tid s
  | .svRead tid => Sys2Proof.Machine.execSvRead tid s
  | .sieveBankLoadEnd => Sys2Proof.Machine.execSieveBankLoadEnd s
  | .sieveSearchesDrained => Sys2Proof.Machine.execSieveSearchesDrained s
  | .healthTestFail source proportion => Sys2Proof.Machine.execHealthTestFail source proportion s
  | .seedRelease source block => Sys2Proof.Machine.execSeedRelease source block s
  | .entCtrlRetest port value => Sys2Proof.Machine.execEntCtrlRetest port value s
  | .glazeEpochEnd => Sys2Proof.Machine.execGlazeEpochEnd s
  | .glazeAck => Sys2Proof.Machine.execGlazeAck s
  | .glazeResend => Sys2Proof.Machine.execGlazeResend s
  | .glazeLinkCheck => Sys2Proof.Machine.execGlazeLinkCheck s
  | .leaseLapse => Sys2Proof.Machine.execLeaseLapse s
  | .healthReportBad complex => Sys2Proof.Machine.execHealthReportBad complex s
  | .lozengeGrant => Sys2Proof.Machine.execLozengeGrant s
  | .takeoverEnd => Sys2Proof.Machine.execTakeoverEnd s
  | .complexSelfTestEnd complex pass => Sys2Proof.Machine.execComplexSelfTestEnd complex pass s
  | .stateCopyEnd => Sys2Proof.Machine.execStateCopyEnd s
  | .stateCopyTimeout => Sys2Proof.Machine.execStateCopyTimeout s
  | .engineStall cls engine => Sys2Proof.Machine.execEngineStall cls engine s
  | .dualRailInvalid cls engine => Sys2Proof.Machine.execDualRailInvalid cls engine s
  | .crumbStart => Sys2Proof.Machine.execCrumbStart s
  | .crumbEnd slot fails => Sys2Proof.Machine.execCrumbEnd slot fails s
  | .patrolScrubPass corrections => Sys2Proof.Machine.execPatrolScrubPass corrections s
  | .flashCopyUnreadable copy => Sys2Proof.Machine.execFlashCopyUnreadable copy s
  | .flashResyncEnd copy => Sys2Proof.Machine.execFlashResyncEnd copy s
  | .powerPhaseShed => Sys2Proof.Machine.execPowerPhaseShed s
  | .cnFwStage tid => Sys2Proof.Machine.execCnFwStage tid s
  | .cnFwActivate tid => Sys2Proof.Machine.execCnFwActivate tid s
  | .cnHandover tid => Sys2Proof.Machine.execCnHandover tid s
  | .updateSelfTestEnd pass => Sys2Proof.Machine.execUpdateSelfTestEnd pass s
  | .vinStateChange input millivolts => Sys2Proof.Machine.execVinStateChange input millivolts s
  | .vinRestore input => Sys2Proof.Machine.execVinRestore input s
  | .bothInputsLost => Sys2Proof.Machine.execBothInputsLost s
  | .holdupFlushEnd microseconds => Sys2Proof.Machine.execHoldupFlushEnd microseconds s
  | .retainEnter => Sys2Proof.Machine.execRetainEnter s
  | .alarmDetect source seconds input => Sys2Proof.Machine.execAlarmDetect source seconds input s
  | .alarmGroupClose => Sys2Proof.Machine.execAlarmGroupClose s
  | .eraseEnd => Sys2Proof.Machine.execEraseEnd s
  | .alarmRearm source => Sys2Proof.Machine.execAlarmRearm source s
  | .monitorStimulus source channel detected => Sys2Proof.Machine.execMonitorStimulus source channel detected s
  | .retainStimulus failing seconds => Sys2Proof.Machine.execRetainStimulus failing seconds s
  | .retentionProtectRestore => Sys2Proof.Machine.execRetentionProtectRestore s
  | .tmConfigure tid ohms => Sys2Proof.Machine.execTmConfigure tid ohms s
  | .tmLogRead tid => Sys2Proof.Machine.execTmLogRead tid s
  | .injCtrlGo port value => Sys2Proof.Machine.execInjCtrlGo port value s
  | .injectionEnd fired latency => Sys2Proof.Machine.execInjectionEnd fired latency s
  | .lcRequest tid => Sys2Proof.Machine.execLcRequest tid s
  | .transitStepEnd outcome burnt => Sys2Proof.Machine.execTransitStepEnd outcome burnt s
  | .evcClaim port => Sys2Proof.Machine.execEvcClaim port s
  | .evcEoi port value => Sys2Proof.Machine.execEvcEoi port value s
  | .evcPendWrite port index value => Sys2Proof.Machine.execEvcPendWrite port index value s
  | .evcEnableWrite port index value => Sys2Proof.Machine.execEvcEnableWrite port index value s
  | .evcPrioWrite port index value => Sys2Proof.Machine.execEvcPrioWrite port index value s
  | .evcHoldWrite port value => Sys2Proof.Machine.execEvcHoldWrite port value s
  | .evcMaskSettle port source => Sys2Proof.Machine.execEvcMaskSettle port source s
  | .msixMessageSend port vector => Sys2Proof.Machine.execMsixMessageSend port vector s
  | .mailboxWordWrite port manager slice slot word value => Sys2Proof.Machine.execMailboxWordWrite port manager slice slot word value s
  | .mailboxPost port manager slice slot value => Sys2Proof.Machine.execMailboxPost port manager slice slot value s
  | .mailboxRelease port manager slice slot value => Sys2Proof.Machine.execMailboxRelease port manager slice slot value s
  | .slcMbxStatClear port slice value => Sys2Proof.Machine.execSlcMbxStatClear port slice value s
  | .slcViolInfoClear port slice value => Sys2Proof.Machine.execSlcViolInfoClear port slice value s
  | .slcNoticeClear port slice value => Sys2Proof.Machine.execSlcNoticeClear port slice value s
  | .slcWinSelWrite port slice value => Sys2Proof.Machine.execSlcWinSelWrite port slice value s
  | .bypass code => Sys2Proof.Machine.execBypass code s
  | .idcode => Sys2Proof.Machine.execIdcode s
  | .sample boundary => Sys2Proof.Machine.execSample boundary s
  | .extest boundary => Sys2Proof.Machine.execExtest boundary s
  | .dbgAddr address => Sys2Proof.Machine.execDbgAddr address s
  | .dbgAccess write data => Sys2Proof.Machine.execDbgAccess write data s
  | .vinA word pec => Sys2Proof.Machine.execVinA word pec s
  | .vinB word pec => Sys2Proof.Machine.execVinB word pec s
  | .iin word pec => Sys2Proof.Machine.execIin word pec s
  | .pin word pec => Sys2Proof.Machine.execPin word pec s
  | .temp word pec => Sys2Proof.Machine.execTemp word pec s
  | .vbat word pec => Sys2Proof.Machine.execVbat word pec s
  | .status word pec => Sys2Proof.Machine.execStatus word pec s
  | .inputs word pec => Sys2Proof.Machine.execInputs word pec s
  | .smbusOtherCommand code word pec => Sys2Proof.Machine.execSmbusOtherCommand code word pec s
  | .smbusWrite code data => Sys2Proof.Machine.execSmbusWrite code data s
  | .smbusClockLowTimeout => Sys2Proof.Machine.execSmbusClockLowTimeout s
  | .telemetryRefresh vin current power temp vbat pace ohms => Sys2Proof.Machine.execTelemetryRefresh vin current power temp vbat pace ohms s
  | .refclkStable port => Sys2Proof.Machine.execRefclkStable port s
  | .portResetEnd port => Sys2Proof.Machine.execPortResetEnd port s
  | .atsInvalidationRequest port pasid page => Sys2Proof.Machine.execAtsInvalidationRequest port pasid page s
  | .linkLeavesL0 port => Sys2Proof.Machine.execLinkLeavesL0 port s
  | .d3hotEntry port => Sys2Proof.Machine.execD3hotEntry port s
  | .testLogicResetExit => Sys2Proof.Machine.execTestLogicResetExit s
  | .batteryDomainLoss => Sys2Proof.Machine.execBatteryDomainLoss s

end Sys2Proof.Machine
end

