-- ==== Sys2Proof/Machine/Step.lean ====
section
/-! DEFINITION. One step: the command at the front of the queue, or a tick of device time on an empty queue. -/

namespace Sys2Proof.Machine

/-- Device time advances by one tick of 10 ns (R7); it wraps. -/
def State.tick (s : State) : State :=
  { s with core := { s.core with g := s.core.g.setTime (s.core.g.devtime + 1) } }

/-- Takes the command at the front of the queue and carries it out on the state with the queue's rest; on an empty queue a tick passes (DESIGN CHOICE). -/
def step (s : State) : Host.Outcome State Fault Refusal :=
  match s.pending with
  | [] => .next s.tick
  | c :: rest => exec c { s with pending := rest }

/-- The state with the command that a word spells put at the front of its queue; no word spells one. -/
def State.withFetchWord (s : State) (nbits w : Nat) : State :=
  match decodeTableWord nbits w with
  | none => s
  | some c => { s with pending := c :: s.pending }

end Sys2Proof.Machine
end

