-- ==== Sys2Proof/Machine/Views.lean ====
section
/-! DEFINITION. What a read of a register returns: the layouts of every block (R37, R45, R66, R73, R74, R77, R107, R109, R112, R119 to R122, R129, R148, R172, R193, R269, R294, R313, R338, R353, R373, R401, R421, R422, R444, R469). Control-complex state is read as last glazed (R384); EVC registers and mailbox slots are read live. -/

namespace Sys2Proof.Machine

/-- A register word from its fields: the lowest bit and the value of each. -/
def word (l : List (Nat × Nat)) : Nat := l.foldl (fun a f => a + at_ f.1 f.2) 0

/-- The state of the last glazed epoch (R384). -/
def Core.glazed (c : Core) : Core := { c with cc := c.mirror }

/-- A mask from a test of each of n bits. -/
def maskOf (n : Nat) (p : Nat → Bool) : Nat := ((List.range n).filter p).foldl (fun a i => a + 2 ^ i) 0

/-- The complex whose firmware GLB_ID reports: the holder, or CC-A while nobody holds the Lozenge. -/
def Cont.shown (k : Cont) : Nat := k.holder.getD ((k.revoked.map (·.2)).getD 0)

/-- GLB_MODE (R37). -/
def Core.glbMode (c : Core) : Nat :=
  if c.scrapped then word [(16, 2), (0, 1)]
  else word [(40, c.g.haltCause), (24, c.g.haltGroup % 2 ^ 16), (16, c.g.wakeFault), (12, b2n (!c.g.checks.isEmpty)),
    (11, b2n c.g.updateReverted), (10, b2n c.g.recover), (9, b2n (c.causes != 0)), (8, b2n c.g.drained), (4, c.g.prev), (0, c.g.mode.code)]

/-- GLB block (R37, R39, R45, R73). -/
def Core.readGlb (c : Core) (port k : Nat) : Nat :=
  let v := c.g.variant
  let p := c.port port
  match k with
  | 0 => word [(32, Config.deviceId v), (24, c.g.stepping), (0, (c.cont.fw.getD c.cont.shown 0).toNat)]
  | 1 => c.lcs.serial % 2 ^ 48
  | 2 => c.lcs.serial / 2 ^ 48 % 2 ^ 48
  | 3 => word [(32, Config.ringPairs v), (21, Config.slices v), (4, Config.inflight v), (2, Config.hostPorts v / 2), (0, Config.variantCode v)]
  | 4 => if c.g.cap1 then word [(32, 32), (28, c.capCount 5), (24, c.capCount 4), (16, c.capCount 3), (8, c.capCount 1), (0, c.capCount 2)] else 0
  | 5 => word [(42, Config.dram4 v), (25, Config.hotContexts v), (0, Config.nodes v)]
  | 6 => word [(29, Config.sieveEntries v), (16, 4096), (3, 4096), (2, b2n (Config.cpath v)), (1, b2n (Config.sieve v)), (0, b2n (Config.lattice v))]
  | 7 => word [(17, c.g.split), (16, b2n c.g.strapInvalid), (13, p.speed), (8, p.width), (0, port)]
  | 8 => c.glbMode
  | 9 => c.g.modeTime.toNat
  | 10 => word [(3, b2n c.g.abort), (0, b2n c.g.enable)]
  | 11 => c.g.reason.toNat
  | 12 => word [(45, p.errBar), (24, p.errOffset), (0, p.errCount)]
  | _ => 0

/-- The lowest local slice of a port whose capture satisfies p, with whether there is one. -/
def Core.lowestSlice (c : Core) (port : Nat) (p : SlcCap → Bool) : Nat × Bool :=
  match (List.range (c.port port).slcCount).find? (fun l => p (c.cc.cap ((c.port port).slcBase + l))) with
  | some l => (l, true)
  | none => (0, false)

/-- PORT own registers (R107, R122). -/
def Core.readPort (c : Core) (port k : Nat) : Nat :=
  let p := c.port port
  let f := c.cc.faults.getD port {}
  match k with
  | 0 => word [(1, b2n p.abort), (0, b2n p.enable)]
  | 1 => p.reason.toNat
  | 2 => word [(40, f.code), (24, f.ring), (18, b2n f.on), (17, b2n (c.portDrained c.cc port)), (0, c.cc.count (·.port == port))]
  | 3 => p.slack
  | 4 =>
    let a := c.lowestSlice port (·.nValid)
    let b := c.lowestSlice port (·.valid)
    word [(26, b2n a.2), (16, a.1), (10, b2n b.2), (0, b.1)]
  | _ => 0

/-- Split area (R66). -/
def Core.readSplit (c : Core) (n k : Nat) : Nat :=
  let p := c.port n
  match k with
  | 0 => word [(16, p.slcCount), (0, p.slcBase)]
  | 1 => word [(16, p.ringCount), (0, p.ringBase)]
  | 2 => p.quota
  | _ => word [(32, p.resets), (0, p.discarded)]

/-- EVC block (R148); the value a read of EVC_CLAIM returns is the command's own. -/
def Evc.read (e : Evc) (k : Nat) : Nat :=
  let bank (m i : Nat) : Nat := m / 2 ^ (48 * i) % 2 ^ 48
  if k = 2 then
    word [(16, e.stack.length), (12, b2n e.running.isSome), (8, e.running.getD 0), (0, ((e.stack.head?).map (·.source)).getD 0)]
  else if k = 3 then b2n e.hold
  else if k = 4 then word [(40, e.strayLast), (0, e.strayCount)]
  else if 0x20 ≤ k ∧ k < 0x26 then bank e.pend (k - 0x20)
  else if 0x28 ≤ k ∧ k < 0x2E then bank e.enable (k - 0x28)
  else if 0x30 ≤ k ∧ k < 0x36 then bank e.active (k - 0x30)
  else if 0x40 ≤ k ∧ k < 0x56 then
    word ((List.range 12).map (fun i => (4 * i, if 12 * (k - 0x40) + i < 256 then e.level (12 * (k - 0x40) + i) else 0)))
  else 0

/-- Mailbox status word (R127). -/
def Slc.mbxStatus (x : Slc) : Nat :=
  word [(24, x.mPosts), (16, x.tPosts), (0, maskOf 4 (fun k => (x.slotAt k).full))]

/-- SLC block (R45, R109, R112, R119, R120, R129). -/
def Core.readSlc (c : Core) (port l k : Nat) : Nat :=
  let s := (c.port port).slcBase + l
  let x := c.slice s
  let w : Window := Table.findD x.winSel {} x.windows
  let p := c.cc.cap s
  match k with
  | 0 => word [(1, b2n x.abort), (0, b2n x.enable)]
  | 1 => x.reason.toNat
  | 2 => word [(32, b2n x.report), (20, x.domain), (0, x.pasid)]
  | 3 => word [(36, b2n x.home.isSome), (24, (x.home.map (c.ringLocal port)).getD 0), (17, b2n (c.slcDrained c.cc s)), (0, c.cc.count (·.slice == s))]
  | 4 => x.winSel
  | 5 => w.base % 2 ^ 48
  | 6 => w.base / 2 ^ 48
  | 7 => w.len
  | 8 => w.attr
  | 9 => word [(16, p.later), (8, p.access), (4, p.cause), (0, b2n p.valid)]
  | 10 => word [(32, p.ring), (0, p.tag)]
  | 11 => p.iova % 2 ^ 48
  | 12 => p.iova / 2 ^ 48
  | 13 => word [(16, p.nCount), (0, b2n p.nValid)]
  | 14 => p.nPage % 2 ^ 48
  | 15 => p.nPage / 2 ^ 48
  | 16 => word [(16, x.dropped), (8, maskOf 4 (fun k => (x.slotAt k).full)), (1, b2n x.released), (0, b2n x.posted)]
  | _ => 0

/-- RING block (R77). -/
def Core.readRing (c : Core) (port l k : Nat) : Nat :=
  let r := (c.port port).ringBase + l
  let g := c.ringOf r
  match k with
  | 0 => g.sq % 2 ^ 48
  | 1 => g.sq / 2 ^ 48
  | 2 => g.cq % 2 ^ 48
  | 3 => g.cq / 2 ^ 48
  | 4 => g.msgAddr % 2 ^ 48
  | 5 => g.msgAddr / 2 ^ 48
  | 6 => word [(16, g.msgData), (11, g.log2), (0, g.slice)]
  | _ => word [(24, (c.cc.pos r).discarded), (16, g.coalCount), (8, g.coalTime), (4, b2n g.msgEn), (3, b2n (c.ringDrained c.cc r)),
      (1, b2n g.abort), (0, b2n g.enable)]

/-- A doorbell read (R89): the published head and the last accepted tail, or the write position and the last accepted completion head; zero on a ring pair that is not enabled. -/
def Core.readDoor (c : Core) (port l k : Nat) : Nat :=
  match c.ringNo port l with
  | none => 0
  | some r =>
    let p := c.cc.pos r
    if !(c.ringOf r).enable then 0
    else if k = 0 then word [(16, p.t), (0, p.f)]
    else word [(16, p.c), (0, p.w)]

/-- Ready steps of a cluster's tasks, in heaps and prefetch slots (R172). -/
def Core.clusterReady (c : Core) (k : Nat) : Nat :=
  ((c.cc.tasks.filter (fun e => e.2.cluster == k)).map (fun e => e.2.heap.length + (c.eng.prefetched e.1).length)).foldl (· + ·) 0

/-- DSP block (R172, R193). -/
def Core.readDsp (c : Core) (k : Nat) : Nat :=
  let n := effectivePool c.longCount (c.enginesUp 3).length
  if k < 8 then word [(2, b2n (c.classDrained c.cc k)), (1, b2n (c.r.clsAbort.getD k false)), (0, b2n (c.r.clsOn.getD k false && classPresent c.g.variant k))]
  else if k = 8 then c.r.longPool.toNat
  else if k = 9 then word [(25, n), (24, b2n (decide (n < c.longCount))), (0, (c.cc.tasks.filter (fun e => e.2.hasRecord)).length)]
  else if k = 10 then c.r.late
  else if k = 0x30 then word [(13, (c.cc.lib.filter (fun e => e.2.retiring)).length), (0, (c.cc.lib.filter (fun e => !e.2.retiring)).length)]
  else c.cc.libGen % 2 ^ 48

/-- The DSP registers of clusters and classes (R172): ready steps stand in the heaps now, records as the glazed state d has them (R384). -/
def Core.readDspLive (c d : Core) (k : Nat) : Nat :=
  if k < 0x18 then word [(22, c.clusterReady (k - 0x10)), (0, d.cc.recordsUsed (k - 0x10))]
  else (c.readySteps (k - 0x20)).length

/-- KTR_ROOT_d (R269). -/
def KSlot.rootWord (s : KSlot) : Nat :=
  let st := match s.state with
    | .live => 1
    | .void => 2
    | .retired => 5
    | _ => 0
  word [(20, (s.node.map (fun n => bits 5 4 n.attrs)).getD 0), (16, st), (0, s.gen % 2 ^ 16)]

/-- KTR block (R269). -/
def Core.readKtr (c : Core) (k : Nat) : Nat :=
  if k = 0 then (c.cc.kt.slots.filter (fun e => e.2.state == .live)).length
  else if k = 1 then word [(25, b2n c.ktrLow), (0, c.ktrFree)]
  else if k = 2 then word [(25, b2n (!c.cc.kt.sweeps.isEmpty)), (0, c.cc.kt.pendingSweep)]
  else if k = 3 then c.r.lowMark
  else if k = 4 then c.r.cacheHit
  else if k = 5 then c.r.cacheMiss
  else if k = 6 then c.r.transient
  else if k = 7 then word [(8, b2n (c.flash.journals.any (·.next.isSome))), (0, c.journalFill)]
  else if k < 0x1000 then
    let m := Table.findD (k - 0x200) 0x111111111111 c.r.domPorts
    if k = 0x200 + 341 then bits 15 0 m.toNat else m.toNat
  else (c.cc.kt.slot (k - 0x1000)).rootWord

/-- Counts of an engine pool (R313, R338). -/
def Core.poolWord (c : Core) (cls : Nat) : Nat :=
  word [(16, ((classEngines c.g.variant cls).filter (c.eng.isBad cls)).length), (8, (c.sparesLeft cls).length), (0, (c.enginesUp cls).length)]

/-- Engines of a class that are usable or unused spares, as a mask (R313, R338). -/
def Core.engineMap (c : Core) (cls : Nat) : Nat :=
  maskOf 68 (fun n => (classEngines c.g.variant cls).contains n && !c.eng.isBad cls n)

/-- SYM block (R313). -/
def Core.readSym (c : Core) (k : Nat) : Nat :=
  match k with
  | 0 => c.poolWord 1
  | 1 => c.poolWord 2
  | 2 => c.engineMap 1
  | 3 => word [(40, c.r.symCheckLane), (32, c.r.symCheckSecond), (0, c.r.symCheckCount)]
  | 4 => word [(32, c.r.authChanged), (0, c.r.authTag)]
  | 5 => c.cc.detCtr
  | 6 => word [(17, c.cc.count (·.bkTwoPass)), (0, c.cc.count (·.opclass == clsBulk))]
  | _ => c.r.bulkUnits / 64

/-- Cores that run a long big-number step, or that run a short one, an expansion or a unit of the prime search (R327, R333, R338). -/
def Core.bnBusy (c : Core) (long : Bool) : Nat :=
  (c.eng.jobs.filter (fun e => decide (3 * 256 ≤ e.1) && decide (e.1 < 4 * 256) && (match e.2.run with
    | some j => (match c.task j.tid with
      | some t => (j.step < 64 && t.isLong c.longBits j.step) == long
      | none => !long)
    | none => e.2.search && !long))).length

/-- PKE block (R338). -/
def Core.readPke (c : Core) (k : Nat) : Nat :=
  if k = 0 then c.poolWord 3
  else if k = 1 then c.engineMap 3 % 2 ^ 48
  else if k = 2 then c.engineMap 3 / 2 ^ 48
  else if k = 3 then word [(40, c.r.pkeCheckCore), (32, c.r.pkeCheckSecond), (0, c.r.pkeCheckCount)]
  else if k = 4 then c.r.pkeReject
  else if k = 5 then word [(24, c.r.pkeZeroed), (0, c.r.pkeAborts)]
  else if k = 6 then word [(16, c.bnBusy true), (0, c.bnBusy false)]
  else word [(16, (c.r.primes.getD (k - 8) []).length), (0, c.r.rsaBits.getD (k - 8) 0)]

/-- ENT block (R353). -/
def Core.readEnt (c : Core) (k : Nat) : Nat :=
  let e := c.ent
  if k = 0 then
    word [(24, (e.pools.getD 1 []).length), (18, (e.pools.getD 0 []).length), (17, b2n e.run), (16, b2n e.seeded), (8, e.healthy),
      (0, word (e.src.zipIdx.map (fun x => (2 * x.2, x.1.st.code))))]
  else if k = 1 then 0
  else if k = 2 then word [(40, c.r.entFaults), (0, c.r.entReseeds)]
  else if k = 3 then word [(32, c.r.entRefused), (0, c.r.entSeeds)]
  else
    let s := e.src.getD (k - 4) {}
    word [(37, s.worstApt), (31, s.worstRun), (29, s.exclusions), (26, s.cause)]

/-- SIV block (R373). -/
def Core.readSiv (c : Core) (k : Nat) : Nat :=
  let s := c.siv
  match k with
  | 0 => word [(36, svKmax s.table), (34, (c.cc.stage.map (·.owner)).getD 0), (33, b2n c.cc.stage.isSome), (32, b2n s.mirrorOpen),
      (28, maskOf 2 s.ok), (26, s.primary), (0, s.table.length)]
  | 1 => s.gen % 2 ^ 48
  | 2 => c.r.sivParity.toNat
  | 3 => c.r.sivLookups
  | 4 => c.r.sivHits
  | _ => c.r.sivMisses

/-- CNT_STATUS.HELD: a complex holds the Lozenge under an unexpired lease (R375, R401); before WAKE has tested the complexes it shows its reset value 1. -/
def Core.lozengeHeld (c : Core) : Bool :=
  (c.cont.holder.isSome && later c.cont.expiry c.now) || (c.g.mode == .wake && decide (c.g.wakeStep < 2))

/-- CNT block (R401). -/
def Core.readCnt (c : Core) (k : Nat) : Nat :=
  let x := c.cont
  match k with
  | 0 => word [(20, (x.cxOf 1).code), (16, (x.cxOf 0).code), (8, b2n (x.holder.isSome && x.simplex)), (1, b2n c.lozengeHeld), (0, x.shown)]
  | 1 => x.glazed % 2 ^ 48
  | 2 => word [(20, x.lastGap), (16, x.lastCause), (0, x.takeovers)]
  | 3 => x.takeoverTime.toNat
  | 4 => x.retries
  | 5 => word [(36, c.r.stallLast / 16), (32, c.r.stallLast % 16), (0, c.r.stallCount)]
  | 6 => word [(24, x.rounds), (16, x.crumbFails), (0, min 2 x.crumbs.length)]
  | 7 => x.crumbLast
  | 8 => c.causes
  | 9 => word [(24, (x.fw.getD 0 0).toNat), (0, (x.fw.getD 1 0).toNat)]
  | 10 => (match c.flash.fwStaged with
    | some im => word [(24, 1), (0, (Config.firmwareVersion im).toNat)]
    | none => 0)
  | _ => c.lcs.fwFloor.toNat

/-- Class codes of sources 24 k to 24 k + 23, two bits each (R421). -/
def classWord (l : List Nat) (k : Nat) : Nat :=
  word ((List.range 24).map (fun i => (2 * i, if 24 * k + i < 29 then l.getD (24 * k + i) 0 else 0)))

/-- TMP block (R421). -/
def Core.readTmp (c : Core) (k : Nat) : Nat :=
  let t := c.tmp
  match k with
  | 0 => word [(4, b2n c.oscUnchecked), (3, b2n t.unprotected), (2, b2n t.retainEvents), (0, t.lastClass)]
  | 1 => t.level
  | 2 => t.seen
  | 3 => classWord t.cfg.cls 0
  | 4 => classWord t.cfg.cls 1
  | 5 => classWord c.floors 0
  | 6 => classWord c.floors 1
  | 7 => t.cfg.enables
  | 8 => word [(32, t.vbat), (0, twos16 t.temp)]
  | 9 => word [(24, t.pace.getD 1 0), (0, t.pace.getD 0 0)]
  | 14 => t.lastGroup % 2 ^ 48
  | 15 => t.lastSources
  | n => word [(32, t.cfg.thresholds.getD (n - 10) 0), (16, t.cfg.refs.getD (n - 10) 0), (0, t.ohms.getD (n - 10) 0)]

/-- The target of the open or last transition (R444): 0 INTEGRATOR to 3 SCRAPPED, none where there has been none. -/
def Lcs.lastTarget (l : Lcs) : Option Nat :=
  match l.openMarks with
  | t :: _ => some t
  | [] => ([3, 2, 1, 0]).find? (fun t => markLevel (l.mark t) != 0)

/-- LCS_STATE (R444). -/
def Core.lcsState (c : Core) : Nat :=
  let l := c.lcs
  let last := l.lastTarget
  word [(12, (last.map (fun t => markLevel (l.mark t))).getD 0), (8, (last.map (· + 1)).getD 15), (7, b2n (!l.openMarks.isEmpty)),
    (6, b2n l.incoherent), (0, l.state)]

/-- LCS_DEBUG.LEVEL (R444). -/
def debugLevel (state : Nat) : Nat := if state ≤ 1 then 1 else if state = 2 then 0 else 2

/-- LCS_CUS_UNIT and LCS_CUS_DOM_d (R294). -/
def Group.word (g : Group) : Nat := Machine.word [(20, g.count), (16, g.quorum), (0, (g.keys.map (fun e => 2 ^ e.1)).foldl (· + ·) 0)]

/-- LCS block (R294, R444). -/
def Core.readLcs (c : Core) (k : Nat) : Nat :=
  let l := c.lcs
  let u := c.cc.cust
  let fleet := beNat (u.fleetId.getD [])
  if k = 0 then c.lcsState
  else if k = 1 then l.word
  else if k = 2 then copyDiff l.copies
  else if k < 7 then bits 31 0 (l.mark (k - 3))
  else if k < 16 then (if l.state = 4 then 0 else leNat (cut (6 * (k - 8)) 6 c.identityDigest))
  else if k = 16 then word [(40, l.lastRegion), (8, l.violations), (3, b2n l.attached), (2, b2n l.disabled), (0, debugLevel l.state)]
  else if k = 17 then maskOf 4 (fun i => (l.ndx.getD i none).isSome)
  else if k = 0x100 then (u.group unitGroup).word
  else if k = 0x101 then word [(16, (u.openSessions c.now).length), (7, (u.openChallenges c.now).length), (0, (u.tokens.filter (fun t => later t.expiry c.now)).length)]
  else if k = 0x102 then word [(17, b2n u.member.isSome), (16, b2n u.fleetId.isSome), (0, u.member.getD 0)]
  else if k = 0x103 then fleet % 2 ^ 48
  else if k = 0x104 then fleet / 2 ^ 48
  else if k = 0x105 then u.xfer % 2 ^ 48
  else (u.group (k - 0x200)).word

/-- PWR block (R469). -/
def Core.readPwr (c : Core) (k : Nat) : Nat :=
  let p := c.pwr
  match k with
  | 0 => word [(32, p.vin.getD 0 0), (16, p.amps.getD 0 0), (0, p.volts.getD 0 0)]
  | 1 => word [(32, p.vin.getD 1 0), (16, p.amps.getD 1 0), (0, p.volts.getD 1 0)]
  | 2 => word [(24, 12), (16, p.phases), (0, p.power)]
  | _ => word [(32, c.flash.losses), (16, c.flash.lastUs)]

/-- INJ block (R420, R422). -/
def Core.readInj (c : Core) (k : Nat) : Nat :=
  match k with
  | 0 => c.tmp.injSel.toNat
  | 1 => word [(1, b2n (c.tmp.injReal && c.realAllowed)), (0, b2n c.tmp.injRunning)]
  | 2 => c.tmp.injResult.toNat
  | _ => c.tmp.injCount

/-- TAG block (R74). -/
def Core.readTag (c : Core) (k : Nat) : Nat :=
  if k ≤ 42 then leNat (cut (6 * k) (if k = 42 then 4 else 6) c.r.tagStaged)
  else if k = 0x43 then word [(15, b2n c.r.tagBusy), (0, c.flash.writesLeft)]
  else 0

/-- A mailbox word (R127): the status word for an outbound slot, the stored word for a full inbound one. -/
def Slc.readMbx (x : Slc) (manager : Bool) (k w : Nat) : Nat :=
  if outbound manager k then x.mbxStatus
  else if (x.slotAt k).full then ((x.slotAt k).words.getD w 0).toNat
  else 0

/-- MBX_SUMMARY_g (R129). -/
def Core.readSummary (c : Core) (port g : Nat) : Nat :=
  maskOf 16 (fun i => match c.slcNo port (16 * g + i) with
    | some s => (c.slice s).posted || (c.slice s).released
    | none => false)

/-- The value of a register as a port reads it, control-complex state as last glazed. -/
def State.valueOf (s : State) (port : Nat) (r : Reg) : Nat :=
  let c := s.core.glazed
  match r with
  | .glb k => c.readGlb port k
  | .port k => c.readPort port k
  | .split n k => c.readSplit n k
  | .evc k => (s.evcOf port).read k
  | .slc l k => c.readSlc port l k
  | .ring l k => c.readRing port l k
  | .dsp k => if 0x10 ≤ k ∧ k < 0x30 then s.core.readDspLive c k else c.readDsp k
  | .ktr k => c.readKtr k
  | .sym k => c.readSym k
  | .pke k => s.core.readPke k
  | .ent k => c.readEnt k
  | .siv k => c.readSiv k
  | .cnt k => c.readCnt k
  | .tmp k => c.readTmp k
  | .lcs k => c.readLcs k
  | .pwr k => c.readPwr k
  | .inj k => c.readInj k
  | .mbx m l k w => (match c.slcNo port l with
    | some n => (c.slice n).readMbx m k w
    | none => 0)
  | .summary g => c.readSummary port g
  | .tag k => c.readTag k
  | .door l k => c.readDoor port l k

/-- Registers that a scrapped unit still shows (R62): the serial number, GLB_MODE and LCS_STATE. -/
def Reg.onScrapped : Reg → Bool
  | .glb 1 => true
  | .glb 2 => true
  | .glb 8 => true
  | .lcs 0 => true
  | _ => false

/-- BAR0 registers that a unit with no complex left still shows: they sit on the I/O die (R391). -/
def Reg.onIoDie : Reg → Bool
  | .glb _ => true
  | .evc _ => true
  | .cnt _ => true
  | .tmp _ => true
  | .lcs _ => true
  | _ => false

/-- What a read of an 8-byte-aligned BAR0 or BAR2 offset returns (R8, R62, R70, R391). -/
def State.readBar (s : State) (port bar offset : Nat) : Nat :=
  let r := if bar = 0 then s.core.regAt port offset else s.core.doorAt port offset
  match r with
  | none => 0
  | some r =>
    if !s.core.hostUp port then 0
    else if s.core.scrapped && !r.onScrapped then 0
    else if bar == 0 && s.core.cont.dead && !r.onIoDie then 0
    else match r with
      | .mbx _ _ _ _ => s.valueOf port r
      | _ => s.valueOf port r % 2 ^ 48

/-- The pending-bit array of BAR4 (R57): vectors whose message is requested and not yet sent. -/
def State.readPba (s : State) (port : Nat) : Nat := (s.evcOf port).req % 2 ^ 16

/-- Size code of a power of two times 128 bytes (PCIe Device Control). -/
def sizeCode (n : Nat) : Nat := ((List.range 6).find? (fun k => 128 * 2 ^ k == n)).getD 0

/-- What a read of configuration space returns, by the model's numbers of Core.configWrite; then 8 vendor and device ID, 9 class code and revision ID, 10 and 11 the Device Serial Number, 12 to 15 the AER header log, whose words are free values, 16 the PASID capability, of width 20 and with neither permission (R55, R57). The function answers from link-up on, in D3hot too. -/
def Core.configRead (c : Core) (port offset : Nat) : Nat :=
  let p := c.port port
  if !c.linked port then 0
  else
    match offset with
    | 0 => word [(15, b2n p.msixEnable), (14, b2n p.funcMask), (0, 15)]
    | 1 => word [(15, b2n p.ats)]
    | 2 => word [(12, sizeCode p.maxRead), (5, sizeCode p.maxPayload), (4, b2n p.relaxed)]
    | 3 => word [(12, b2n p.tags10), (0, p.cplTimeout)]
    | 4 => word [(8, b2n p.ecrcCheck), (6, b2n p.ecrcGen)]
    | 5 => word [(1, b2n p.aspmL1)]
    | 6 => word [(3, b2n (bit 0 p.l1Substates)), (2, b2n (bit 1 p.l1Substates))]
    | 7 => b2n p.aerLog.isSome
    | 8 => word [(16, Config.deviceId c.g.variant), (0, Config.vendorId)]
    | 9 => word [(8, Config.classCode), (0, c.g.stepping)]
    | 10 => c.lcs.serial % 2 ^ 32
    | 11 => c.lcs.serial / 2 ^ 32 % 2 ^ 32
    | 16 => word [(8, 20)]
    | k => if 12 ≤ k ∧ k < 16 then p.aerLog.elim 0 (fun e => (Config.aerHeader e.1 e.2 (k - 12)).toNat) else 0

/-- A 32-bit word of an MSI-X table entry. -/
def MsixEnt.word (e : MsixEnt) (k : Nat) : Nat :=
  match k with
  | 0 => bits 31 0 e.addr
  | 1 => bits 63 32 e.addr
  | 2 => e.data
  | _ => b2n e.masked

/-- What a 32-bit read of the MSI-X table returns (R57). -/
def Core.msixRead (c : Core) (port offset : Nat) : Nat :=
  if !c.hostUp port || 0x100 ≤ offset then 0 else ((c.port port).msix.getD (offset / 16) {}).word (offset / 4 % 4)

end Sys2Proof.Machine
end

