-- ==== Sys2Proof/Safety.lean ====
section
/-! DEFINITION. The terms in which claims are made: what completing means, the invariant of an event controller, and what a state that keeps it is. -/

namespace Sys2Proof.Machine

/-- The command answers a next state: the one that follows of itself from dies on which P holds. P says what the command itself has done; State.after adds the consequences (R35, R38, R41, R63, R95, R111, R122). -/
def Completes (i : Instr) (s : State) (P : Core → Prop) : Prop :=
  ∃ c, exec i s = .next (s.after c) ∧ P c

/-- The command answers a next state in which P holds. -/
def Answers (i : Instr) (s : State) (P : State → Prop) : Prop :=
  ∃ t, exec i s = .next t ∧ P t

/-- The dies as a command finds them, with nothing handed to the I/O die yet. -/
def State.dies (s : State) : Core := { s.core with fx := [] }

/-- The dies as a host write finds them once it stands in the host-write log (R384): port, BAR, offset, value. -/
def State.noted (s : State) (port bar offset v : Nat) : Core := s.dies.logHost port bar offset v

/-- A host write reaches the function of a port, and the unit takes register writes: the port's link is up, its function in D0 and out of reset, the unit not scrapped (R62) and not without a complex (R391). -/
abbrev State.reaches (s : State) (port : Nat) : Prop :=
  s.core.hostUp port = true ∧ s.core.scrapped = false ∧ s.core.cont.dead = false

/-- The manager of port 0 may write configuration registers (R11, R32, R33). -/
abbrev State.manages (s : State) : Prop := s.reaches 0 ∧ s.core.frozen = false

/-- An operation without steps is at work: its task is admitted with its class and code, every request it needs is met, the complex holds the lease, for an ADMIN operation the dispatchers take work, and no earlier-admitted command has to be checked first (R149, R158, R176, R279, R378). -/
structure Core.OpAt (c : Core) (tid cls op : Nat) (t : Task) : Prop where
  task : c.task tid = some t
  st : t.st = .admitted
  kind : t.opclass = cls
  code : t.opcode = op
  flags : covers t.flags 0x5F = true
  lease : c.leaseHeld = true
  open_ : cls = clsAdmin → c.dispatching = true
  first : c.cc.behind tid t = false

/-- Step k of a recipe task is at work with an opcode (R159 to R163): the step and the task. -/
structure Core.StepAt (c : Core) (tid k op : Nat) (t : Task) (s : RStep) : Prop where
  task : c.task tid = some t
  kind : t.opclass = clsRecipe
  step : imgStep t.image k = s
  code : s.op = op
  work : c.atWork tid t k = true

/-- The dies once the result of step k of a task is computed: the step is issued and its result waits for its completion (R192). -/
def Core.computed (c : Core) (tid k : Nat) (r : StepRes) : Core :=
  c.updTask tid (fun t => { t.issue k with results := Table.put k r t.results })

/-- Nothing follows of itself from dies c that a command has left, before being the dies it found: no ERASE has a step to do, no fence clears, no task of a reset port has retired, REDUCED stands as its causes say, nothing drains to an end, no lock ends, no destination write of a task that has left flight is the last one gone, no operand read and no interrupt message can leave, no core begins a search or loads operands, no token or rewrite has expired, and the low-slot condition has not set in (R35, R38, R41, R63, R93, R95, R101, R107, R111, R270, R278, R314, R327, R367, R411). -/
structure Core.Quiet (before c : Core) : Prop where
  erase : ∀ t, c.eraseSince = some t → reached c.now (t + 30) = false
  fence : ∀ e ∈ c.cc.tasks, (e.2.fenced && e.2.retirable) = false
  gone : ∀ e ∈ c.cc.tasks, (e.2.gone && e.2.st == .retired) = false
  reduced : (c.causes != 0) = c.g.reducedWas
  serving : c.quiesced = false
  transit : c.g.lcTarget = none
  ports : ∀ p ∈ c.ports.zipIdx, p.1.locked = true → c.g.locked = true ∧ c.portShownDrained p.2 = false
  slices : ∀ e ∈ c.slc, e.2 ≠ {} ∧ (e.2.locked = true → c.g.locked = true ∧ c.slcShownDrained e.1 = false)
  loose : ∀ e ∈ c.cc.tasks, (e.2.dropped && e.2.pieces.isEmpty) = false
  reads : ∀ n < 4, c.readTurn n = none
  messages : ∀ n < 4, (c.port n).msgs = [] ∨ c.messagesMove n = false
  search : ([0, 1, 2, 3].any c.r.reserveOpen) = false ∨ ∀ n ∈ c.enginesUp 3, c.searches n = false
  cores : ∀ x ∈ c.eng.jobs, x.1 / 256 = 3 → c.loadCore x.2 = x.2
  tokens : ∀ t ∈ c.cc.cust.tokens, later t.expiry c.now = true
  rewrites : ∀ e ∈ c.siv.rewritten, later c.now (e.2 + 100000000) = false
  drains : ∀ n < 4, c.created n = true → c.portDrained c.cc n = true → before.portDrained before.cc n = true
  low : c.ktrLow = true → before.ktrLow = true

/-- The levels of a priority stack fall strictly from the most recent claim down, every entry holding the level below it as the one saved at its claim (R140, R142). -/
def stackOk : List StackEnt → Prop
  | [] => True
  | [e] => e.saved = none
  | e :: f :: r => f.level < e.level ∧ e.saved = some f.level ∧ stackOk (f :: r)

/-- An event controller is coherent (R132, R136, R140): source 0 is in no mask, masks hold 256 sources at most, the active sources are those of the stack, each once. -/
structure Evc.Ok (e : Evc) : Prop where
  pend : e.pend % 2 = 0 ∧ e.pend < 2 ^ 256
  enable : e.enable % 2 = 0 ∧ e.enable < 2 ^ 256
  levels : ∀ x ∈ e.prio, x.2 < 16
  stack : stackOk e.stack
  entries : ∀ x ∈ e.stack, 1 ≤ x.source ∧ x.source < 256 ∧ x.level < 16
  distinct : (e.stack.map (·.source)).Nodup
  active : ∀ n, e.active.testBit n = true ↔ ∃ x ∈ e.stack, x.source = n

/-- A state whose four event controllers are coherent. -/
structure State.EvcOk (s : State) : Prop where
  four : s.evc.length = 4
  each : ∀ e ∈ s.evc, e.Ok

end Sys2Proof.Machine
end

