-- ==== Sys2Proof/Certificates/Slice0/Obligations.lean ====
section
/-! DEFINITION. The statements for the provers, a family of commands at a time. Each says on its own what a rule of the spec says of a command or of the machine; what a command itself has done is said of the dies before State.after adds the consequences that follow of themselves. -/

section
open Sys2Proof Sys2Proof.Machine

/-! ### The machine itself -/

/-- One step takes the command at the front of the queue and is exec of it on the state with the queue's rest. -/
def Obligations.StepRunsFront : Prop :=
  ∀ (c : Instr) (rest : List Instr) (s : State), s.pending = c :: rest → step s = exec c { s with pending := rest }

/-- Every command answers a next state, whatever the state, and leaves the queue as it finds it: refusals of the spec are statuses, reason codes, counted drops and alarms. No command takes back what the block has sent: the output only grows at its end. On an empty queue device time passes by one tick and nothing else changes: the model's choice (assumption 1); that a tick is 10 ns and that the count wraps is R6's. -/
def Obligations.EveryStepAnswers : Prop :=
  (∀ (i : Instr) (s : State), ∃ t, exec i s = .next t ∧ t.pending = s.pending) ∧
  (∀ (i : Instr) (s t : State), exec i s = .next t → ∃ l, t.out = s.out ++ l) ∧
  (∀ s : State, s.pending = [] →
     step s = .next { s with core := { s.core with g := { s.core.g with
       devtime := s.core.g.devtime + 1, wraps := if s.core.g.devtime + 1 = 0 then s.core.g.wraps + 1 else s.core.g.wraps } } })

/-- R7 whole: the half-range comparison of two device times. -/
def Obligations.HalfRangeRule : Prop :=
  (∀ t u : W48, later t u = true ↔ 1 ≤ (t - u).toNat ∧ (t - u).toNat ≤ 2 ^ 47 - 1) ∧
  (∀ t u : W48, (t - u).toNat = 0 ↔ t = u) ∧
  (∀ t u : W48, 2 ^ 47 ≤ (t - u).toNat → later t u = false) ∧
  later 0x000000000200 0xFFFFFFFFF000 = true

/-- Where no consequence is due, a command leaves exactly the dies it has made, and hands its effects to the I/O die in order: no fence clears, REDUCED stands as its causes say, nothing drains to its end, no lock ends, no message can leave, no core begins a search or loads operands, no token has expired. -/
def Obligations.ConsequencesOnlyWhereDue : Prop :=
  ∀ (s : State) (c : Core), Core.Quiet s.core c →
    s.after c = State.applyAll { s with core := { c with fx := [] } } (c.fx ++ s.core.levelEdges c)

/-- What stands after reset, where the spec gives the value: the mode is WAKE and its entry stands in the event log; no enable, check, fault or halt is in force; every event controller is at its reset values, and coherent; the split gives port 0 the whole unit of an unsplit variant -X, the variant that the model chooses (assumption 3); every slice and ring pair is at its reset values; no task is in flight; GLB, DSP, KTR, SYM, PKE and ENT counters are zero. The model's choices here: its clause on the event-log time 0 rests on log entry 2. -/
def Obligations.ResetState : Prop :=
  (let s := State.reset
   s.pending = [] ∧ s.evc = List.replicate 4 {} ∧
   s.core.g.mode = .wake ∧ s.core.g.wakeFault = 0 ∧ s.core.g.enable = false ∧ s.core.g.abort = false ∧ s.core.g.locked = false ∧
   s.core.g.checks = [] ∧ s.core.g.reason = 0 ∧ s.core.g.haltCause = 0 ∧ s.core.g.haltGroup = 0 ∧ s.core.g.drained = false ∧
   s.core.evlog = [{ kind := 0, time := 0, value := 1 }] ∧
   (s.core.port 0).slcCount = 1024 ∧ (s.core.port 0).ringCount = 4096 ∧ (s.core.port 0).quota = 65536 ∧ (s.core.port 0).slack = 2000 ∧
   (∀ n, 1 ≤ n → n < 4 → (s.core.port n).slcCount = 0 ∧ (s.core.port n).ringCount = 0 ∧ (s.core.port n).quota = 0) ∧
   s.core.slc = [] ∧ s.core.ring = [] ∧ s.core.cc.tasks = [] ∧ s.core.cont.holder = none ∧
   s.core.r.late = 0 ∧ s.core.r.cacheHit = 0 ∧ s.core.r.symCheckCount = 0 ∧ s.core.r.pkeReject = 0 ∧ s.core.r.entSeeds = 0 ∧
   s.core.r.lowMark = 65536 ∧ s.core.r.clsOn = [true, true, true, true, true, true, true, false] ∧ s.core.r.rsaBits = [2048, 3072, 4096, 0]) ∧
  (State.reset.EvcOk)

/-- Every step keeps the event controllers coherent: source 0 in no mask, the stack strictly falling with each entry saving the level below it, every active source on the stack once. -/
def Obligations.StepKeepsControllersCoherent : Prop :=
  ∀ s t : State, s.EvcOk → step s = .next t → t.EvcOk

/-! ### Event controllers -/

/-- A claim with no masked source still settling: with no deliverable source it returns zero and changes nothing; otherwise it takes the deliverable source that has the highest level, the lower number among equals, and returns it with its level and the new depth. Its conclusions say that these complete: EVC_CLAIM. -/
def Obligations.ClaimTakesHighest : Prop :=
  ∀ (s : State) (port : Nat), s.EvcOk → port < 4 → s.evcReach port = true → (s.evcOf port).lingering s.core.now = [] →
    ((∀ n, (s.evcOf port).deliverable n = false) → exec (.evcClaim port) s = .next { s with out := s.out ++ [.readData port 0] }) ∧
    (∀ n, (s.evcOf port).deliverable n = true →
      (∀ m, (s.evcOf port).deliverable m = true →
        (s.evcOf port).level m < (s.evcOf port).level n ∨ ((s.evcOf port).level m = (s.evcOf port).level n ∧ n ≤ m)) →
      ∃ e, exec (.evcClaim port) s =
          .next { s with evc := upd port (fun _ => e) s.evc,
                         out := s.out ++ [.readData port (w64 (n + 2 ^ 8 * (s.evcOf port).level n + 2 ^ 16 * ((s.evcOf port).stack.length + 1)))] } ∧
        (∀ m, e.pend.testBit m = ((s.evcOf port).pend.testBit m && m != n)) ∧
        (∀ m, e.active.testBit m = ((s.evcOf port).active.testBit m || m == n)) ∧
        e.stack = { source := n, level := (s.evcOf port).level n, saved := (s.evcOf port).running } :: (s.evcOf port).stack ∧
        e.enable = (s.evcOf port).enable ∧ e.prio = (s.evcOf port).prio ∧ e.hold = (s.evcOf port).hold)

/-- Every claim raises the running level strictly, and a coherent controller never holds more than 16 claims: its stack does not overflow. -/
def Obligations.StackNeverOverflows : Prop :=
  ∀ e : Evc, e.Ok → e.stack.length ≤ 16 ∧
    ∀ n, e.deliverable n = true → (e.take n).running = some (e.level n) ∧
      (∀ r, e.running = some r → r < e.level n) ∧ (e.take n).stack.length ≤ 16

/-- An end of interrupt in each of its cases, on a coherent controller that the host reaches: the most recent claim pops the stack and the level saved at it returns; an earlier one leaves the running level, and the level saved at it passes to the next later claim; anything else is ignored and counted. The depth equals the number of active sources throughout. Its conclusions say that these complete: EVC_EOI. -/
def Obligations.EndOfInterrupt : Prop :=
  ∀ (s : State) (port : Nat) (value : W64), s.EvcOk → port < 4 → s.evcReach port = true →
    ∃ e, exec (.evcEoi port value) s =
        .next { s with core := s.core.logHost port 0 0x20008 value.toNat, evc := upd port (fun _ => e) s.evc } ∧
      e.pend = (s.evcOf port).pend ∧ e.enable = (s.evcOf port).enable ∧ e.prio = (s.evcOf port).prio ∧
      stackOk e.stack ∧ ((List.range 256).filter (fun n => e.active.testBit n)).length = e.stack.length ∧
      (let n := value.toNat % 256
       (∀ x r, (s.evcOf port).stack = x :: r → x.source = n →
          e.stack = r ∧ e.running = x.saved ∧ (∀ m, e.active.testBit m = ((s.evcOf port).active.testBit m && m != n)) ∧
          e.strayCount = (s.evcOf port).strayCount) ∧
       (∀ x r, (s.evcOf port).stack = x :: r → x.source ≠ n → (s.evcOf port).active.testBit n = true →
          e.running = (s.evcOf port).running ∧ e.stack.map (·.source) = ((s.evcOf port).stack.map (·.source)).erase n ∧
          (∀ m, e.active.testBit m = ((s.evcOf port).active.testBit m && m != n)) ∧ e.strayCount = (s.evcOf port).strayCount) ∧
       ((n = 0 ∨ (s.evcOf port).active.testBit n = false) →
          e = { (s.evcOf port) with strayCount := min ((s.evcOf port).strayCount + 1) (2 ^ 32 - 1), strayLast := n }))

/-- Writes of the other registers of an event controller, each at every index it has: the pending bits written 1 clear, the enable bits and the levels take the values written, HOLD takes bit 0; nothing else of the controller's pending, enable and active state changes, and no other controller does. Its conclusions say that these complete: EVC_PEND_WRITE, EVC_ENABLE_WRITE, EVC_PRIO_WRITE, EVC_HOLD_WRITE. -/
def Obligations.ControllerWrites : Prop :=
  ∀ (s : State) (port index : Nat) (value : W64), port < s.evc.length → s.evcReach port = true →
    (index < 6 → ∃ e, exec (.evcPendWrite port index value) s =
        .next { s with core := s.core.logHost port 0 (0x20100 + 8 * index) value.toNat, evc := upd port (fun _ => e) s.evc } ∧
      (∀ n, n < 256 → e.pend.testBit n = ((s.evcOf port).pend.testBit n &&
          !(decide (1 ≤ n) && decide (n / 48 = index) && value.toNat.testBit (n % 48)))) ∧
      e.enable = (s.evcOf port).enable ∧ e.active = (s.evcOf port).active ∧ e.stack = (s.evcOf port).stack ∧ e.prio = (s.evcOf port).prio) ∧
    (index < 6 → ∃ e, exec (.evcEnableWrite port index value) s =
        .next { s with core := s.core.logHost port 0 (0x20140 + 8 * index) value.toNat, evc := upd port (fun _ => e) s.evc } ∧
      (∀ n, 1 ≤ n → n < 256 → e.enable.testBit n =
          (if n / 48 = index then value.toNat.testBit (n % 48) else (s.evcOf port).enable.testBit n)) ∧
      e.pend = (s.evcOf port).pend ∧ e.active = (s.evcOf port).active ∧ e.stack = (s.evcOf port).stack ∧ e.prio = (s.evcOf port).prio) ∧
    (index < 22 → Table.wf (s.evcOf port).prio = true → ∃ e, exec (.evcPrioWrite port index value) s =
        .next { s with core := s.core.logHost port 0 (0x20200 + 8 * index) value.toNat, evc := upd port (fun _ => e) s.evc } ∧
      (∀ n, 1 ≤ n → n < 256 → e.level n =
          (if n / 12 = index then value.toNat / 2 ^ (4 * (n % 12)) % 16 else (s.evcOf port).level n)) ∧
      e.pend = (s.evcOf port).pend ∧ e.enable = (s.evcOf port).enable ∧ e.active = (s.evcOf port).active ∧ e.stack = (s.evcOf port).stack) ∧
    (∃ e, exec (.evcHoldWrite port value) s =
        .next { s with core := s.core.logHost port 0 0x20018 value.toNat, evc := upd port (fun _ => e) s.evc } ∧
      e.hold = value.toNat.testBit 0 ∧ (value.toNat.testBit 0 = true → e.sig = none ∧ e.req = (s.evcOf port).req) ∧
      e.pend = (s.evcOf port).pend ∧ e.enable = (s.evcOf port).enable ∧ e.active = (s.evcOf port).active ∧ e.stack = (s.evcOf port).stack)

/-- A rising edge sets the source's pending bit and no other, whether or not the source is enabled; enables, claims and levels stay, and a level asks for at most one message, on the vector of its own number. A source that is masked while it is deliverable can still be claimed during the 25 ticks after the masking write, and no later; its pending bit stays. Its EVC_MASK_SETTLE moves device time to the end of that window and ends it. A message that a vector's request asks for is sent once MSI-X is enabled, the vector and the function are unmasked, EVC_HOLD is 0 and the link is in L0, in D3hot too, as one message whatever was requested; until then it is held. Its conclusions say that these complete: EVC_MASK_SETTLE, MSIX_MESSAGE_SEND. -/
def Obligations.EdgesMaskingAndMessages : Prop :=
  (∀ (e : Evc) (n : Nat), 1 ≤ n → n < 256 →
     (∀ m, (e.edge n).pend.testBit m = (e.pend.testBit m || m == n)) ∧
     (e.edge n).enable = e.enable ∧ (e.edge n).active = e.active ∧ (e.edge n).stack = e.stack ∧ (e.edge n).prio = e.prio ∧
     ((e.edge n).req = e.req ∨
       ∃ p, (e.edge n).sig = some p ∧ e.sig ≠ some p ∧ e.hold = false ∧ (e.edge n).req = e.req ||| 2 ^ p ∧
         (∃ m, (e.edge n).deliverable m = true ∧ e.level m = p) ∧
         ∀ m, m < 256 → 1 ≤ m → (e.edge n).deliverable m = true → e.level m ≤ p)) ∧
  ((∀ (e : Evc) (k n : Nat) (v now t : W48), e.Ok → k < 6 → e.settling = [] → e.deliverable n = true → n / 48 = k → v.toNat.testBit (n % 48) = false →
     (e.enableWrite k v.toNat now).pend = e.pend ∧ (e.enableWrite k v.toNat now).deliverable n = false ∧
     (n ∈ (e.enableWrite k v.toNat now).lingering t ↔ later (now + 25) t = true)) ∧
   (∀ (s : State) (port n : Nat) (t : W48), Table.find n (s.evcOf port).settling = some t →
     exec (.evcMaskSettle port n) s =
       .next ({ s with core := s.core.moveTo t }.updEvc port (fun e => { e with settling := Table.del n e.settling })))) ∧
  (∀ (s : State) (port v : Nat), port < s.evc.length → v < 16 →
     ((s.evcOf port).req.testBit v = true → (s.core.port port).msixEnable = true → (s.core.port port).funcMask = false →
       ((s.core.port port).msix.getD v {}).masked = false → (s.evcOf port).hold = false → (s.core.port port).link = .l0 →
       s.core.created port = true → (s.core.port port).resetting = false →
       ∃ e, exec (.msixMessageSend port v) s = .next { s with
           evc := upd port (fun _ => e) s.evc
           out := s.out ++ [.message port ((s.core.port port).msix.getD v {}).addr ((s.core.port port).msix.getD v {}).data] } ∧
         (∀ m, m < 256 → e.req.testBit m = ((s.evcOf port).req.testBit m && m != v)) ∧
         { e with req := (s.evcOf port).req } = s.evcOf port) ∧
     (((s.core.port port).msixEnable = false ∨ (s.core.port port).funcMask = true ∨ ((s.core.port port).msix.getD v {}).masked = true ∨
         (s.evcOf port).hold = true ∨ (s.core.port port).link ≠ .l0) →
       exec (.msixMessageSend port v) s = .next s))

/-! ### Doorbells, mailboxes and slice registers -/

/-- R87 whole, on a ring pair whose doorbells are applied and whose port is not in PORT_FAULT: which tails and heads are accepted, and the port-fault code of every other; a rejected value is not applied. H is the published head, T the last accepted tail, W the write position and C the last accepted head; N is a power of two, so that a position written is a number of 16 bits at most. Its conclusions say that these complete: TAIL_DOORBELL, HEAD_DOORBELL. -/
def Obligations.DoorbellRule : Prop :=
  ∀ (s : State) (port l r : Nat) (value : W64), s.reaches port → s.core.ringNo port l = some r → s.core.doorbellLive port r = true →
    (s.core.cc.faults.getD port {}).on = false →
    let n := (s.core.ringOf r).n
    let v := value.toNat % 2 ^ 16
    let p := s.core.cc.pos r
    let h := (s.core.mirror.pos r).f
    let tail := s.noted port 1 (l * 0x1000) value.toNat
    let head := s.noted port 1 (l * 0x1000 + 8) value.toNat
    (v < n ∧ ringDist n p.t h ≤ ringDist n v h →
      exec (.tailDoorbell port l value) s = .next (s.after (tail.allCC (·.updPos r (fun q => { q with t := v }))))) ∧
    (n ≤ v → exec (.tailDoorbell port l value) s = .next (s.after (tail.doorbellFault port 1 (s.core.ringLocal port r)))) ∧
    (v < n ∧ ringDist n v h < ringDist n p.t h →
      exec (.tailDoorbell port l value) s = .next (s.after (tail.doorbellFault port 2 (s.core.ringLocal port r)))) ∧
    (v < n ∧ ringDist n v p.c ≤ ringDist n p.w p.c →
      exec (.headDoorbell port l value) s = .next (s.after (head.allCC (·.updPos r (fun q => { q with c := v }))))) ∧
    (n ≤ v → exec (.headDoorbell port l value) s = .next (s.after (head.doorbellFault port 3 (s.core.ringLocal port r)))) ∧
    (v < n ∧ ringDist n p.w p.c < ringDist n v p.c →
      exec (.headDoorbell port l value) s = .next (s.after (head.doorbellFault port 4 (s.core.ringLocal port r))))

/-- What a rejected doorbell does to a port that is not in PORT_FAULT: the fault stands with its code and ring pair, in the active complex and in the mirror alike, its edge of source 65 waits for the epoch in progress, and no ring position, register or task changes. R86's dropped doorbells: on a ring pair that is out of service a doorbell write is dropped without count or event. The model's choices here: the fault standing in every copy of the control state at once, the mirror included, with its edge 65 waiting for the epoch in progress, is log entries 86 and 68. -/
def Obligations.DoorbellFaultAndDrop : Prop :=
  (∀ (c : Core) (port code ring : Nat), port < c.cc.faults.length → (c.cc.faults.getD port {}).on = false →
     let d := c.doorbellFault port code ring
     d.cc.faults.getD port {} = { on := true, code := code, ring := ring } ∧
     d.cc.edges = c.cc.edges ++ [(c.cc.epoch, 2 ^ port, 65)] ∧
     (port < c.mirror.faults.length → d.mirror.faults.getD port {} = { on := true, code := code, ring := ring }) ∧
     d.cc.rings = c.cc.rings ∧ d.cc.tasks = c.cc.tasks ∧ d.mirror.rings = c.mirror.rings ∧
     (∀ m, m ≠ port → d.cc.faults.getD m {} = c.cc.faults.getD m {}) ∧
     d.ring = c.ring ∧ d.slc = c.slc ∧ d.ports = c.ports ∧ d.g = c.g ∧ d.fx = c.fx ∧
     d.evlog = c.evlog ++ [{ kind := 1, time := c.now, value := port * 2 ^ 16 + code }]) ∧
  (∀ (s : State) (port l r : Nat) (value : W64), s.reaches port → s.core.ringNo port l = some r → s.core.doorbellLive port r = false →
     exec (.tailDoorbell port l value) s = .next (s.after (s.noted port 1 (l * 0x1000) value.toNat)) ∧
     exec (.headDoorbell port l value) s = .next (s.after (s.noted port 1 (l * 0x1000 + 8) value.toNat)))

/-- The mailbox accesses of R127 from both views of a started slice, by the state of the slot: what an outbound write stores, when a post fills a slot, what is dropped and counted in DROPPED, what is dropped without count, and what a release empties. The view is the manager's or, on a slice with a home page, the tenant's; slots 0 and 1 are the tenant's outbound slots, 2 and 3 the manager's. Its conclusions say that these complete: MAILBOX_WORD_WRITE, MAILBOX_POST, MAILBOX_RELEASE. -/
def Obligations.MailboxAccess : Prop :=
  ∀ (s : State) (port l n k w : Nat) (manager : Bool) (v : W64),
    s.core.hostUp port = true → s.core.scrapped = false → s.core.slcNo port l = some n → (s.core.slice n).started = true →
    (manager = true ∨ (s.core.slice n).home.isSome = true) → k < 4 → w < 7 →
    let x := s.core.slice n
    let m := x.slotAt k
    let left (y : Slc) : State := s.after { s.dies with slc := Table.putD n y {} s.core.slc }
    let told (y : Slc) : State := if manager then
        s.after (({ s.dies with slc := Table.putD n y {} s.core.slc } : Core).notifyTenant port n) else left y
    (outbound manager k = true → m.full = false →
      exec (.mailboxWordWrite port manager l k w v) s = .next (left { x with mbx := upd k (fun m => { m with words := upd w (fun _ => v) m.words }) x.mbx }) ∧
      exec (.mailboxPost port manager l k v) s = .next (told
        (if manager then { x with mbx := upd k (fun m => { full := true, words := upd 7 (fun _ => v) m.words }) x.mbx, mPosts := (x.mPosts + 1) % 256 }
         else { x with mbx := upd k (fun m => { full := true, words := upd 7 (fun _ => v) m.words }) x.mbx, tPosts := (x.tPosts + 1) % 256, posted := true }))) ∧
    (outbound manager k = true → m.full = true →
      exec (.mailboxWordWrite port manager l k w v) s = .next (left { x with dropped := min (x.dropped + 1) (2 ^ 16 - 1) }) ∧
      exec (.mailboxPost port manager l k v) s = .next (left { x with dropped := min (x.dropped + 1) (2 ^ 16 - 1) })) ∧
    (outbound manager k = false →
      exec (.mailboxWordWrite port manager l k w v) s = .next (s.after s.dies)) ∧
    (outbound manager k = false → m.full = true →
      exec (.mailboxRelease port manager l k v) s = .next (told
        (if manager then { x with mbx := upd k (fun _ => {}) x.mbx } else { x with mbx := upd k (fun _ => {}) x.mbx, released := true }))) ∧
    (outbound manager k = false → m.full = false →
      exec (.mailboxRelease port manager l k v) s = .next (s.after s.dies))

/-- The writes of the slice registers that act of themselves, on a slice the port has: SLC_MBX_STAT clears what is written 1 in every mode; SLC_VIOL_INFO and SLC_NOTICE clear a capture or notice that shows, but for the violations of epochs not yet glazed, which the host cannot see yet and which stay with their first one captured; SLC_WIN_SEL selects an entry, locked slice or not, and discards a held half of the base. Its conclusions say that these complete: SLC_MBX_STAT_CLEAR, SLC_VIOL_INFO_CLEAR, SLC_NOTICE_CLEAR, SLC_WIN_SEL_WRITE. -/
def Obligations.SliceRegisterWrites : Prop :=
  ∀ (s : State) (port l n : Nat) (v : W64), s.reaches port → s.core.slcNo port l = some n →
    let o := 0x40000 + l * 0x100
    let x := s.core.slice n
    exec (.slcMbxStatClear port l v) s = .next (s.after { s.noted port 0 (o + 0x80) v.toNat with
      slc := Table.putD n { x with posted := x.posted && !v.toNat.testBit 0, released := x.released && !v.toNat.testBit 1 } {} s.core.slc }) ∧
    (s.core.frozen = false →
      exec (.slcWinSelWrite port l v) s = .next (s.after { s.noted port 0 (o + 0x20) v.toNat with
        slc := Table.putD n { x with winSel := v.toNat % 64, winHi := none } {} s.core.slc })) ∧
    (s.core.frozen = false → (s.core.mirror.cap n).valid = true → Completes (.slcViolInfoClear port l v) s (fun c =>
      (Table.wf s.core.cc.caps = true → ∀ m, m ≠ n → c.cc.cap m = s.core.cc.cap m) ∧
      ((∀ x ∈ (s.core.cc.cap n).recent, x.posted = true) → (c.cc.cap n).valid = false ∧ (c.cc.cap n).later = 0 ∧ (c.cc.cap n).access = 0 ∧
        (c.cc.cap n).cause = 0 ∧ (c.cc.cap n).ring = 0 ∧ (c.cc.cap n).tag = 0 ∧ (c.cc.cap n).iova = 0) ∧
      (∀ x l, (s.core.cc.cap n).recent.filter (fun y => !y.posted) = x :: l → (c.cc.cap n).valid = true ∧ (c.cc.cap n).later = min l.length (2 ^ 32 - 1) ∧
        (c.cc.cap n).access = x.access ∧ (c.cc.cap n).cause = x.cause ∧ (c.cc.cap n).ring = x.ring ∧ (c.cc.cap n).tag = x.tag ∧ (c.cc.cap n).iova = x.iova) ∧
      ((∀ x ∈ (s.core.mirror.cap n).recent, x.posted = true) → (c.mirror.cap n).valid = false) ∧
      (c.cc.cap n).nValid = (s.core.cc.cap n).nValid ∧ (c.cc.cap n).nCount = (s.core.cc.cap n).nCount ∧ (c.cc.cap n).nPage = (s.core.cc.cap n).nPage ∧
      c.cc.tasks = s.core.cc.tasks ∧ c.cc.rings = s.core.cc.rings ∧ c.slc = s.core.slc ∧ c.g = s.core.g ∧ c.ports = s.core.ports)) ∧
    (s.core.frozen = false → (s.core.mirror.cap n).valid = false →
      exec (.slcViolInfoClear port l v) s = .next (s.after (s.noted port 0 (o + 0x48) (v ||| 1).toNat))) ∧
    (s.core.frozen = false → (s.core.mirror.cap n).nValid = true → Completes (.slcNoticeClear port l v) s (fun c =>
      ((∀ x ∈ (s.core.cc.cap n).recent, x.posted = false) → (c.cc.cap n).nValid = false ∧ (c.cc.cap n).nCount = 0 ∧ (c.cc.cap n).nPage = 0) ∧
      (∀ x l, (s.core.cc.cap n).recent.filter (fun y => y.posted) = x :: l → (c.cc.cap n).nValid = true ∧ (c.cc.cap n).nCount = min (l.length + 1) (2 ^ 32 - 1) ∧
        (c.cc.cap n).nPage = x.iova / 4096 * 4096) ∧
      ((∀ x ∈ (s.core.mirror.cap n).recent, x.posted = false) → (c.mirror.cap n).nValid = false) ∧
      (c.cc.cap n).valid = (s.core.cc.cap n).valid ∧ (c.cc.cap n).later = (s.core.cc.cap n).later ∧ (c.cc.cap n).iova = (s.core.cc.cap n).iova ∧
      c.cc.tasks = s.core.cc.tasks ∧ c.cc.rings = s.core.cc.rings ∧ c.slc = s.core.slc ∧ c.g = s.core.g ∧ c.ports = s.core.ports)) ∧
    (s.core.frozen = false → (s.core.mirror.cap n).nValid = false →
      exec (.slcNoticeClear port l v) s = .next (s.after (s.noted port 0 (o + 0x68) (v ||| 1).toNat)))

/-- What comes home of a refused register write: it is dropped, GLB_HOST_ACCESS_ERR counts it with its BAR (0 for BAR0, 1 for BAR2) and offset, and source 64 tells the port's manager; nothing else changes. No register write has an effect where it does not reach its port's function: the link is down, the function in D3hot or in reset, the unit scrapped, or both complexes lost. The unit-scoped registers belong to the manager of port 0: from any other port that reaches its function, a write of one is dropped and counted. Accesses that reach no register. A misaligned access to BAR0 or BAR2 returns zero if it is a read, and read or write is counted and raises source 64 at the port's manager; on a scrapped unit a misaligned read returns zero and nothing is counted; R9 does not apply to BAR4. A write at an offset that holds no register is dropped and counted, and a read of it returns zero. A poisoned write is dropped and reported through AER alone, with the header of the first error logged. None of the three changes any register beside the count. Its conclusions say that these complete: MISALIGNED_ACCESS, POISONED_WRITE. The model's choices here: host writes dropped with both complexes lost are log entry 81, and what is dropped in the frozen modes follows log entry 10. -/
def Obligations.WritesThatFindNoRegister : Prop :=
  (∀ (c : Core) (port bar offset : Nat), port < c.ports.length →
     let d := c.refuseWrite port bar offset
     (d.port port).errCount = min ((c.port port).errCount + 1) (2 ^ 24 - 1) ∧ (d.port port).errBar = bar % 2 ∧
     (d.port port).errOffset = offset / 8 % 2 ^ 21 ∧
     (∀ m, m ≠ port → d.port m = c.port m) ∧ d.fx = c.fx ++ [.pulse (2 ^ port) 64] ∧
     { d with ports := c.ports, fx := c.fx } = c) ∧
  (∀ (s : State) (i : Instr) (port : Nat) (value : W64),
     (s.core.hostUp port = false ∨ s.core.scrapped = true ∨ s.core.cont.dead = true) →
     (i = .glbCtrlHalt port value ∨ i = .glbCtrlQuiesce port value ∨ i = .glbCtrlResume port value ∨ i = .glbCtrlEnable port value ∨
      i = .glbCtrlEnableClear port value ∨ i = .portCtrlEnable port value ∨ i = .portCtrlEnableClear port value ∨
      (∃ l, i = .slcCtrlEnable port l value ∨ i = .slcCtrlEnableClear port l value ∨ i = .ringCtrlEnable port l value ∨
         i = .ringCtrlEnableClear port l value ∨ i = .tailDoorbell port l value ∨ i = .headDoorbell port l value ∨
         i = .slcMbxStatClear port l value ∨ i = .slcViolInfoClear port l value ∨ i = .slcNoticeClear port l value ∨
         i = .slcWinSelWrite port l value ∨ i = .dspClassEnable port l value ∨ i = .dspClassDisable port l value ∨
         i = .pkeRsaGenWrite port l value ∨ (∃ b, i = .portSplitWrite port l b value)) ∨
      i = .tagCtrlCommit port value ∨ i = .tagCtrlDiscard port value ∨ i = .ktrLowMarkWrite port value ∨
      i = .entCtrlRetest port value ∨ i = .injCtrlGo port value) →
     exec i s = .next (s.after s.dies)) ∧
  (∀ (s : State) (port : Nat) (v : W64), port ≠ 0 → s.reaches port →
     let refused (o : Nat) (v : W64) : Host.Outcome State Fault Refusal := .next (s.after ((s.noted port 0 o v.toNat).refuseWrite port 0 o))
     exec (.glbCtrlHalt port v) s = refused 0x50 (v ||| 0x10) ∧ exec (.glbCtrlQuiesce port v) s = refused 0x50 (v ||| 2) ∧
     exec (.glbCtrlResume port v) s = refused 0x50 (v ||| 4) ∧ exec (.glbCtrlEnable port v) s = refused 0x50 (v ||| 1) ∧
     (∀ n b, exec (.portSplitWrite port n b v) s = refused (0x10100 + n * 0x20 + (if b then 8 else 0)) v) ∧
     exec (.tagCtrlCommit port v) s = refused 0x200210 (v ||| 1) ∧ exec (.tagCtrlDiscard port v) s = refused 0x200210 (v ||| 2) ∧
     (∀ k, k < 8 → exec (.dspClassEnable port k v) s = refused (0x0C0000 + 8 * k) (v ||| 1) ∧
       exec (.dspClassDisable port k v) s = refused (0x0C0000 + 8 * k) (v &&& ~~~(1 : W64))) ∧
     exec (.ktrLowMarkWrite port v) s = refused 0x0D0018 v ∧ exec (.entCtrlRetest port v) s = refused 0x100008 v ∧
     (∀ i, i < 4 → exec (.pkeRsaGenWrite port i v) s = refused (0x0F0040 + 8 * i) v) ∧ exec (.injCtrlGo port v) s = refused 0x160008 (v ||| 1)) ∧
  (∀ (s : State) (port bar offset : Nat) (v : W64), s.core.hostUp port = true →
     (s.core.scrapped = false → (bar = 0 ∨ bar = 2) →
       exec (.misalignedAccess port bar offset true) s = .next (s.after ((s.dies.logHost port (bar / 2) offset none).refuseWrite port (bar / 2) offset)) ∧
       exec (.misalignedAccess port bar offset false) s = .next (s.after ((s.dies.send (.readData port 0)).refuseWrite port (bar / 2) offset))) ∧
     (s.core.scrapped = true → (bar = 0 ∨ bar = 2) →
       exec (.misalignedAccess port bar offset true) s = .next (s.after s.dies) ∧
       exec (.misalignedAccess port bar offset false) s = .next (s.after (s.dies.send (.readData port 0)))) ∧
     (bar ≠ 0 → bar ≠ 2 → ∀ w, exec (.misalignedAccess port bar offset w) s = .next (s.after s.dies)) ∧
     (s.core.scrapped = false → s.core.cont.dead = false → offset % 8 = 0 → offset < 2 ^ 24 → bar < 2 →
       (if bar = 0 then s.core.regAt port offset else s.core.doorAt port offset) = none →
       exec (.registerWrite port bar offset v) s = .next (s.after ((s.noted port bar offset v.toNat).refuseWrite port bar offset)) ∧
       s.readBar port bar offset = 0) ∧
     ((bar = 0 ∨ bar = 2 ∨ bar = 4) → offset < 2 ^ 24 →
       ∀ ecrc : Bool,
         (ecrc = false ∨ (s.core.port port).ecrcCheck = true → exec (.poisonedWrite port bar offset ecrc) s =
           .next (s.after { (if bar = 4 then s.dies else s.dies.logHost port (bar / 2) offset none) with
             ports := upd port (fun p => { p with aer := p.aer + 1, aerLog := p.aerLog.or (some (0, offset)) }) s.core.ports })) ∧
         (ecrc = true → (s.core.port port).ecrcCheck = false → exec (.poisonedWrite port bar offset ecrc) s = .next (s.after s.dies))))

/-! ### GLB_CTRL, the consistency check, and the enables of ports, slices and ring pairs -/

/-- HALT = 1 from the manager of port 0, in every powered mode but SAFE_HALT, ZEROIZED and a WAKE that holds a fault: SAFE_HALT with cause 2 and group 0, every engine and instance stopped, and every task in flight, its completion staged already or not, completed with SAFE_HALT, an overtaken acceptance with MODE_REFUSED. ABORT takes the value of the same write in the modes that take its other fields. In SAFE_HALT it changes nothing. QUIESCE = 1 from the manager of port 0 in SERVE or SERVE_REDUCED: QUIESCE is entered with ENABLE and ABORT as written (an ENABLE of 1 is ignored while a check runs, unless it stands already), no ring pair may be fetched from, ring positions stay, and where ABORT is 1 every task with an uncompleted big-number step is aborted with cause 1 while every other task stays as it is. In the serving phase of ANALYSIS the same write enters the quiesced phase without a change of mode. RESUME = 1 from the manager of port 0 on a quiesced unit: with ENABLE = 1 it returns to service, SERVE or SERVE_REDUCED as REDUCED says, or to the serving phase of ANALYSIS; tasks, ring positions and every register of ports, slices and ring pairs stay. An ENABLE of 1 counts where it stands already or no check runs. With ENABLE = 0 RESUME is ignored, and ENABLE takes the 0. Its conclusions say that these complete: GLB_CTRL_HALT, GLB_CTRL_QUIESCE, GLB_CTRL_RESUME. The model's choices here: staged completions rewritten to SAFE_HALT are log entry 22, ABORT taking the value of the same write is log entry 20, and QUIESCE outside its modes being ignored is log entry 13. -/
def Obligations.HaltQuiesceAndResume : Prop :=
  (∀ (s : State) (v : W64), s.reaches 0 → s.core.g.mode ≠ .zeroized → s.core.g.mode ≠ .retain → (s.core.g.mode = .wake → s.core.g.wakeFault = 0) →
     (s.core.g.mode = .safeHalt → exec (.glbCtrlHalt 0 v) s = .next (s.after (s.noted 0 0 0x50 (v ||| 0x10).toNat))) ∧
     (s.core.g.mode ≠ .safeHalt → Completes (.glbCtrlHalt 0 v) s (fun c =>
       c.g.mode = .safeHalt ∧ c.g.prev = s.core.g.mode.code ∧ c.g.haltCause = 2 ∧ c.g.haltGroup = 0 ∧ c.g.enable = false ∧ c.g.checks = [] ∧
       c.g.lcTarget = none ∧ c.g.modeTime = s.core.now ∧ c.eng.jobs = [] ∧ c.ent.run = false ∧ c.ent.pools = [[], []] ∧
       (s.core.linkMask ≠ 0 → Fx.pulse s.core.linkMask 160 ∈ c.fx) ∧ c.evlog = s.core.evlog ++ [{ kind := 0, time := s.core.now, value := 9 }] ∧
       (s.core.frozen = false → c.g.abort = v.toNat.testBit 3) ∧
       (∀ tid t, s.core.task tid = some t → t.st ≠ .fetching → t.dropped = false → ∃ u, c.task tid = some u ∧
         u.st = .retired ∧ u.staged = some s.core.cc.epoch ∧ u.pieces = [] ∧
         u.status = (if t.overtaken then Status.modeRefused else Status.safeHalt)) ∧
       c.cc.rings = s.core.cc.rings ∧ c.cc.kt = s.core.cc.kt.unpin ((ctxNodes s.core.cc.tasks).eraseDups.filter (fun n => !c.cc.pins n)) c.cc.pins ∧
       c.cc.cust = s.core.cc.cust ∧ c.ports = s.core.ports ∧ c.slc = s.core.slc ∧ c.ring = s.core.ring ∧
       c.flash = s.core.flash ∧ c.batt = s.core.batt ∧ c.tmp = s.core.tmp))) ∧
  (∀ (s : State) (v : W64), s.reaches 0 → v.toNat.testBit 4 = false →
     let aborted (c : Core) : Prop := ∀ tid t, s.core.task tid = some t →
       c.task tid = some (if v.toNat.testBit 3 && t.hasBn then { t with st := .aborting, abortCause := 1 } else t)
     let kept (c : Core) : Prop := c.g.enable = (v.toNat.testBit 0 && (s.core.g.enable || s.core.g.checks.isEmpty)) ∧ c.g.abort = v.toNat.testBit 3 ∧ (∀ p r, c.fetchAllowed p r = false) ∧
       c.cc.rings = s.core.cc.rings ∧ c.mirror.rings = s.core.mirror.rings ∧ c.ports = s.core.ports ∧ c.slc = s.core.slc ∧ c.ring = s.core.ring ∧ aborted c
     ((s.core.g.mode = .serve ∨ s.core.g.mode = .serveReduced) → Completes (.glbCtrlQuiesce 0 v) s (fun c =>
       c.g.mode = .quiesce ∧ c.g.prev = s.core.g.mode.code ∧ c.g.drained = false ∧ c.g.modeTime = s.core.now ∧
       c.evlog = s.core.evlog ++ [{ kind := 0, time := s.core.now, value := 6 }] ∧ kept c)) ∧
     (s.core.g.mode = .analysis → s.core.g.phase = .serving → Completes (.glbCtrlQuiesce 0 v) s (fun c =>
       c.g.mode = .analysis ∧ c.g.phase = .quiesced ∧ c.evlog = s.core.evlog ∧ kept c))) ∧
  (∀ (s : State) (v : W64), s.reaches 0 → v.toNat.testBit 4 = false →
     let kept (c : Core) : Prop := c.cc = s.core.cc ∧ c.mirror = s.core.mirror ∧ c.eng = s.core.eng ∧ c.ports = s.core.ports ∧ c.slc = s.core.slc ∧ c.ring = s.core.ring
     let counts : Prop := v.toNat.testBit 0 = true ∧ (s.core.g.enable = true ∨ s.core.g.checks = [])
     (counts → s.core.g.mode = .quiesce → Completes (.glbCtrlResume 0 v) s (fun c =>
       c.g.mode = (if s.core.g.reducedWas then .serveReduced else .serve) ∧ c.g.prev = 6 ∧ c.g.enable = true ∧ c.g.drained = false ∧ kept c)) ∧
     (counts → s.core.g.mode = .analysis → s.core.g.phase = .quiesced → Completes (.glbCtrlResume 0 v) s (fun c =>
       c.g.mode = .analysis ∧ c.g.phase = .serving ∧ c.g.enable = true ∧ c.g.drained = false ∧ kept c)) ∧
     (v.toNat.testBit 0 = false → s.core.quiesced = true →
       exec (.glbCtrlResume 0 v) s = .next (s.after { s.noted 0 0 0x50 (v ||| 4).toNat with
         g := { s.core.g with abort := v.toNat.testBit 3, enable := false } })))

/-- R40 whole, from the manager of port 0, in SETUP and while configuring in ANALYSIS: a write of 1 to ENABLE while the global check runs is ignored; a write of 0 cancels the check, the unit stays where it is and the reason reads 0. ABORT, which the same register holds, takes the value written. Its conclusions say that these complete: GLB_CTRL_ENABLE, GLB_CTRL_ENABLE_CLEAR. The model's choices here: ABORT taking the value of the same write is log entry 20. -/
def Obligations.EnableWhileChecking : Prop :=
  ∀ (s : State) (v : W64), s.reaches 0 → (s.core.g.mode = .setup ∨ (s.core.g.mode = .analysis ∧ s.core.g.phase = .configuring)) →
    s.core.globalChecking = true → v.toNat.testBit 4 = false →
    exec (.glbCtrlEnable 0 v) s = .next (s.after { s.noted 0 0 0x50 (v ||| 1).toNat with g := { s.core.g with abort := v.toNat.testBit 3 } }) ∧
    exec (.glbCtrlEnableClear 0 v) s = .next (s.after { s.noted 0 0 0x50 (v.toNat &&& 0xFFFFFFFFFFFE) with
      g := { s.core.g with abort := v.toNat.testBit 3, checks := s.core.g.checks.filter (fun k => k.kind != 0), reason := 0 } })

/-- ENABLE written 1 and 0 in the other modes that take it, from the manager of port 0: in SETUP, and in ANALYSIS while configuring, 1 starts the global check, unless a check of a port or slice runs; in QUIESCE it sets ENABLE at once without a check; 0 in SERVE or SERVE_REDUCED enters QUIESCE, and 0 in QUIESCE clears ENABLE. A drained QUIESCE whose ENABLE is written 0 passes to SETUP at once, and the RWL fields unlock. Its conclusions say that these complete: GLB_CTRL_ENABLE, GLB_CTRL_ENABLE_CLEAR. The model's choices here: an ENABLE of 1 ignored while the check of a port or slice runs is log entry 9. -/
def Obligations.EnableWrites : Prop :=
  (∀ (s : State) (v : W64), s.reaches 0 → v.toNat.testBit 4 = false →
     let ab : Glb := { s.core.g with abort := v.toNat.testBit 3 }
     ((s.core.g.mode = .setup ∨ (s.core.g.mode = .analysis ∧ s.core.g.phase = .configuring)) → s.core.globalChecking = false →
       exec (.glbCtrlEnable 0 v) s = .next (s.after { s.noted 0 0 0x50 (v ||| 1).toNat with
         g := if s.core.g.checks = [] then { ab with checks := [⟨0, 0, 0⟩] } else ab }) ∧
       exec (.glbCtrlEnableClear 0 v) s = .next (s.after { s.noted 0 0 0x50 (v.toNat &&& 0xFFFFFFFFFFFE) with g := ab })) ∧
     (s.core.g.mode = .quiesce → v.toNat.testBit 2 = false → (s.core.g.enable = true ∨ s.core.g.checks = []) →
       exec (.glbCtrlEnable 0 v) s = .next (s.after { s.noted 0 0 0x50 (v ||| 1).toNat with g := { ab with enable := true } }) ∧
       exec (.glbCtrlEnableClear 0 v) s = .next (s.after { s.noted 0 0 0x50 (v.toNat &&& 0xFFFFFFFFFFFE) with g := { ab with enable := false } })) ∧
     ((s.core.g.mode = .serve ∨ s.core.g.mode = .serveReduced) → Completes (.glbCtrlEnableClear 0 v) s (fun c =>
       c.g.mode = .quiesce ∧ c.g.enable = false ∧ c.cc.rings = s.core.cc.rings ∧ c.ports = s.core.ports ∧ c.slc = s.core.slc ∧ c.ring = s.core.ring))) ∧
  (∀ (s : State) (v : W64), s.reaches 0 → s.core.g.mode = .quiesce → s.core.g.drained = true → s.core.g.lcTarget = none →
     s.core.eraseSince = none → v.toNat.testBit 4 = false →
     ∃ t, exec (.glbCtrlEnableClear 0 v) s = .next t ∧ t.core.g.mode = .setup ∧ t.core.g.prev = 6 ∧ t.core.g.locked = false ∧
       t.core.g.enable = false ∧ t.core.g.drained = false ∧ t.core.cc.rings = s.core.cc.rings ∧ t.core.ring = s.core.ring ∧ t.core.flash = s.core.flash)

/-- The end of a check that runs, whose check looks at the registers alone. One that fails leaves the reason of its first failure in the register of its scope and raises source 161 at the manager that wrote the enable, and nothing else changes. One that passes starts the unit, the port or the slice; the check of an enable recorded without a global enable in force leaves its object as it is (the model's reading, log entry 9). The end of a check that does not run is nothing. Its conclusions say that these complete: CONFIG_CHECK_END. -/
def Obligations.CheckEnds : Prop :=
  ∀ (s : State) (port slice : Nat) (r : W48),
    let gone (kind : Nat) : Core := { s.dies with g := { s.core.g with checks := s.core.g.checks.filter (fun k => k != (⟨kind, port, slice⟩ : Check)) } }
    let fails (kind : Nat) : Prop := s.core.g.checks.contains ⟨kind, port, slice⟩ = true ∧ (gone kind).check { kind := kind, port := port, slice := slice } = some r
    let passes (kind : Nat) : Prop := s.core.g.checks.contains ⟨kind, port, slice⟩ = true ∧ (gone kind).check { kind := kind, port := port, slice := slice } = none
    let n := (s.core.port port).slcBase + slice
    (fails 0 → exec (.configCheckEnd 0 port slice) s = .next (s.after { gone 0 with g := { (gone 0).g with reason := r }, fx := [.pulse 1 161] })) ∧
    (fails 1 → exec (.configCheckEnd 1 port slice) s = .next (s.after { gone 1 with
      ports := upd port (fun p => { p with reason := r }) s.core.ports, fx := [.pulse (2 ^ port) 161] })) ∧
    (fails 2 → exec (.configCheckEnd 2 port slice) s = .next (s.after { gone 2 with
      slc := Table.putD n { s.core.slice n with reason := r } {} s.core.slc, fx := [.pulse (2 ^ port) 161] })) ∧
    (passes 0 → s.core.g.mode = .setup → Completes (.configCheckEnd 0 port slice) s (fun c =>
      c.g.mode = (if s.core.g.reducedWas then .serveReduced else .serve) ∧ c.g.enable = true ∧ c.g.locked = true ∧ c.g.reason = 0 ∧
      c.g.checks = (gone 0).g.checks ∧ c.flash = s.core.flash ∧ c.cc.tasks = s.core.cc.tasks ∧
      ∀ q, q < 4 → s.core.created q = true → (s.core.port q).enable = true → (c.port q).locked = true)) ∧
    (let p : Core := { gone 1 with ports := upd port (fun p => { p with reason := 0 }) s.core.ports }
     passes 1 → exec (.configCheckEnd 1 port slice) s = .next (s.after (if s.core.g.locked then p.startPort port else p))) ∧
    (let p : Core := { gone 2 with slc := Table.putD n { s.core.slice n with reason := 0 } {} s.core.slc }
     passes 2 → exec (.configCheckEnd 2 port slice) s = .next (s.after
      (if s.core.g.locked then (p.updSlice n (fun x => { x with enable := true })).startSlice port n else p))) ∧
    (∀ kind, s.core.g.checks.contains ⟨kind, port, slice⟩ = false → exec (.configCheckEnd kind port slice) s = .next (s.after s.dies))

/-- Starting a slice starts each of its enabled ring pairs: tail, fetch position, published head, write position and completion head 0, phase 1, DISCARDED 0, in the active complex and in the mirror; its captures and its mailbox are cleared, its home page is that of its lowest enabled ring pair, and its fields lock. An entry fetch of their former run is dropped with its reservation (R78); no ring pair bound elsewhere and no other task changes. The slice enable, on a slice of the port, with no global check: a write of 1 to a slice that is off, or where no global enable is in force, requests the slice check where its port is enabled, and is recorded where no global enable is in force or the port is not enabled (the model's reading, log entry 9); a write of 0, but for that of a held manager slice, cancels a running check, and disables a slice in service, aborting its big-number tasks with cause 4 where ABORT is 1; it changes no ring pair. Its conclusions say that these complete: SLC_CTRL_ENABLE, SLC_CTRL_ENABLE_CLEAR. The model's choices here: ABORT taking the value of the same write is log entry 20, an enable ignored where it stands in service is log entry 93, and the record of an enable while the port is not enabled is log entry 94. -/
def Obligations.SliceStartAndEnable : Prop :=
  (∀ (c : Core) (port n : Nat),
     let d := c.startSlice port n
     (∀ r, r ∈ c.sliceRings port n → d.cc.pos r = { started := true } ∧ d.mirror.pos r = { started := true } ∧
       (d.ringOf r).armedAt = none ∧ (d.ringOf r).since = 0) ∧
     (Table.wf c.cc.rings = true → ∀ r, r ∉ c.sliceRings port n → d.cc.pos r = c.cc.pos r) ∧
     d.cc.cap n = {} ∧ (d.slice n).mbx = List.replicate 4 {} ∧ (d.slice n).tPosts = 0 ∧ (d.slice n).mPosts = 0 ∧ (d.slice n).dropped = 0 ∧
     (d.slice n).home = (c.sliceRings port n).head? ∧ (d.slice n).locked = true ∧ (d.slice n).started = true ∧
     (d.slice n).pasid = (c.slice n).pasid ∧ (d.slice n).domain = (c.slice n).domain ∧ (d.slice n).windows = (c.slice n).windows ∧
     (∀ e, e ∈ d.cc.tasks ↔ e ∈ c.cc.tasks ∧ ¬(e.2.st = .fetching ∧ e.2.ring ∈ c.sliceRings port n)) ∧ d.g = c.g ∧ d.ports = c.ports ∧ d.flash = c.flash) ∧
  (∀ (s : State) (port l n : Nat) (v : W64), s.reaches port → s.core.frozen = false → s.core.globalChecking = false → s.core.slcNo port l = some n →
     let o := 0x40000 + l * 0x100
     let x : Slc := { s.core.slice n with abort := v.toNat.testBit 1 }
     let on := s.noted port 0 o (v ||| 1).toNat
     let off := s.noted port 0 o (v.toNat &&& 0xFFFFFFFFFFFE)
     let on1 := (s.core.port port).enable
     ((s.core.slice n).enable = false ∨ s.core.g.locked = false → on1 = true → s.core.checking 2 port l = false →
       Completes (.slcCtrlEnable port l v) s (fun c => c.slice n = (if s.core.g.locked then x else { x with enable := true }) ∧
         c.g = { s.core.g with checks := s.core.g.checks ++ [⟨2, port, l⟩] } ∧ { c with slc := on.slc, g := on.g } = on)) ∧
     ((s.core.slice n).enable = false ∨ s.core.g.locked = false → on1 = true → s.core.checking 2 port l = true →
       Completes (.slcCtrlEnable port l v) s (fun c => c.slice n = (if s.core.g.locked then x else { x with enable := true }) ∧ { c with slc := on.slc } = on)) ∧
     ((s.core.slice n).enable = false ∨ s.core.g.locked = false → on1 = false →
       Completes (.slcCtrlEnable port l v) s (fun c => c.slice n = { x with enable := true } ∧ { c with slc := on.slc } = on)) ∧
     ((s.core.slice n).enable = true → s.core.g.locked = true →
       exec (.slcCtrlEnable port l v) s = .next (s.after { on with slc := Table.putD n x {} s.core.slc })) ∧
     (¬(l = 0 ∧ s.core.otherSliceOn port = true) → s.core.checking 2 port l = true →
       Completes (.slcCtrlEnableClear port l v) s (fun c => c.slice n = { x with reason := 0, enable := false } ∧
         c.g = { s.core.g with checks := s.core.g.checks.filter (fun k => k != (⟨2, port, l⟩ : Check)) } ∧ { c with slc := off.slc, g := off.g } = off)) ∧
     (¬(l = 0 ∧ s.core.otherSliceOn port = true) → s.core.checking 2 port l = false → (s.core.slice n).enable = false →
       exec (.slcCtrlEnableClear port l v) s = .next (s.after { off with slc := Table.putD n x {} s.core.slc })) ∧
     (¬(l = 0 ∧ s.core.otherSliceOn port = true) → s.core.checking 2 port l = false → (s.core.slice n).enable = true →
       Completes (.slcCtrlEnableClear port l v) s (fun c =>
         c.slice n = { x with enable := false } ∧ c.ring = s.core.ring ∧ c.ports = s.core.ports ∧ c.g = s.core.g ∧ c.cc.rings = s.core.cc.rings ∧
         ∀ tid t, s.core.task tid = some t → c.task tid = some
           (if v.toNat.testBit 1 && (t.slice == n) && t.hasBn then { t with st := .aborting, abortCause := 4 } else t))))

/-- The port enable: a write of 1 requests the port check, unless the port serves, its check or the global check runs; where no global enable is in force it is recorded too (the model's reading, log entry 9); a write of 0 cancels a running check, and disables a port in service, aborting its big-number tasks with cause 2 where ABORT is 1. ABORT takes the value written. The ring-pair enable, on a ring pair of the port. A write of 1 to a ring pair whose slice's enable is not accepted is recorded with the fields written, a locked MSG_EN only where it stands, and an armed ring pair whose count the new COAL_COUNT meets owes its message at once; while the slice's enable is accepted (the model's reading, log entry 9) it is dropped and counted. A write of 0 is taken at any time: a ring pair that is on is disabled at once, slice locked or not, its staged completions discarded and counted, its messages withdrawn, the destination writes of its retired tasks still to leave, and where ABORT is 1, in a mode that takes the field, its big-number tasks are aborted with cause 3. Its conclusions say that these complete: PORT_CTRL_ENABLE, PORT_CTRL_ENABLE_CLEAR, RING_CTRL_ENABLE, RING_CTRL_ENABLE_CLEAR. The model's choices here: the accepted enable of a slice is log entry 87, and ABORT taking the value written in every case is log entry 20. -/
def Obligations.PortAndRingEnable : Prop :=
  (∀ (s : State) (port : Nat) (v : W64), s.reaches port → s.core.frozen = false → port < s.core.ports.length →
     let ab (f : Port → Port) : List Port := upd port (fun p => f { p with abort := v.toNat.testBit 1 }) s.core.ports
     let rec_ (p : Port) : Port := if s.core.g.locked then p else { p with enable := true }
     let on := s.noted port 0 0x10000 (v ||| 1).toNat
     let off := s.noted port 0 0x10000 (v.toNat &&& 0xFFFFFFFFFFFE)
     (s.core.globalChecking = true →
       exec (.portCtrlEnable port v) s = .next (s.after { on with ports := ab id }) ∧
       exec (.portCtrlEnableClear port v) s = .next (s.after { off with ports := ab id })) ∧
     (s.core.globalChecking = false → (s.core.port port).enable = true → s.core.g.locked = true →
       exec (.portCtrlEnable port v) s = .next (s.after { on with ports := ab id })) ∧
     (s.core.globalChecking = false → (s.core.port port).enable = false → s.core.checking 1 port 0 = false →
       exec (.portCtrlEnableClear port v) s = .next (s.after { off with ports := ab id })) ∧
     (s.core.globalChecking = false → (s.core.port port).enable = false ∨ s.core.g.locked = false →
       (s.core.checking 1 port 0 = false →
         exec (.portCtrlEnable port v) s = .next (s.after { on with ports := ab rec_, g := { s.core.g with checks := s.core.g.checks ++ [⟨1, port, 0⟩] } })) ∧
       (s.core.checking 1 port 0 = true → exec (.portCtrlEnable port v) s = .next (s.after { on with ports := ab rec_ }))) ∧
     (s.core.globalChecking = false → s.core.checking 1 port 0 = true →
       exec (.portCtrlEnableClear port v) s = .next (s.after { off with
         ports := ab (fun p => { p with reason := 0, enable := false })
         g := { s.core.g with checks := s.core.g.checks.filter (fun k => k != (⟨1, port, 0⟩ : Check)) } })) ∧
     (s.core.globalChecking = false → (s.core.port port).enable = true → s.core.checking 1 port 0 = false →
       Completes (.portCtrlEnableClear port v) s (fun c =>
         (c.port port).enable = false ∧ (c.port port).abort = v.toNat.testBit 1 ∧ (∀ r, c.fetchAllowed port r = false) ∧
         (∀ m, m ≠ port → c.port m = s.core.port m) ∧ c.slc = s.core.slc ∧ c.ring = s.core.ring ∧ c.g = s.core.g ∧ c.cc.rings = s.core.cc.rings ∧
         ∀ tid t, s.core.task tid = some t → c.task tid = some
           (if v.toNat.testBit 1 && (t.port == port) && t.hasBn then { t with st := .aborting, abortCause := 2 } else t)))) ∧
  (∀ (s : State) (port l r n : Nat) (v : W64), s.reaches port → s.core.ringNo port l = some r → s.core.ringSlice port r = some n →
     let o := 0x80000 + l * 0x40 + 0x38
     let g := s.core.ringOf r
     let on := s.noted port 0 o (v ||| 1).toNat
     let off := s.noted port 0 o (v.toNat &&& 0xFFFFFFFFFFFE)
     let x := s.core.slice n
     let msgOk : Prop := x.locked = true → v.toNat.testBit 4 = g.msgEn
     let fields (e : Bool) : Ring := { g with coalCount := v.toNat / 2 ^ 16 % 256, coalTime := v.toNat / 2 ^ 8 % 256, msgEn := v.toNat.testBit 4,
                                              abort := v.toNat.testBit 1, enable := e }
     let disables (ab : Bool) : Prop := Completes (.ringCtrlEnableClear port l v) s (fun c =>
         (c.ringOf r).enable = false ∧ (c.ringOf r).armedAt = none ∧ (c.ringOf r).sq = g.sq ∧ (c.ringOf r).cq = g.cq ∧ (c.ringOf r).slice = g.slice ∧
         (∀ e ∈ c.cc.tasks, e.2.ring = r → e.2.staged = none) ∧
         (∀ e ∈ c.cc.tasks, (∃ t, (e.1, t) ∈ s.core.cc.tasks ∧
             (e.2 = t ∨ (ab = true ∧ t.ring = r ∧ t.hasBn = true ∧ e.2 = { t with st := .aborting, abortCause := 3 }))) ∨
           (∃ k t, (k, t) ∈ s.core.cc.tasks ∧ t.ring = r ∧ t.staged.isSome = true ∧ t.pieces ≠ [] ∧ e.2 = { t with dropped := true, staged := none })) ∧
         (∀ tid t, (tid, t) ∈ s.core.cc.tasks → t.ring ≠ r → (tid, t) ∈ c.cc.tasks) ∧
         (∀ m, m ≠ r → Table.wf s.core.cc.rings = true → c.cc.pos m = s.core.cc.pos m) ∧
         (∀ m, c.port m = { s.core.port m with msgs := (s.core.port m).msgs.filter (fun y => y.ring != r) }) ∧
         c.slc = s.core.slc ∧ c.g = s.core.g)
     (s.core.frozen = false →
       (x.on = false → msgOk →
         exec (.ringCtrlEnable port l v) s = .next (s.after (({ on with ring := Table.putD r (fields true) {} s.core.ring } : Core).ringDue port r))) ∧
       ((x.on = true ∨ ¬ msgOk) → exec (.ringCtrlEnable port l v) s = .next (s.after (on.refuseWrite port 0 o))) ∧
       (¬ msgOk → exec (.ringCtrlEnableClear port l v) s = .next (s.after (off.refuseWrite port 0 o))) ∧
       (msgOk → g.enable = false →
         exec (.ringCtrlEnableClear port l v) s = .next (s.after (({ off with ring := Table.putD r (fields false) {} s.core.ring } : Core).ringDue port r))) ∧
       (msgOk → g.enable = true → Table.wf s.core.cc.tasks = true → disables (v.toNat.testBit 1))) ∧
     (s.core.frozen = true → g.enable = true → Table.wf s.core.cc.tasks = true → disables false) ∧
     (∀ c : Core, (c.ringOf r).armedAt = none → c.ringDue port r = c))

/-- R124 whole: while any other slice of the port is enabled, a write of 0 to the ENABLE of the manager slice, local slice 0, is dropped and counted. The model's choices here: judging another slice by its plain ENABLE is log entry 87. -/
def Obligations.ManagerSliceHeld : Prop :=
  ∀ (s : State) (port n : Nat) (v : W64), s.reaches port → s.core.slcNo port 0 = some n →
    (∃ l, 1 ≤ l ∧ l < (s.core.port port).slcCount ∧ (s.core.slice ((s.core.port port).slcBase + l)).enable = true) →
    exec (.slcCtrlEnableClear port 0 v) s = .next (s.after ((s.noted port 0 0x40000 (v.toNat &&& 0xFFFFFFFFFFFE)).refuseWrite port 0 0x40000))

/-! ### Register writes, accesses that reach no register, the split and tag areas, port events -/

/-- Unit-scoped registers of the manager of port 0 that take what is written into their writable fields, by their offset: counters, the quotas, the long pool and the port masks of domains; the locked ones refuse a write, and a register of no writable field always does. What a read returns, for registers of each kind from every port: those of the unit, the event controller and the port as they stand; counts in flight, DRAINED, faults, captures, ring positions and the key tree as last glazed (R384). Its conclusions say that these complete: REGISTER_WRITE. -/
def Obligations.UnitRegisterWrites : Prop :=
  ∀ (s : State) (v : W64), s.manages →
    let n := v.toNat % 2 ^ 48
    let writes (o : Nat) (f : Core → Core) : Prop := exec (.registerWrite 0 0 o v) s = .next (s.after (f (s.noted 0 0 o v.toNat)))
    let regs (o : Nat) (f : Regs → Regs) : Prop := writes o (fun c => { c with r := f c.r })
    regs 0x0C0050 (fun r => { r with late := n }) ∧ regs 0x0D0020 (fun r => { r with cacheHit := n }) ∧
    regs 0x0D0028 (fun r => { r with cacheMiss := n }) ∧ regs 0x0D0030 (fun r => { r with transient := n }) ∧
    regs 0x0E0020 (fun r => { r with authTag := n % 2 ^ 32, authChanged := n / 2 ^ 32 }) ∧
    regs 0x0E0018 (fun r => { r with symCheckCount := n % 2 ^ 32, symCheckSecond := if n % 2 ^ 32 = 0 then 0 else r.symCheckSecond }) ∧
    regs 0x0F0018 (fun r => { r with pkeCheckCount := n % 2 ^ 32, pkeCheckSecond := if n % 2 ^ 32 = 0 then 0 else r.pkeCheckSecond }) ∧
    regs 0x0E0038 (fun r => { r with bulkUnits := 64 * n }) ∧ regs 0x0F0020 (fun r => { r with pkeReject := n }) ∧
    regs 0x0F0028 (fun r => { r with pkeAborts := n % 2 ^ 24, pkeZeroed := n / 2 ^ 24 }) ∧
    regs 0x100010 (fun r => { r with entFaults := n / 2 ^ 40, entReseeds := n % 2 ^ 40 }) ∧
    regs 0x100018 (fun r => { r with entRefused := n / 2 ^ 32, entSeeds := n % 2 ^ 32 }) ∧
    regs 0x120028 (fun r => { r with stallCount := n % 2 ^ 32 }) ∧
    (∀ j, j < 342 → Completes (.registerWrite 0 0 (0x0D1000 + 8 * j) v) s (fun c =>
      (c.readKtr (0x200 + j) = if j = 341 then n % 2 ^ 16 else n) ∧
      (Table.wf s.core.r.domPorts = true → ∀ m, m < 342 → m ≠ j → c.readKtr (0x200 + m) = s.core.readKtr (0x200 + m)) ∧
      c.cc = s.core.cc ∧ c.g = s.core.g ∧ c.ports = s.core.ports)) ∧
    (s.core.g.locked = false →
      regs 0x0C0040 (fun r => { r with longPool := BitVec.ofNat 48 (2 ^ 16 * (n / 2 ^ 16 % 2 ^ 14) + n % 2 ^ 7) }) ∧
      (∀ m, m < 4 → writes (0x10110 + 0x20 * m) (fun c => { c with ports := upd m (fun p => { p with quota := n % 2 ^ 17 }) c.ports }))) ∧
    (s.core.g.locked = true → ∀ o ∈ [0x0C0040, 0x10110, 0x10130, 0x10150, 0x10170], writes o (fun c => c.refuseWrite 0 0 o)) ∧
    (∀ o ∈ [0x00, 0x08, 0x10, 0x18, 0x48, 0x58, 0x10008, 0x10010, 0x10020, 0x10118, 0x0C0048, 0x0C0080, 0x0D0000, 0x0D0038, 0x0D8000, 0x0E0000, 0x0F0000,
        0x100000, 0x120000, 0x130000, 0x130078, 0x140000, 0x140040, 0x150000, 0x160010, 0x200218],
      writes o (fun c => c.refuseWrite 0 0 o)) ∧
    (∀ port, s.reaches port →
      let rd (o : Nat) : Nat := s.readBar port 0 o
      let c := s.core
      let m := c.mirror
      let p := c.port port
      rd 0x48 = c.g.modeTime.toNat ∧ rd 0x50 = (if c.g.abort then 8 else 0) + (if c.g.enable then 1 else 0) ∧
      rd 0x10010 = word [(40, (m.faults.getD port {}).code), (24, (m.faults.getD port {}).ring), (18, b2n (m.faults.getD port {}).on),
        (17, b2n (c.portDrained m port)), (0, m.count (·.port == port))] % 2 ^ 48 ∧
      (p.slack < 2 ^ 48 → rd 0x10018 = p.slack) ∧
      (∀ n, n < 4 → (c.port n).quota < 2 ^ 48 → rd (0x10110 + 0x20 * n) = (c.port n).quota) ∧
      (∀ i, i < 6 → rd (0x20140 + 8 * i) = (s.evcOf port).enable / 2 ^ (48 * i) % 2 ^ 48 ∧ rd (0x20100 + 8 * i) = (s.evcOf port).pend / 2 ^ (48 * i) % 2 ^ 48) ∧
      (∀ l n, c.slcNo port l = some n → l < 1024 → n = p.slcBase + l →
        rd (0x40018 + 0x100 * l) = word [(36, b2n (c.slice n).home.isSome), (24, ((c.slice n).home.map (c.ringLocal port)).getD 0), (17, b2n (c.slcDrained m n)),
          (0, m.count (·.slice == n))] % 2 ^ 48 ∧
        rd (0x40058 + 0x100 * l) = (m.cap n).iova % 2 ^ 48 ∧ rd (0x40070 + 0x100 * l) = (m.cap n).nPage % 2 ^ 48) ∧
      (∀ l r, c.ringNo port l = some r → l < 4096 → r = p.ringBase + l → (c.ringOf r).enable = true →
        s.readBar port 1 (0x1000 * l) = ((m.pos r).t * 2 ^ 16 + (m.pos r).f) % 2 ^ 48 ∧ s.readBar port 1 (0x1000 * l + 8) = ((m.pos r).c * 2 ^ 16 + (m.pos r).w) % 2 ^ 48) ∧
      (∀ l r, c.ringNo port l = some r → l < 4096 → (c.ringOf r).enable = false → s.readBar port 1 (0x1000 * l) = 0 ∧ s.readBar port 1 (0x1000 * l + 8) = 0) ∧
      (c.r.late < 2 ^ 48 → rd 0x0C0050 = c.r.late) ∧ rd 0x0C0040 = c.r.longPool.toNat ∧
      (m.kt.slots.length < 2 ^ 48 → rd 0x0D0000 = (m.kt.slots.filter (fun e => e.2.state == .live)).length) ∧ (c.r.lowMark < 2 ^ 48 → rd 0x0D0018 = c.r.lowMark) ∧
      (c.r.cacheHit < 2 ^ 48 → rd 0x0D0020 = c.r.cacheHit) ∧
      rd 0x0E0018 = word [(40, c.r.symCheckLane), (32, c.r.symCheckSecond), (0, c.r.symCheckCount)] % 2 ^ 48 ∧
      (c.r.pkeReject < 2 ^ 48 → rd 0x0F0020 = c.r.pkeReject) ∧
      rd 0x120008 = c.cont.glazed % 2 ^ 48 ∧ rd 0x120018 = c.cont.takeoverTime.toNat ∧ (c.tmp.level < 2 ^ 48 → rd 0x130008 = c.tmp.level) ∧
      rd 0x160000 = c.tmp.injSel.toNat ∧ rd 0x160010 = c.tmp.injResult.toNat)

/-- R13's pair of halves, on the address registers of a ring pair whose slice is not locked and on the base of the selected window of an unlocked slice: a write of *_HI changes no address in effect; the write of *_LO that follows applies both halves, and a read of either half returns that half of the address in effect. The other registers of the two blocks take what is written. Its conclusions say that these complete: REGISTER_WRITE, ADDRESS_LO_WRITE. The model's choices here: a write of a low half with no held high half, which keeps the high half, is log entry 50. -/
def Obligations.AddressPairs : Prop :=
  ∀ (s : State) (port l r m n : Nat) (v : W64), s.reaches port → s.core.frozen = false → s.core.ringNo port l = some r → l < 4096 →
    s.core.slcNo port m = some n → m < 1024 → s.core.sliceLocked port (s.core.ringOf r).slice = false → (s.core.slice n).locked = false →
    let ro := 0x80000 + l * 0x40
    let so := 0x40000 + m * 0x100
    let g := s.core.ringOf r
    let x := s.core.slice n
    let ring (o : Nat) (g' : Ring) : State := s.after { s.noted port 0 o v.toNat with ring := Table.putD r g' {} s.core.ring }
    let slc (o : Nat) (x' : Slc) : State := s.after { s.noted port 0 o v.toNat with slc := Table.putD n x' {} s.core.slc }
    let hi := v.toNat % 2 ^ 16
    let pair (old : Nat) (h : Option Nat) : Nat := 2 ^ 48 * h.getD (old / 2 ^ 48) + v.toNat % 2 ^ 48
    exec (.registerWrite port 0 (ro + 0x08) v) s = .next (ring (ro + 0x08) { g with sqHi := some hi }) ∧
    exec (.registerWrite port 0 (ro + 0x18) v) s = .next (ring (ro + 0x18) { g with cqHi := some hi }) ∧
    exec (.registerWrite port 0 (ro + 0x28) v) s = .next (ring (ro + 0x28) { g with msgHi := some hi }) ∧
    exec (.addressLoWrite port ro v) s = .next (ring ro { g with sq := pair g.sq g.sqHi, sqHi := none }) ∧
    exec (.addressLoWrite port (ro + 0x10) v) s = .next (ring (ro + 0x10) { g with cq := pair g.cq g.cqHi, cqHi := none }) ∧
    exec (.addressLoWrite port (ro + 0x20) v) s = .next (ring (ro + 0x20) { g with msgAddr := pair g.msgAddr g.msgHi, msgHi := none }) ∧
    exec (.registerWrite port 0 (ro + 0x30) v) s = .next (ring (ro + 0x30)
      { g with msgData := v.toNat / 2 ^ 16 % 2 ^ 32, log2 := v.toNat / 2 ^ 11 % 32, slice := v.toNat % 2 ^ 10 }) ∧
    exec (.registerWrite port 0 (so + 0x10) v) s = .next (slc (so + 0x10)
      { x with report := v.toNat.testBit 32, domain := v.toNat / 2 ^ 20 % 2 ^ 12, pasid := v.toNat % 2 ^ 20 }) ∧
    exec (.registerWrite port 0 (so + 0x30) v) s = .next (slc (so + 0x30) { x with winHi := some hi }) ∧
    (let w : Window := Table.findD x.winSel {} x.windows
     let put (w' : Window) : Slc := { x with windows := Table.putD x.winSel w' {} x.windows }
     exec (.addressLoWrite port (so + 0x28) v) s = .next (slc (so + 0x28) { put { w with base := pair w.base x.winHi } with winHi := none }) ∧
     exec (.registerWrite port 0 (so + 0x38) v) s = .next (slc (so + 0x38) (put { w with len := v.toNat % 2 ^ 48 })) ∧
     exec (.registerWrite port 0 (so + 0x40) v) s = .next (slc (so + 0x40) (put { w with attr := v.toNat % 2 ^ 6 }))) ∧
    (∀ h, h < 2 ^ 16 → ∀ old, (pair old (some h)) % 2 ^ 48 = v.toNat % 2 ^ 48 ∧ (pair old (some h)) / 2 ^ 48 = h) ∧
    (let rd (o : Nat) : Nat := s.readBar port 0 o
     let w : Window := Table.findD x.winSel {} x.windows
     (g.sq < 2 ^ 64 → rd ro = g.sq % 2 ^ 48 ∧ rd (ro + 0x08) = g.sq / 2 ^ 48) ∧ (g.cq < 2 ^ 64 → rd (ro + 0x10) = g.cq % 2 ^ 48 ∧ rd (ro + 0x18) = g.cq / 2 ^ 48) ∧
     (g.msgAddr < 2 ^ 64 → rd (ro + 0x20) = g.msgAddr % 2 ^ 48 ∧ rd (ro + 0x28) = g.msgAddr / 2 ^ 48) ∧
     (w.base < 2 ^ 64 → rd (so + 0x28) = w.base % 2 ^ 48 ∧ rd (so + 0x30) = w.base / 2 ^ 48))

/-- The split area and the user tag area, from the manager of port 0. In the modes that take it and while the global enable does not lock them, a write of a range stands, and every slice and ring pair whose owning port it changes returns to its reset registers, every other one keeping them. A commit of the tag takes one write from WRITES_LEFT before anything is written, and none is taken at 0; BUSY refuses further writes, of the data too; a write of both bits discards first; its end puts the staged copy into flash. A discard reloads the staged copy. Its conclusions say that these complete: REGISTER_WRITE, PORT_SPLIT_WRITE, TAG_CTRL_COMMIT, TAG_CTRL_DISCARD, TAG_COMMIT_END. The model's choices here: the owners of overlapping ranges are log entry 18, and a TAG_CTRL write with both bits set or during BUSY is log entry 46. -/
def Obligations.SplitAndTag : Prop :=
  ∀ (s : State) (v : W64), s.reaches 0 →
    (s.core.frozen = false → s.core.g.locked = false → ∀ m, m < 4 → ∀ b, s.core.ports.length = 4 →
      Completes (.portSplitWrite 0 m b v) s (fun c =>
        (c.port m = if b then { s.core.port m with ringBase := v.toNat % 2 ^ 12, ringCount := v.toNat / 2 ^ 16 % 2 ^ 13 }
          else { s.core.port m with slcBase := v.toNat % 2 ^ 10, slcCount := v.toNat / 2 ^ 16 % 2 ^ 11 }) ∧
        (∀ k, k ≠ m → c.port k = s.core.port k) ∧
        (∀ e, e ∈ c.slc ↔ e ∈ s.core.slc ∧ ownersOf s.core.slcRanges e.1 = ownersOf c.slcRanges e.1) ∧
        (∀ e, e ∈ c.ring ↔ e ∈ s.core.ring ∧ ownersOf s.core.ringRanges e.1 = ownersOf c.ringRanges e.1) ∧
        c.cc.tasks = s.core.cc.tasks ∧ c.g = s.core.g ∧ c.flash = s.core.flash)) ∧
    (s.core.g.locked = true → ∀ m, m < 4 → ∀ b, let o := 0x10100 + m * 0x20 + (if b then 8 else 0)
      exec (.portSplitWrite 0 m b v) s = .next (s.after ((s.noted 0 0 o v.toNat).refuseWrite 0 0 o))) ∧
    (s.core.g.mode ≠ .zeroized → s.core.r.tagBusy = false →
      let at_ (w : W64) : Core := s.noted 0 0 0x200210 w.toNat
      (v.toNat.testBit 1 = false → 0 < s.core.flash.writesLeft → exec (.tagCtrlCommit 0 v) s = .next (s.after { at_ (v ||| 1) with
        r := { s.core.r with tagBusy := true }, flash := { s.core.flash with writesLeft := s.core.flash.writesLeft - 1 } })) ∧
      (s.core.flash.writesLeft = 0 → exec (.tagCtrlCommit 0 v) s = .next (s.after ((at_ (v ||| 1)).refuseWrite 0 0 0x200210))) ∧
      (v.toNat.testBit 1 = true → 0 < s.core.flash.writesLeft → exec (.tagCtrlCommit 0 v) s = .next (s.after { at_ (v ||| 1) with
        r := { s.core.r with tagStaged := s.core.flash.tag, tagBusy := true }, flash := { s.core.flash with writesLeft := s.core.flash.writesLeft - 1 } })) ∧
      (v.toNat.testBit 0 = false → exec (.tagCtrlDiscard 0 v) s = .next (s.after { at_ (v ||| 2) with
        r := { s.core.r with tagStaged := s.core.flash.tag } })) ∧
      (∀ k, k ≤ 42 → Completes (.registerWrite 0 0 (0x200000 + 8 * k) v) s (fun c =>
        c.flash = s.core.flash ∧ c.cc = s.core.cc ∧ c.g = s.core.g ∧
        (s.core.r.tagStaged.length = 256 → ∀ i, i < 256 → c.r.tagStaged.getD i 0 =
          if 6 * k ≤ i ∧ i < 6 * k + 6 then BitVec.ofNat 8 (v.toNat / 2 ^ (8 * (i - 6 * k))) else s.core.r.tagStaged.getD i 0)))) ∧
    (s.core.r.tagBusy = true →
      (∀ k, k ≤ 42 → exec (.registerWrite 0 0 (0x200000 + 8 * k) v) s = .next (s.after ((s.noted 0 0 (0x200000 + 8 * k) v.toNat).refuseWrite 0 0 (0x200000 + 8 * k)))) ∧
      exec (.tagCtrlCommit 0 v) s = .next (s.after ((s.noted 0 0 0x200210 (v ||| 1).toNat).refuseWrite 0 0 0x200210)) ∧
      exec (.tagCtrlDiscard 0 v) s = .next (s.after ((s.noted 0 0 0x200210 (v ||| 2).toNat).refuseWrite 0 0 0x200210)) ∧
      exec .tagCommitEnd s = .next (s.after { s.dies with r := { s.core.r with tagBusy := false }, flash := { s.core.flash with tag := s.core.r.tagStaged } })) ∧
    (s.core.r.tagBusy = false → exec .tagCommitEnd s = .next (s.after s.dies))

/-- A reset of one port, by PERSTn_N, by a function-level reset or by a return from D3hot: the port's registers, ring positions, captures, fault and pending edges return to reset, its fetches leave, its staged completions are discarded and counted, its other tasks lose their pieces and run on, and its controller is reset. Nothing of another port changes. Its end latches again every level of the port that is high. Link events of a created port of a powered unit. A release of PERSTn_N with a stable clock, or the clock's becoming stable with PERSTn_N high, starts training; the end of training, and the return of a link that left L0, put it in L0 at the speed and width trained, a scrapped unit at 2.5 GT/s; a link leaves L0, and the function enters D3hot, without effect on anything else. An invalidation of a translation drops it and is completed. Its conclusions say that these complete: PERST_ASSERT, FUNCTION_LEVEL_RESET, D3HOT_TO_D0, PERST_RELEASE, LINK_UP, REFCLK_STABLE, PORT_RESET_END, ATS_INVALIDATION_REQUEST, LINK_LEAVES_L0, D3HOT_ENTRY. The model's choices here: MSI-X disabled and ATS off after a port reset are log entry 4, PRESUMED from outside the spec. -/
def Obligations.LinksAndPortResets : Prop :=
  (∀ (s : State) (port : Nat), s.core.ports.length = 4 → s.core.cc.faults.length = 4 → Table.wf s.core.cc.tasks = true → s.core.portOn port = true → port < 4 →
     let done (c : Core) : Prop :=
       (c.port port).enable = false ∧ (c.port port).abort = false ∧ (c.port port).locked = false ∧ (c.port port).slack = 2000 ∧ (c.port port).reason = 0 ∧
       (c.port port).errCount = 0 ∧ (c.port port).msixEnable = false ∧ (c.port port).ats = false ∧ (c.port port).resetting = true ∧ (c.port port).d3 = false ∧
       (c.port port).resets = ((s.core.port port).resets + 1) % 2 ^ 16 ∧
       (c.port port).discarded = min ((s.core.port port).discarded +
         (s.core.cc.tasks.filter (fun e => e.2.port == port && e.2.st == .retired && !e.2.dropped)).length) (2 ^ 32 - 1) ∧
       (c.port port).slcBase = (s.core.port port).slcBase ∧ (c.port port).slcCount = (s.core.port port).slcCount ∧
       (c.port port).ringCount = (s.core.port port).ringCount ∧ (c.port port).quota = (s.core.port port).quota ∧
       (∀ m, m ≠ port → c.port m = s.core.port m) ∧
       c.cc.faults.getD port {} = {} ∧ (∀ m, m ≠ port → c.cc.faults.getD m {} = s.core.cc.faults.getD m {}) ∧
       (∀ e ∈ c.cc.tasks, e.2.port = port → e.2.gone = true ∧ e.2.pieces = [] ∧ e.2.st ≠ .fetching ∧ e.2.st ≠ .retired ∧ e.2.hasBn = false) ∧
       (∀ e, e.2.port ≠ port → (e ∈ c.cc.tasks ↔ e ∈ s.core.cc.tasks)) ∧
       (∀ e, e ∈ c.slc ↔ e ∈ s.core.slc ∧ ¬((s.core.port port).slcBase ≤ e.1 ∧ e.1 < (s.core.port port).slcBase + (s.core.port port).slcCount)) ∧
       (∀ e, e ∈ c.ring ↔ e ∈ s.core.ring ∧ ¬((s.core.port port).ringBase ≤ e.1 ∧ e.1 < (s.core.port port).ringBase + (s.core.port port).ringCount)) ∧
       c.cc.kt = s.core.cc.kt ∧ c.cc.cust = s.core.cc.cust ∧ c.flash = s.core.flash ∧ c.g.mode = s.core.g.mode ∧ Fx.evcReset port ∈ c.fx
     ((s.core.port port).perstLow = false → Completes (.perstAssert port) s (fun c => done c ∧ (c.port port).perstLow = true ∧ (c.port port).link = .down)) ∧
     ((s.core.port port).link ≠ .down → Completes (.functionLevelReset port) s (fun c => done c ∧ (c.port port).link = (s.core.port port).link)) ∧
     ((s.core.port port).link ≠ .down → (s.core.port port).d3 = true → Completes (.d3hotToD0 port) s done) ∧
     ((s.core.port port).resetting = true → exec (.portResetEnd port) s = .next (s.after
       ((setBits 256 (s.core.levels port)).foldl (fun c n => c.pulse (2 ^ port) n)
         { s.dies with ports := upd port (fun p => { p with resetting := false }) s.core.ports }))) ∧
     ((s.core.port port).resetting = false → exec (.portResetEnd port) s = .next (s.after s.dies))) ∧
  (∀ (s : State) (port : Nat), s.core.portOn port = true → port < s.core.ports.length →
     let p := s.core.port port
     let port' (f : Port → Port) : State := s.after { s.dies with ports := upd port f s.core.ports }
     (p.detect ≠ 1 → p.link = .down →
       (p.refStable = true → exec (.perstRelease port) s = .next (port' (fun p => { p with perstLow := false, training := true, detect := 0 }))) ∧
       (p.refStable = false → exec (.perstRelease port) s = .next (port' (fun p => { p with perstLow := false }))) ∧
       (p.perstLow = false → exec (.refclkStable port) s = .next (port' (fun p => { p with refStable := true, training := true, detect := 0 }))) ∧
       (p.perstLow = true → exec (.refclkStable port) s = .next (port' (fun p => { p with refStable := true })))) ∧
     (∀ speed width, 1 ≤ speed → speed ≤ 5 → 1 ≤ width → width ≤ s.core.lanes →
       (p.training = true → exec (.linkUp port speed width) s = .next (port' (fun p =>
         { p with link := .l0, training := false, speed := if s.core.slowLink then 1 else speed, width := width }))) ∧
       (p.training = false → p.link = .low → exec (.linkUp port speed width) s = .next (port' (fun p =>
         { p with link := .l0, speed := if s.core.slowLink then 1 else speed, width := width })))) ∧
     (p.link = .l0 → exec (.linkLeavesL0 port) s = .next (port' (fun p => { p with link := .low }))) ∧
     (p.link ≠ .down → p.resetting = false → exec (.d3hotEntry port) s = .next (port' (fun p => { p with d3 := true }))) ∧
     (s.core.hostUp port = true → p.ats = true → ∀ pasid page, exec (.atsInvalidationRequest port pasid page) s = .next (s.after
       { s.dies with ports := upd port (fun p => { p with translations := p.translations.filter (· != (pasid, page)) }) s.core.ports,
                     fx := [.out (.atsDone port pasid page)] })) ∧
     (s.core.hostUp port = true → p.ats = false → ∀ pasid page, exec (.atsInvalidationRequest port pasid page) s = .next (s.after s.dies)))

/-! ### Admission, dispatch and transfers -/

/-- R114's pieces, and the cause a piece fails with. A transfer of n bytes at an address is cut at every 4 KiB boundary of host memory and nowhere else: the pieces follow one another, none is empty, none crosses a boundary, every one but the last ends at one, and together they are the n bytes. A piece passes where one valid window of the slice holds its first byte, with the permission and the tag asked for and its translation granted; the cause of one that does not pass is the first of the four that holds. A turn of the admission unit. Where the lease is not held, where a ready step has not yet been offered its engines, or where no ring pair can be served, nothing is reserved; a port where something that stands before a fetch can move, or that has no tag left, is passed over. Where one is served, and its slot passes its window with no translation missing, everything is reserved together for one entry, the read of the slot at the fetch position goes out in requests of the programmed size, and the turn passes on. What is reserved stays within the quota of the port, its credits, and the records of a cluster. Its conclusions say that these complete: ADMISSION_RESERVE. The model's choices here: when operand reads are issued, and the end of a task one of whose reads failed, are log entry 111. -/
def Obligations.PiecesAndReservations : Prop :=
  ((∀ a n, a < 2 ^ 64 →
     let l := splitPieces a n
     (l.map (·.2)).sum = n ∧
     ∀ i, i < l.length →
       let p := l.getD i (0, 0)
       0 < p.2 ∧ p.1 % 4096 + p.2 ≤ 4096 ∧ p.1 = (a + ((l.take i).map (·.2)).sum) % 2 ^ 64 ∧ (i + 1 < l.length → (p.1 + p.2) % 4096 = 0)) ∧
   (∀ (s : Slc) (a perm tag : Nat) (granted : Bool), a < 2 ^ 64 →
     (s.cause a perm tag granted = 0 ↔ ∃ w, s.windowAt a = some w ∧ w.attr.testBit perm = true ∧ w.attr.testBit tag = true ∧ granted = true) ∧
     (s.cause a perm tag granted = 1 ↔ ∀ e ∈ s.windows, e.2.attr.testBit 5 = true → ¬(e.2.base ≤ a ∧ a < e.2.base + e.2.len)) ∧
     (s.cause a perm tag granted = 2 ↔ ∃ w, s.windowAt a = some w ∧ w.attr.testBit perm = false) ∧
     (s.cause a perm tag granted = 3 ↔ ∃ w, s.windowAt a = some w ∧ w.attr.testBit perm = true ∧ w.attr.testBit tag = false) ∧
     (∀ w, s.windowAt a = some w → w.attr.testBit 5 = true ∧ w.base ≤ a ∧ a < w.base + w.len))) ∧
  ((∀ s : State, s.core.leaseHeld = false ∨ s.core.offersLeft = true ∨ s.core.nextTurn = none →
     exec .admissionReserve s = .next (s.after s.dies)) ∧
   (∀ (s : State) (port r : Nat) (c' : Core), s.core.leaseHeld = true → s.core.offersLeft = false → s.core.nextTurn = some (port, r, c') →
       s.core.cc.fetchOf port r = none →
     ∃ g n, s.core.fetchTurn port = true ∧ s.core.tagFree port = true ∧ s.core.wants port r = true ∧ s.core.grant port = some g ∧ s.core.ringSlice port r = some n ∧
       (let a := (s.core.ringOf r).slotAddr (s.core.cc.pos r).f
        let x := s.core.slice n
        x.cause a 0 2 true = 0 → s.core.granted port x.pasid a [a / 4096] = true →
        exec .admissionReserve s = .next (s.after { s.dies with
          cc := { s.core.cc with
            tasks := Table.put g.slot { port := port, ring := r, slice := n, domain := x.domain, cluster := g.cluster, credits := g.credits, hasRecord := g.hasRecord } s.core.cc.tasks
            turnPort := (port + 1) % s.core.nPorts
            turnRing := upd port (fun _ => s.core.ringLocal port r + 1) s.core.cc.turnRing }
          fx := (requests (s.core.port port).maxRead a 64).map (fun q => .out (.read port x.pasid q.1 q.2 false)) }))) ∧
   (∀ (c : Core) (port : Nat) (g : Grant), c.grant port = some g →
     Table.find g.slot c.cc.tasks = none ∧ g.slot < Config.inflight c.g.variant ∧ c.cc.quotaUsed port < (c.port port).quota ∧
     (c.halted = false → g.hasRecord = true ∧ g.cluster < 8 ∧ c.cc.creditsUsed port + g.credits ≤ 262144 / c.nPorts ∧
       c.cc.recordsUsed g.cluster < Config.inflight c.g.variant / 8 ∧
       ∀ k, k < 8 → c.cont.memOut = [] → c.cc.recordsUsed g.cluster ≤ c.cc.recordsUsed k)))

/-- An entry of one slot arrives whole in a serving mode, for a task as its reservation left it, with no translation missing: the fetch position moves on by one slot; an entry that passes every check is admitted with the next sequence number, its deadline counted from now, its credits trimmed to what its destination needs; one that fails a check ends at once with that check's status and DETAIL, and with result words zero. An extended entry whose second slot the tail does not cover yet is held and moves nothing; where the tail covers it and the slot passes its window, the read of it goes out. A read that fails closes the port with FETCH_ERROR and returns the reservation, and so does one that times out; a transport error is reported through AER, an ECRC failure being one only where checking is on. Its conclusions say that these complete: READ_COMPLETION_TIMEOUT, ENTRY_FETCH_COMPLETE. -/
def Obligations.EntryArrives : Prop :=
  ∀ (s : State) (tid : Nat) (t : Task) (data : Bytes), Table.wf s.core.cc.rings = true → s.core.task tid = some t →
    t = { port := t.port, ring := t.ring, slice := t.slice, domain := t.domain, cluster := t.cluster, credits := t.credits } →
    s.core.leaseHeld = true → s.core.halted = false → s.core.fetchAllowed t.port t.ring = true → data.length = 64 →
    let c0 := s.core
    let g := c0.ringOf t.ring
    let p := c0.cc.pos t.ring
    let a := g.slotAddr p.f
    let w := { t with entry := data }
    (c0.granted t.port (c0.slice t.slice).pasid a [a / 4096] = true → w.ext = false →
      (∀ im needs, c0.entryCheck w (c0.slcLocal t.port t.slice == 0) = .ok (im, needs) →
        Completes (.entryFetchComplete tid data 0) s (fun c =>
          (c.cc.pos t.ring).f = (p.f + 1) % g.n ∧ (c.cc.pos t.ring).t = p.t ∧ (c.cc.pos t.ring).w = p.w ∧ (c.cc.pos t.ring).c = p.c ∧
          (∀ r, r ≠ t.ring → c.cc.pos r = c0.cc.pos r) ∧ (∀ m, m ≠ tid → (c.task m).isSome = (c0.task m).isSome) ∧
          c.cc.seq = (c0.cc.seq + 1) % 2 ^ 48 ∧ c.g = c0.g ∧ c.ports = c0.ports ∧ c.ring = c0.ring ∧ c.slc = c0.slc ∧
          ∃ u, c.task tid = some u ∧ u.st = .admitted ∧ u.seq = (c0.cc.seq + 1) % 2 ^ 48 ∧ u.entry = data ∧ u.image = im ∧ u.needs = needs ∧
            u.deadline = c0.now + BitVec.ofNat 48 (if w.relDeadline = 0 then (c0.port t.port).slack else w.relDeadline) ∧
            u.due = c0.clock + (if w.relDeadline = 0 then (c0.port t.port).slack else w.relDeadline) ∧
            u.fenced = w.fence ∧ u.strict = (!(c0.slice t.slice).report || w.strictWrite) ∧
            u.credits = (min w.dstLen 4096 + 63) / 64 ∧ u.port = t.port ∧ u.ring = t.ring ∧ u.slice = t.slice ∧ u.trays.length = 384)) ∧
      (∀ e, c0.entryCheck w (c0.slcLocal t.port t.slice == 0) = .error e →
        Completes (.entryFetchComplete tid data 0) s (fun c =>
          (c.cc.pos t.ring).f = (p.f + 1) % g.n ∧ c.cc.seq = c0.cc.seq ∧ c.eng.bad = c0.eng.bad ∧ c.g = c0.g ∧
          ∃ u, c.task tid = some u ∧ u.status = e.1 ∧ u.detail = e.2 ∧ u.res0 = some 0 ∧ u.res1 = some 0 ∧
            (w.fence = false → u.st = .retired ∧ u.retireTime = c0.now ∧ u.hasRecord = false)))) ∧
    (c0.granted t.port (c0.slice t.slice).pasid a [a / 4096] = true → w.ext = true → c0.waiting t.ring < 2 →
      Completes (.entryFetchComplete tid data 0) s (fun c =>
        c.cc.rings = c0.cc.rings ∧ c.cc.seq = c0.cc.seq ∧ c.task tid = some { w with entry := data.take 64, held := true })) ∧
    (let b := g.slotAddr ((p.f + 1) % g.n)
     c0.granted t.port (c0.slice t.slice).pasid a [a / 4096] = true → w.ext = true → 2 ≤ c0.waiting t.ring → (c0.slice t.slice).cause b 0 2 true = 0 →
      c0.granted t.port (c0.slice t.slice).pasid b [b / 4096] = true →
      Completes (.entryFetchComplete tid data 0) s (fun c =>
        c.fx = (requests (c0.port t.port).maxRead b 64).map (fun q => .out (.read t.port (c0.slice t.slice).pasid q.1 q.2 false)) ∧
        c.cc.rings = c0.cc.rings ∧ c.cc.seq = c0.cc.seq ∧ c.task tid = some w)) ∧
    (let failed (port : Port → Port) (cause : Nat) (c : Core) : Prop :=
       c.task tid = none ∧ (∀ m, m ≠ tid → c.task m = c0.task m) ∧ c.cc.rings = c0.cc.rings ∧ c.ports = upd t.port port c0.ports ∧
       c.cc.faults.getD t.port {} = { on := true, code := 5, ring := c0.ringLocal t.port t.ring } ∧
       ((c0.cc.cap t.slice).valid = false → (c.cc.cap t.slice).valid = true ∧ (c.cc.cap t.slice).access = 1 ∧ (c.cc.cap t.slice).cause = cause ∧
         (c.cc.cap t.slice).ring = c0.ringLocal t.port t.ring ∧ (c.cc.cap t.slice).iova = a) ∧
       (c.cc.cap t.slice).recent = (c0.cc.cap t.slice).recent ++
         [{ epoch := c0.cc.epoch, seq := 0, posted := false, access := 1, cause := cause, ring := c0.ringLocal t.port t.ring, tag := 0, iova := a }]
     let told (p : Port) : Port := { p with aer := p.aer + 1, aerLog := p.aerLog.or (some (1, a)) }
     t.port < c0.cc.faults.length → Table.wf c0.cc.tasks = true →
      (∀ o, 1 ≤ o → o ≠ 4 → (o = 3 → (c0.port t.port).ecrcCheck = true) → Completes (.entryFetchComplete tid data o) s (failed told 5)) ∧
      ((c0.port t.port).ecrcCheck = false → exec (.entryFetchComplete tid data 3) s = exec (.entryFetchComplete tid data 0) s) ∧
      (c0.granted t.port (c0.slice t.slice).pasid a [a / 4096] = false → Completes (.entryFetchComplete tid data 4) s (failed id 4)) ∧
      Completes (.readCompletionTimeout tid) s (failed told 5))

/-- The requests of an admitted task. Its source, for a BULK task the part that its work area takes, is asked for piece by piece in order, in requests of the programmed size, up to a piece whose translation is missing; at the end of the read the pieces left are read, and the bytes land; with ATS a piece whose translation the host refuses fails, one whose translation it grants is read; the first piece that fails its check, or whose completion is a transport error, stops the read, is captured and ends the task with WINDOW_VIOLATION and the address of the piece, and nothing more is written to its destination; so does a read that times out. A random request is served by one call of its cluster's instance for each size that the task declares; it waits where a reseed is due and no seed is left, or where the instance has lost its state, and ends the task with ENTROPY_UNAVAILABLE where the instances have stopped. Its conclusions say that these complete: READ_COMPLETION_TIMEOUT, OPERAND_READ_COMPLETE, RANDOM_REQUEST_SERVE. The model's choices here: when operand reads are issued is log entry 111. -/
def Obligations.OperandAndRandom : Prop :=
  ∀ (s : State) (tid : Nat) (t : Task), s.core.task tid = some t →
    let c0 := s.core
    let x := c0.slice t.slice
    let p0 := c0.port t.port
    let out (l : List (Nat × Nat)) : List Fx := l.flatMap (fun p => (requests p0.maxRead p.1 p.2).map (fun q => .out (.read t.port x.pasid q.1 q.2 p0.relaxed)))
    let sent (l : List (Nat × Nat)) : Core := { s.dies with fx := out l }
    (∀ first n k, t.asked = some (first, n, k) → t.awaitsSource = true → c0.leaseHeld = true → t.gone = false →
      let all := splitPieces (t.srcIova + first) n
      (∀ data refused bad ecrc, (p0.ecrcCheck = false → exec (.operandReadComplete tid data refused bad ecrc) s = exec (.operandReadComplete tid data refused bad []) s) ∧
        (p0.ecrcCheck = true → exec (.operandReadComplete tid data refused bad ecrc) s = exec (.operandReadComplete tid data refused (bad ++ ecrc) []) s)) ∧
      (p0.ats = false →
        (∀ data refused bad, (∀ p ∈ all, bad.contains (p.1 / 4096) = false) → (∀ p ∈ all.drop k, x.cause p.1 0 3 true = 0) →
          exec (.operandReadComplete tid data refused bad []) s = .next (s.after (((sent (all.drop k)).updTask tid (·.landSource data)).tryRetire tid))) ∧
        (∀ data refused bad l p rest, all.drop k = l ++ p :: rest → (∀ q ∈ all.take k ++ l, bad.contains (q.1 / 4096) = false) → (∀ q ∈ l, x.cause q.1 0 3 true = 0) →
          (x.cause p.1 0 3 true ≠ 0 →
            exec (.operandReadComplete tid data refused bad []) s = .next (s.after ((sent l).sourceFail tid t (x.cause p.1 0 3 true) p.1))) ∧
          (x.cause p.1 0 3 true = 0 → bad.contains (p.1 / 4096) = true →
            exec (.operandReadComplete tid data refused bad []) s = .next (s.after ((sent (l ++ [p])).sourceFail tid t 5 p.1))))) ∧
      (∀ data refused bad l p rest, all.take k = l ++ p :: rest → (∀ q ∈ l, bad.contains (q.1 / 4096) = false) → bad.contains (p.1 / 4096) = true →
        exec (.operandReadComplete tid data refused bad []) s = .next (s.after (s.dies.sourceFail tid t 5 p.1))) ∧
      (∀ data refused bad p rest, p0.ats = true → all.drop k = p :: rest → (∀ q ∈ all.take k, bad.contains (q.1 / 4096) = false) → x.cause p.1 0 3 true = 0 →
        p0.translations.contains (x.pasid, p.1 / 4096) = false →
        let asks := s.dies.send (.translate t.port x.pasid (p.1 / 4096))
        (refused.contains (p.1 / 4096) = true → exec (.operandReadComplete tid data refused bad []) s = .next (s.after (asks.sourceFail tid t 4 p.1))) ∧
        (refused.contains (p.1 / 4096) = false → bad.contains (p.1 / 4096) = false → rest = [] →
          exec (.operandReadComplete tid data refused bad []) s = .next (s.after (((((asks.holdTranslation t.port x.pasid p.1).sendRead t.port x.pasid p.1 p.2 p0.relaxed).updTask tid
            (·.landSource data)).tryRetire tid))))) ∧
      exec (.readCompletionTimeout tid) s = .next (s.after (s.dies.sourceFail tid t 5 (t.srcIova + first)))) ∧
    (∀ c : Core, c.task tid = some t → (c.port t.port).ats = false → (c.port t.port).maxRead = p0.maxRead → (c.port t.port).relaxed = p0.relaxed → c.slice t.slice = x →
      let part := t.nextPart
      let all := splitPieces (t.srcIova + part.1) part.2
      (∀ p ∈ all, x.cause p.1 0 3 true = 0) →
      c.askOperand tid = ({ c with fx := c.fx ++ out all } : Core).updTask tid (fun t => { t with asked := some (part.1, part.2, all.length) })) ∧
    (t.awaitsRandom = true → c0.halted = false → t.rndSizes ≠ [] →
      let d := c0.ent.inst t.cluster
      (c0.ent.run = true → d.lost = false → d.due = false → ∀ n, t.rndSizes = [n] →
        exec (.randomRequestServe tid false) s = .next (s.after ((({ s.dies with ent := { c0.ent with drbg := upd t.cluster (fun _ => (d.generate n).2) c0.ent.drbg } } : Core).updTask tid
          (·.landRandom (d.generate n).1)).tryRetire tid))) ∧
      (∀ b c1, s.dies.drawAll t.cluster t.rndSizes = .got b c1 → exec (.randomRequestServe tid false) s = .next (s.after ((c1.updTask tid (·.landRandom b)).tryRetire tid))) ∧
      (c0.ent.run = true → d.lost = true ∨ (d.due = true ∧ c0.ent.pools.getD 0 [] = [] ∧ c0.ent.pools.getD 1 [] = []) →
        exec (.randomRequestServe tid false) s = .next (s.after (s.dies.updTask tid (fun t => { t with waitSeed := true })))) ∧
      (c0.ent.run = false → ∀ b, exec (.randomRequestServe tid b) s = .next (s.after
        (({ s.dies with r := { c0.r with entRefused := min (c0.r.entRefused + 1) (2 ^ 16 - 1) } } : Core).endEarly tid Status.entropyUnavailable 0)))) ∧
    (∀ (c : Core) (cause a : Nat), c.cc.task tid = some t → t.awaitsSource = true → Table.wf c.cc.tasks = true →
      let d := c.sourceFail tid t cause a
      (∃ u, d.task tid = some u ∧ u.detail = 0x20 + cause ∧ u.status = Status.windowViolation ∧ u.res0 = some a ∧ (t.suspect = false → u.pieces = []) ∧
        (u.st = .ending ∨ u.st = .retired) ∧ (t.runningSteps = [] → c.eng.prefetched tid = [] → t.fenced = false → t.expand = [] → u.st = .retired)) ∧
      ((c.cc.cap t.slice).valid = false → (d.cc.cap t.slice).valid = true ∧ (d.cc.cap t.slice).access = 2 ∧ (d.cc.cap t.slice).cause = cause ∧
        (d.cc.cap t.slice).iova = a) ∧
      d.slc = c.slc ∧ d.ring = c.ring ∧ d.g = c.g ∧ d.flash = c.flash)

/-- R160's rank picks a step that no other ready step stands above, wherever every deadline ranks less than 2^46 ticks ahead of device time or at most 2^46 behind it and the sequence numbers span less than half their range; and however long a task has waited, its deadline ranks no further behind than that. The winner of a search is the entry of the longest prefix that matches, and among equals the one at the lowest position; a search finds nothing only where no entry matches. -/
def Obligations.BestIsPicked : Prop :=
  ((∀ (now : W48) (l : List Ready) (base : Nat),
     (∀ x ∈ l, ((x.deadline - now).toNat < 2 ^ 46 ∨ (now - x.deadline).toNat ≤ 2 ^ 46) ∧ x.seq < 2 ^ 48 ∧ (x.seq + 2 ^ 48 - base % 2 ^ 48) % 2 ^ 48 < 2 ^ 47) →
     (l = [] → topRanked l = none) ∧
     ∀ x ∈ l, ∃ b, topRanked l = some b ∧ b ∈ l ∧ ranksAbove x b = false) ∧
   (∀ (c : Core) (t : Task), t.deadline = BitVec.ofNat 48 t.due → t.due < c.clock + 2 ^ 46 →
     ((c.rankAt t - c.now).toNat < 2 ^ 46 ∨ (c.now - c.rankAt t).toNat ≤ 2 ^ 46) ∧ (c.clock ≤ t.due + 2 ^ 46 → c.rankAt t = t.deadline))) ∧
  (∀ (ns : List Nat) (rule : Nat) (tb : Table SvEntry),
     ((∀ e ∈ tb, e.2.fits ns rule = false) → svBest ns rule tb = none) ∧
     (∀ (i : Nat) (x : Nat × SvEntry), tb[i]? = some x → x.2.fits ns rule = true →
       (∀ (j : Nat) (y : Nat × SvEntry), tb[j]? = some y → y.2.fits ns rule = true → y.2.plen < x.2.plen ∨ (y.2.plen = x.2.plen ∧ i ≤ j)) → svBest ns rule tb = some x.2))

/-- Engines. An engine of classes 1 to 5 that is in service, not under test, with an empty prefetch slot takes the step the selector offers, and starts it at once if it is idle; a BULK segment that takes a generated IV draws it then. A step that completes leaves its engine, which starts the step in its prefetch slot: its result reaches trays, contexts, staging and flags, or ends the task early with the status and DETAIL of its outcome. A failed check of a step that had none, of a task that has ended too, takes the engine out of service; a second failure of the same step ends the task with INTERNAL and asks for the tests of the engine and of the task's tray memory, which start as R396 lets them. A step of a task that has ended leaves its engine and its result is dropped. An expansion that ends lets its resolution go on. Its conclusions say that these complete: PREFETCH_FILL, STEP_COMPLETE. The model's choices here: the tray-memory test that starts on slice 0 at once beside the running tests is log entry 57, and the values a crumb constructs are log entry 109. -/
def Obligations.EngineWork : Prop :=
  ∀ (s : State) (tid k cls n : Nat) (t : Task),
    (s.core.dispatching = true → 1 ≤ cls → cls ≤ 5 → (s.core.enginesUp cls).contains n = true → s.core.underTest cls n = false →
      (Table.findD (engKey cls n) {} s.core.eng.jobs).pre = none →
      (∀ r, s.core.offer cls n = some r →
        let c := s.dies.drawIv r.tid
        let e : Eng := { Table.findD (engKey cls n) {} s.core.eng.jobs with pre := some { tid := r.tid, step := r.step } }
        let eng : Engs := { c.eng with jobs := Table.put (engKey cls n) e c.eng.jobs }
        let goes := (c.task r.tid).any (fun t => decide (64 ≤ r.step) || t.ready r.step)
        (goes = true → exec (.prefetchFill cls n) s = .next (s.after (({ c with eng := eng.kick } : Core).updTask r.tid (·.issue r.step)))) ∧
        (goes = false → exec (.prefetchFill cls n) s = .next (s.after c)) ∧
        ((∀ u, s.core.task r.tid = some u → u.drawsIv = false) → c = s.dies)) ∧
      (s.core.offer cls n = none → exec (.prefetchFill cls n) s = .next (s.after s.dies))) ∧
    (s.core.task tid = some t → t.runningSteps.contains k = true → k < 64 → (t.st = .admitted ∨ t.st = .running) →
      let free : Core := { s.dies with eng := s.core.eng.finish tid k }
      (∀ r, Table.find k t.results = some r → t.opclass = clsRecipe →
        (earlyEnd (imgStep t.image k) k r.out = none →
          exec (.stepComplete tid k false) s = .next (s.after (((free.countStep k t r).updTask tid (fun t =>
            (({ (t.release r) with done := setFlag k t.done, results := Table.del k t.results } : Task).applyOutcome k r.out).skipAll)).tryRetire tid))) ∧
        (∀ st d, earlyEnd (imgStep t.image k) k r.out = some (st, d) →
          exec (.stepComplete tid k false) s = .next (s.after (((free.countStep k t r).updTask tid (fun t =>
            { (r.emit.foldl (fun t e => t.stagePieces e.1 e.2) { t with res0 := r.res0.or t.res0, res1 := r.res1.or t.res1 }) with
              done := setFlag k t.done, results := Table.del k t.results })).endEarly tid st d)))) ∧
      (s.core.eng.runner tid k = some (cls, n) → (cls = 1 ∨ cls = 2 ∨ cls = 3) → t.failed.testBit k = true →
        Completes (.stepComplete tid k true) s (fun c =>
          (let engine : Crumb := { kind := cls, target := n, slice := 0, spare := false }
           let trays : Crumb := { kind := 8, target := t.cluster, slice := 0, spare := false }
           (s.core.crumbMode = false ∨ 2 ≤ s.core.cont.crumbs.length → c.cont.crumbs = s.core.cont.crumbs ∧ c.cont.crumbDue = s.core.cont.crumbDue ++ [engine, trays]) ∧
           (s.core.crumbMode = true → s.core.cont.crumbs.length < 2 → s.core.cont.crumbAt = none → s.core.cont.crumbDue = [] →
             c.cont.crumbs = s.core.cont.crumbs ++ [engine] ∧ c.cont.crumbDue = [trays] ∧ c.cont.crumbAt = some s.core.now)) ∧
          c.eng.bad = s.core.eng.bad ∧ (∃ u, c.task tid = some u ∧ (u.st = .ending ∨ u.st = .retired) ∧ u.status = Status.internal ∧ u.detail = (if cls = 3 then 2 else 1))))) ∧
    (s.core.task tid = some t → t.runningSteps.contains k = true → k < 64 → (t.st = .aborting → t.stepClass k ≠ some 3) →
      s.core.eng.runner tid k = some (cls, n) → (cls = 1 ∨ cls = 2 ∨ cls = 3) → t.failed.testBit k = false →
      Completes (.stepComplete tid k true) s (fun c =>
        c.eng.isBad cls n = true ∧
        (cls = 3 → c.r.pkeCheckCount = min (s.core.r.pkeCheckCount + 1) (2 ^ 32 - 1) ∧ c.r.pkeCheckCore = n ∧ c.r.pkeCheckSecond = s.core.r.pkeCheckSecond) ∧
        (cls ≠ 3 → c.r.symCheckCount = min (s.core.r.symCheckCount + 1) (2 ^ 32 - 1) ∧ c.r.symCheckLane = (if cls = 2 then 0x80 + n else n) ∧
          c.r.symCheckSecond = s.core.r.symCheckSecond) ∧ c.g = s.core.g ∧ c.slc = s.core.slc ∧ c.cc.rings = s.core.cc.rings)) ∧
    (s.core.task tid = some t → t.runningSteps.contains k = true → k < 64 → t.st = .ending →
      exec (.stepComplete tid k false) s = .next (s.after ((({ s.dies with eng := s.core.eng.finish tid k } : Core).updTask tid
        (fun t => { t with done := setFlag k t.done, results := Table.del k t.results })).tryRetire tid))) ∧
    (s.core.task tid = some t → 64 ≤ k → s.core.eng.runner tid k = some (cls, n) → (t.st = .admitted ∨ t.st = .running) →
      exec (.stepComplete tid k false) s = .next (s.after (({ s.dies with eng := s.core.eng.finish tid k } : Core).updTask tid
        (fun t => { t with expand := t.expand.map (fun e => if e.1 + 64 = k then (e.1, e.2.1, 2) else e) }))))

/-- What a task's end fixes: a task that retires stands in RETIRED with the time and the epoch of it, its record, trays, work area, keys and results gone, its status late where its deadline has passed; the order of retirement is counted, and no ring position, register or mode changes. The completion entry holds tag, status, DETAIL and phase, the device time and lateness, and the two result words. -/
def Obligations.RetirementFixes : Prop :=
  (∀ (c : Core) (tid : Nat) (t : Task), c.task tid = some t → t.st ≠ .retired → t.strictFail = none → Table.wf c.cc.tasks = true →
    let d := c.retire tid
    (∃ u, d.task tid = some u ∧ u.st = .retired ∧ u.retireTime = c.now ∧ u.retireNo = c.cc.retireNo ∧ u.hasRecord = false ∧
      u.trays = [] ∧ u.work = [] ∧ u.plain = [] ∧ u.rnd = [] ∧ u.draws = [] ∧ u.ctxs = [] ∧ u.results = [] ∧ u.runningSteps = [] ∧ u.lateFlag = later c.now t.deadline ∧ u.detail = t.detail ∧
      u.status = (if later c.now t.deadline && t.status == Status.ok then Status.okLate else t.status) ∧
      (u.staged = none ↔ (t.strict = true ∧ u.pieces ≠ [])) ∧ (u.staged ≠ none → u.staged = some c.cc.epoch)) ∧
    d.cc.retireNo = c.cc.retireNo + 1 ∧ d.cc.rings = c.cc.rings ∧ d.cc.seq = c.cc.seq ∧ d.g = c.g ∧ d.ports = c.ports ∧ d.slc = c.slc ∧ d.ring = c.ring ∧
    d.flash = c.flash ∧ d.r.late = (if later c.now t.deadline then min (c.r.late + 1) (2 ^ 48 - 1) else c.r.late)) ∧
  (∀ (t : Task) (phase : Bool), t.status < 256 → t.detail < 2 ^ 16 → t.res0.getD 0 < 2 ^ 64 → t.res1.getD 0 < 2 ^ 64 → t.zeroed < 2 ^ 64 →
    let e := t.completion phase
    e.length = 32 ∧ leNat (cut 0 4 e) = t.tag ∧ leNat (cut 4 1 e) = t.status ∧ leNat (cut 5 2 e) = t.detail ∧
    (leNat (cut 7 1 e)) = (if phase then 128 else 0) ∧ leNat (cut 8 6 e) = t.retireTime.toNat ∧ leNat (cut 14 2 e) = (if t.lateFlag then 1 else 0) ∧
    leNat (cut 16 8 e) = t.res0.getD 0 ∧ leNat (cut 24 8 e) = (if t.status = Status.aborted then t.zeroed else t.res1.getD 0))

/-- What leaves the block. The first piece of the task whose turn it is on its port is written, in requests of the programmed size and with the slice's PASID, where its check passes, and captured or noted and its transfer stopped where it does not. The first staged completion of the ring pair whose turn it is, its epoch glazed, its destination writes gone and the ring not full, is written at the write position with its phase, which turns at slot 0; the position moves on, and slot and quota unit return; on a ring pair that is closed it is discarded and counted; otherwise it waits. A completion that notifies hands the message of its ring pair to the mover of the port once COAL_COUNT of them stand, and the coalescing time ends with the message an armed ring pair owes. Its conclusions say that these complete: DESTINATION_PIECE_WRITE, COMPLETION_WRITE, COAL_TIME_EXPIRE. The model's choices here: a handed-over message that disarms the ring pair and resets its count is log entry 41. -/
def Obligations.WritesLeave : Prop :=
  ∀ (s : State) (tid : Nat) (t : Task), s.core.leaseHeld = true → Table.wf s.core.cc.tasks = true →
    let c0 := s.core
    let x := c0.slice t.slice
    (∀ p rest refused, c0.task tid = some t → t.pieces = p :: rest → c0.pieceTurn t.port = some tid → (c0.port t.port).ats = false →
      (x.cause p.iova 1 4 true = 0 → Completes (.destinationPieceWrite tid refused) s (fun c =>
        c.fx = (requests (c0.port t.port).maxPayload p.iova p.data.length).map (fun q =>
          .out (.write t.port x.pasid q.1 (cut (q.1 - p.iova) q.2 p.data) (c0.port t.port).relaxed)) ∧
        c.cc.caps = c0.cc.caps ∧ c.cc.rings = c0.cc.rings ∧ c.ports = c0.ports ∧ c.g = c0.g ∧ (∀ m, m ≠ tid → c.task m = c0.task m) ∧
        ∃ u, c.task tid = some u ∧ u.pieces = rest ∧ u.issued = (if p.zero then t.issued else t.issued + p.data.length) ∧
          u.zeroed = (if p.zero then t.zeroed + p.data.length else t.zeroed) ∧ u.st = t.st ∧
          (t.st = .retired → rest = [] → u.credits = 0 ∧ u.staged.isSome = true))) ∧
      (x.cause p.iova 1 4 true ≠ 0 → Completes (.destinationPieceWrite tid refused) s (fun c =>
        c.fx = [] ∧ c.cc.rings = c0.cc.rings ∧ (∀ m, m ≠ tid → c.task m = c0.task m) ∧
        (t.strict = true → (c0.cc.cap t.slice).valid = false → (c.cc.cap t.slice).valid = true ∧ (c.cc.cap t.slice).access = 3 ∧
          (c.cc.cap t.slice).cause = x.cause p.iova 1 4 true ∧ (c.cc.cap t.slice).iova = p.iova ∧ (c.cc.cap t.slice).nValid = (c0.cc.cap t.slice).nValid) ∧
        (t.strict = false → (c0.cc.cap t.slice).nValid = false → (c.cc.cap t.slice).nValid = true ∧ (c.cc.cap t.slice).nCount = 1 ∧
          (c.cc.cap t.slice).nPage = p.iova / 4096 * 4096 ∧ (c.cc.cap t.slice).valid = (c0.cc.cap t.slice).valid) ∧
        ∃ u, c.task tid = some u ∧ u.issued = t.issued ∧ (∀ q ∈ u.pieces, q ∈ t.pieces ∧ q.xfer ≠ p.xfer) ∧ (∀ q ∈ t.pieces, q.xfer ≠ p.xfer → q ∈ u.pieces)))) ∧
    (∀ p rest refused, c0.task tid = some t → t.pieces = p :: rest → c0.pieceTurn t.port = some tid → (c0.port t.port).ats = true →
      (c0.port t.port).translations.contains (x.pasid, p.iova / 4096) = false → x.cause p.iova 1 4 true = 0 →
      (refused.contains (p.iova / 4096) = true → Completes (.destinationPieceWrite tid refused) s (fun c =>
        c.fx = [.out (.translate t.port x.pasid (p.iova / 4096))] ∧ (∀ m, m ≠ tid → c.task m = c0.task m) ∧
        (t.strict = true → (c0.cc.cap t.slice).valid = false → (c.cc.cap t.slice).valid = true ∧ (c.cc.cap t.slice).access = 3 ∧ (c.cc.cap t.slice).cause = 4 ∧
          (c.cc.cap t.slice).iova = p.iova) ∧
        ∃ u, c.task tid = some u ∧ u.issued = t.issued ∧ (∀ q ∈ u.pieces, q ∈ t.pieces ∧ q.xfer ≠ p.xfer))) ∧
      (refused.contains (p.iova / 4096) = false → Completes (.destinationPieceWrite tid refused) s (fun c =>
        c.fx = Fx.out (.translate t.port x.pasid (p.iova / 4096)) :: (requests (c0.port t.port).maxPayload p.iova p.data.length).map (fun q =>
          .out (.write t.port x.pasid q.1 (cut (q.1 - p.iova) q.2 p.data) (c0.port t.port).relaxed)) ∧ c.cc.caps = c0.cc.caps ∧
        ∃ u, c.task tid = some u ∧ u.pieces = rest))) ∧
    (c0.task tid = some t → c0.pieceTurn t.port ≠ some tid → ∀ refused, exec (.destinationPieceWrite tid refused) s = .next (s.after s.dies)) ∧
    (∀ port l r rest refused, c0.ringNo port l = some r → c0.cc.stagedOf port r = (tid, t) :: rest → Table.wf c0.cc.rings = true → Table.wf c0.ring = true →
      let g := c0.ringOf r
      let p := c0.cc.pos r
      let a := (g.cq + 32 * p.w) % 2 ^ 64
      (c0.ringClosed port r = true → exec (.completionWrite port l refused) s = .next (s.after (s.dies.updCC (·.discard tid)))) ∧
      (c0.ringClosed port r = false → c0.completionTurn port ≠ some r → exec (.completionWrite port l refused) s = .next (s.after s.dies)) ∧
      (c0.completionTurn port = some r → c0.ringClosed port r = false) ∧
      (c0.completionTurn port = some r → (c0.port port).ats = true → (c0.port port).translations.contains (x.pasid, a / 4096) = false → x.cause a 1 2 true = 0 →
        (refused = true → Completes (.completionWrite port l refused) s (fun c =>
          c.fx = [.out (.translate port x.pasid (a / 4096))] ∧ (c.cc.pos r).w = p.w ∧ (c.ringOf r).enable = false ∧ (c.cc.pos r).discarded ≥ min (p.discarded + 1) (2 ^ 24 - 1))) ∧
        (refused = false → Completes (.completionWrite port l refused) s (fun c =>
          c.fx = [.out (.translate port x.pasid (a / 4096)), .out (.write port x.pasid a (t.completion p.phase) false)] ∧ (c.cc.pos r).w = (p.w + 1) % g.n ∧ c.task tid = none))) ∧
      (c0.cont.glazed < t.staged.getD 0 ∨ t.pieces ≠ [] ∨ c0.linkTakes port = false ∨ g.n ≤ c0.unreleased r + 1 → c0.completionTurn port ≠ some r) ∧
      (c0.completionTurn port = some r → (c0.port port).ats = false → x.cause a 1 2 true = 0 → Completes (.completionWrite port l refused) s (fun c =>
          c.fx = [.out (.write port x.pasid a (t.completion p.phase) false)] ∧ (c.cc.pos r).w = (p.w + 1) % g.n ∧
          (c.cc.pos r).phase = (if (p.w + 1) % g.n = 0 then !p.phase else p.phase) ∧ (c.cc.pos r).t = p.t ∧ (c.cc.pos r).f = p.f ∧ (c.cc.pos r).c = p.c ∧
          (∀ m, m ≠ r → c.cc.pos m = c0.cc.pos m) ∧ c.task tid = none ∧ (∀ m, m ≠ tid → c.task m = c0.task m) ∧
          (t.notify = true → g.armedAt = none → g.coalCount ≤ 1 →
            c.ports = (if g.msgEn then upd port (fun p => { p with msgs := p.msgs ++ [{ ring := r, addr := g.msgAddr, data := g.msgData, deadline := t.deadline, seq := t.seq }] }) c0.ports else c0.ports) ∧
            (c.ringOf r).armedAt = none ∧ (c.ringOf r).since = 0) ∧
          (t.notify = true → g.armedAt = none → g.since + 1 < g.coalCount →
            c.ports = c0.ports ∧ (c.ringOf r).armedAt = some c0.now ∧ (c.ringOf r).since = g.since + 1) ∧
          (t.notify = false → g.armedAt = none → c.ports = c0.ports ∧ (c.ringOf r).armedAt = none ∧ (c.ringOf r).since = g.since + 1))) ∧
      (c0.completionTurn port = some r → (c0.port port).ats = false → x.cause a 1 2 true ≠ 0 → Completes (.completionWrite port l refused) s (fun c =>
          c.fx = [] ∧ (c.cc.pos r).w = p.w ∧ (c.ringOf r).enable = false ∧ (c.cc.pos r).discarded ≥ min (p.discarded + 1) (2 ^ 24 - 1)))) ∧
    (∀ port l r t0, c0.ringNo port l = some r → (c0.ringOf r).armedAt = some t0 → (c0.ringOf r).coalTime ≠ 0 → c0.linkTakes port = true →
      exec (.coalTimeExpire port l) s = .next (s.after
        (((s.dies.moveTo (t0 + BitVec.ofNat 48 (100 * (c0.ringOf r).coalTime))).ringMessage port r).updRing r (fun g => { g with armedAt := none, since := 0 }))))

/-- The end of an abort, and the class enables. A task taken by an abort waits for its running steps outside the big-number cores; then the cores that run its steps are zeroed and take their next, and it ends with ABORTED and the cause, its trays and work area gone, zeros over every range it had staged; on a reset port it leaves flight at once and is counted. A class that can be disabled takes ENABLE and ABORT as written, and a disable of the big-number class with ABORT takes every task that has a big-number step left; a class that cannot refuses the write. Its conclusions say that these complete: DSP_CLASS_DISABLE, DSP_CLASS_ENABLE, ABORT_ZEROING_END. The model's choices here: ABORT of DSP_CLASS taking the value of the same write before the disable acts is log entry 20. -/
def Obligations.AbortAndClassEnables : Prop :=
  ∀ (s : State) (tid : Nat) (t : Task) (v : W64),
    (s.core.task tid = some t → t.st = .aborting → s.core.eng.runsElse tid = false →
      let free : Core := { s.dies with eng := s.core.eng.freeCores tid }
      (∀ e ∈ free.eng.jobs, e.1 / 256 = 3 → (∀ j, e.2.run = some j → (Table.findD e.1 {} s.core.eng.jobs).run = some j → Table.wf s.core.eng.jobs = true → j.tid ≠ tid)) ∧
      (t.gone = false → exec (.abortZeroingEnd tid) s = .next (s.after ((free.updTask tid (fun t => { t with
        st := .ending, status := Status.aborted, detail := t.abortCause, res0 := some 0, res1 := some 0, done := t.disp
        trays := [], work := [], rnd := [], draws := [], plain := [], results := [], expand := [], pieces := t.pieces ++ (t.cover.map t.zeroRun).flatten })).tryRetire tid))) ∧
      (t.gone = true → exec (.abortZeroingEnd tid) s = .next (s.after
        (({ free with ports := upd t.port (fun p => { p with discarded := min (p.discarded + 1) (2 ^ 32 - 1) }) s.core.ports } : Core).updCC (·.leave tid))))) ∧
    (s.core.task tid = some t → s.core.eng.runsElse tid = true → exec (.abortZeroingEnd tid) s = .next (s.after s.dies)) ∧
    (s.manages → ∀ k, k < 8 →
      let o := 0x0C0000 + 8 * k
      let put (b : Bool) (c : Core) : Core := { c with r := { s.core.r with clsOn := upd k (fun _ => b) s.core.r.clsOn, clsAbort := upd k (fun _ => v.toNat.testBit 1) s.core.r.clsAbort } }
      let on := s.noted 0 0 o (v ||| 1).toNat
      let off := s.noted 0 0 o (v &&& ~~~(1 : W64)).toNat
      (classSwitch s.core.g.variant k = true →
        exec (.dspClassEnable 0 k v) s = .next (s.after (put true on)) ∧
        exec (.dspClassDisable 0 k v) s = .next (s.after (if v.toNat.testBit 1 && k == 3 then (put false off).abort (fun _ => true) 5 else put false off))) ∧
      (classSwitch s.core.g.variant k = false →
        exec (.dspClassEnable 0 k v) s = .next (s.after (on.refuseWrite 0 0 o)) ∧ exec (.dspClassDisable 0 k v) s = .next (s.after (off.refuseWrite 0 0 o)))) ∧
    (∀ (c : Core) (p : Task → Bool) (cause : Nat), let d := c.abort p cause
      (∀ n u, c.task n = some u → d.task n = some (if p u && u.hasBn then { u with st := .aborting, abortCause := cause } else u)) ∧
      (∀ n u, c.task n = some u → (p u && u.hasBn) = true → d.eng.prefetched n = []) ∧ d.eng.jobs.map (fun x => (x.1, x.2.run)) = c.eng.jobs.map (fun x => (x.1, x.2.run)) ∧
      d.r.pkeAborts = min (c.r.pkeAborts + (c.cc.tasks.filter (fun e => p e.2 && e.2.hasBn)).length) (2 ^ 24 - 1) ∧
      d.cc.rings = c.cc.rings ∧ d.slc = c.slc ∧ d.ring = c.ring ∧ d.ports = c.ports ∧ d.g = c.g ∧ d.fx = c.fx)

/-! ### Steps of recipes, and the operations PK_DIRECT and BULK -/

/-- What the steps that move and convert tray bytes compute, each for a step of its own opcode that is at work: the result waits for the step's completion, and nothing else of the dies changes. Its conclusions say that these complete: MOVE, XOR, FILL, COMPARE, PACK, UNPACK, DECIMALIZE, HASH, EMIT. The model's choices here: UNPACK of a nibble above 9 ending in DIGIT_INVALID is log entry 59. -/
def Obligations.TraySteps : Prop :=
  ∀ (s : State) (tid k op : Nat) (t : Task) (st : RStep), s.core.StepAt tid k op t st →
    let does (i : Instr) (r : StepRes) : Prop := exec i s = .next (s.after (s.dies.computed tid k r))
    let out (v : Bytes) : StepRes := { writes := [(st.d, v)] }
    let a := t.rd st.a st.len
    let b := t.rd st.b st.len
    let h := t.rd st.a ((st.len + 1) / 2)
    let table := t.rd st.b 16
    (op = 0x01 → does (.move tid k) (out a)) ∧
    (op = 0x02 → ∃ v, does (.xor tid k) (out v) ∧ v.length = st.len ∧ ∀ i, i < st.len → v.getD i 0 = a.getD i 0 ^^^ b.getD i 0) ∧
    (op = 0x03 → does (.fill tid k) (out (List.replicate st.len (BitVec.ofNat 8 st.arg)))) ∧
    (op = 0x04 → does (.compare tid k) { out := if a = b then .yes else .no }) ∧
    (op = 0x05 → (∀ x ∈ a, 0x30 ≤ x.toNat ∧ x.toNat ≤ 0x39) → ∃ v, does (.pack tid k) (out v) ∧ v.length = (st.len + 1) / 2 ∧
      (∀ i, i < st.len → nib i v = (a.getD i 0).toNat - 0x30) ∧ (st.len % 2 = 1 → nib st.len v = if st.arg.testBit 0 then 15 else 0)) ∧
    (op = 0x05 → (∃ x ∈ a, x.toNat < 0x30 ∨ 0x39 < x.toNat) → does (.pack tid k) { out := .sub 3 }) ∧
    (op = 0x06 → (∀ i, i < st.len → nib i h ≤ 9) → ∃ v, does (.unpack tid k) (out v) ∧ v.length = st.len ∧
      ∀ i, i < st.len → (v.getD i 0).toNat = 0x30 + nib i h) ∧
    (op = 0x06 → (∃ i, i < st.len ∧ 9 < nib i h) → does (.unpack tid k) { out := .sub 3 }) ∧
    (op = 0x07 → (∀ x ∈ table, x.toNat ≤ 9) → ∃ v, does (.decimalize tid k) (out v) ∧ v.length = (st.len + 1) / 2 ∧
      ∀ i, i < st.len → nib i v = (table.getD (nib i h) 0).toNat) ∧
    (op = 0x07 → (∃ x ∈ table, 9 < x.toNat) → does (.decimalize tid k) { out := .sub 3 }) ∧
    (op = 0x50 → does (.hash tid k) (out (hashOf (st.arg % 4) (t.rd st.a (t.opLen st))))) ∧
    (op = 0x90 → does (.emit tid k) { emit := [(st.arg, t.rd st.a (t.opLen st))] })

/-- What the steps under keys compute, each for a step of its own opcode that is at work. Under a key of the usage and algorithm it takes and on operands that keep their formats each completes with its data, its verdict or its derived key. In every case its result is the data, the verdict or the key that the computation of its rule gives, or that computation's failure. The padding of a key block is drawn when its step runs, and a draw that has to wait is recorded with the task. A key selector that names nothing ends each with KEY_NOT_FOUND, and a key of the wrong usage class with KEY_USE_DENIED. Its conclusions say that these complete: ENCRYPT, DECRYPT, MAC_GEN, MAC_VERIFY, KCV, PIN_TRANSLATE, PIN_DECRYPT, PIN_ENCRYPT, PIN_VERIFY_OFFSET, PIN_VERIFY_PVV, PIN_OFFSET_GEN, PVV_GEN, CVV_GEN, CVV_VERIFY, DUKPT_TDEA_DERIVE, DUKPT_AES_DERIVE, EMV_MK_DERIVE, EMV_SK_DERIVE, ARQC_VERIFY, ARPC_GEN, KEYBLOCK_WRAP, KEYBLOCK_UNWRAP, HMAC, KDF. The model's choices here: CVV_VERIFY comparing three digits at B is log entry 59, and KCV refusing BRANCH and ROOT keys is log entry 38. -/
def Obligations.KeyedSteps : Prop :=
  ∀ (s : State) (tid k op : Nat) (t : Task) (st : RStep), s.core.StepAt tid k op t st →
    let does (i : Instr) (r : StepRes) : Prop := exec i s = .next (s.after (s.dies.computed tid k r))
    let a := t.rd st.a (t.opLen st)
    let arg (hi lo : Nat) : Nat := st.arg / 2 ^ lo % 2 ^ (hi + 1 - lo)
    let data (i : Instr) (f : SR Bytes) : Prop := (∀ v, f = .ok v → does i { writes := [(st.d, v)] }) ∧ (∀ o, f = .error o → does i { out := o })
    let test (i : Instr) (f : SR Bool) : Prop := (∀ v, f = .ok v → does i { out := if v then .yes else .no }) ∧ (∀ o, f = .error o → does i { out := o })
    let newKey (usage alg : Nat) (exportable : Bool) (key : Bytes) : StepRes :=
      { writes := [(st.d, key)]
        ctx := some (0x10 + st.d / 32, { usage := usage, alg := alg, bitLen := 8 * key.length, attrs := if exportable then 1 else 0, key := key }) }
    let derives (i : Instr) (alg : Nat) (f : SR (Nat × Bytes)) : Prop := (∀ u v, f = .ok (u, v) → does i (newKey u alg false v)) ∧ (∀ o, f = .error o → does i { out := o })
    let one : List (Nat × Instr) := [(0x20, .encrypt tid k), (0x21, .decrypt tid k), (0x22, .macGen tid k), (0x23, .macVerify tid k), (0x24, .kcv tid k),
      (0x30, .pinTranslate tid k), (0x31, .pinDecrypt tid k), (0x32, .pinEncrypt tid k), (0x33, .pinVerifyOffset tid k), (0x34, .pinVerifyPvv tid k),
      (0x35, .pinOffsetGen tid k), (0x36, .pvvGen tid k), (0x38, .cvvGen tid k), (0x39, .cvvVerify tid k), (0x3A, .dukptTdeaDerive tid k),
      (0x3B, .dukptAesDerive tid k), (0x3C, .emvMkDerive tid k), (0x3D, .emvSkDerive tid k), (0x3E, .arqcVerify tid k), (0x3F, .arpcGen tid k),
      (0x40, .keyblockWrap tid k), (0x41, .keyblockUnwrap tid k), (0x51, .hmac tid k), (0x52, .kdf tid k)]
    let two : List (Nat × Instr) := [(0x30, .pinTranslate tid k), (0x33, .pinVerifyOffset tid k), (0x34, .pinVerifyPvv tid k), (0x35, .pinOffsetGen tid k),
      (0x36, .pvvGen tid k), (0x40, .keyblockWrap tid k)]
    let usage : List (Nat × Nat × Instr) := [(0x20, 1, .encrypt tid k), (0x21, 1, .decrypt tid k), (0x22, 2, .macGen tid k), (0x23, 2, .macVerify tid k),
      (0x31, 3, .pinDecrypt tid k), (0x32, 3, .pinEncrypt tid k), (0x38, 5, .cvvGen tid k), (0x39, 5, .cvvVerify tid k), (0x3A, 6, .dukptTdeaDerive tid k),
      (0x3B, 6, .dukptAesDerive tid k), (0x3C, 7, .emvMkDerive tid k), (0x3D, 0x20, .emvSkDerive tid k), (0x3E, 0x21, .arqcVerify tid k),
      (0x41, 8, .keyblockUnwrap tid k), (0x51, 2, .hmac tid k), (0x52, 9, .kdf tid k)]
    let gives (i : Instr) : Prop := ∃ v, does i { writes := [(st.d, v)] }
    let tests (i : Instr) : Prop := does i { out := .yes } ∨ does i { out := .no }
    let derived (i : Instr) : Prop := ∃ u al v, does i (newKey u al false v)
    let reads {α : Type} (f : SR α) : Prop := ∃ v, f = .ok v
    (∀ x, t.ksel st.ksel = some x →
      let block := t.rd st.a (pinBlockLen (arg 3 0))
      let card := t.rd st.a 16
      let vrec := t.rd st.b 32
      let table := cut 48 16 (imgConst t.image)
      let cardOk : Prop := x.usage = 5 ∧ x.alg = 0 ∧ reads (panDigits (cut 0 10 card)) ∧ reads (digitsOf 4 (cut 10 2 card)) ∧ (arg 3 0 = 0 → reads (digitsOf 3 (cut 12 2 card)))
      (op = 0x31 → x.usage = 3 → x.alg ∈ pinAlgs (arg 3 0) → reads (pinOfBlock x (arg 3 0) block (t.rd st.b 10)) → gives (.pinDecrypt tid k)) ∧
      (op = 0x32 → x.usage = 3 → x.alg ∈ pinAlgs (arg 7 4) → reads (pinOfRecord (t.rd st.a 16)) → reads (panFor [arg 7 4] (t.rd st.b 10)) → gives (.pinEncrypt tid k)) ∧
      (op = 0x38 → cardOk → gives (.cvvGen tid k)) ∧
      (op = 0x39 → cardOk → reads (digitsOf 3 (t.rd st.b 2)) → tests (.cvvVerify tid k)) ∧
      (op = 0x3A → x.usage = 6 → x.alg = 0 → (let n := beNat (t.rd st.a 10) % 2 ^ 21; n ≠ 0 ∧ (setBits 21 n).length ≤ 10) → derived (.dukptTdeaDerive tid k)) ∧
      (op = 0x3B → x.usage = 6 → 2 ≤ x.alg → x.alg ≤ 4 → (let n := beNat (cut 8 4 (t.rd st.a 12)); n ≠ 0 ∧ (setBits 32 n).length ≤ 16) → algBits (arg 7 4) ≤ algBits x.alg →
        derived (.dukptAesDerive tid k)) ∧
      (op = 0x3C → x.usage = 7 → x.alg ∈ [0, 2, 3, 4] → reads (panDigits (t.rd st.a 10)) → reads (digitsOf 2 (t.rd st.b 1)) → derived (.emvMkDerive tid k)) ∧
      (op = 0x3D → x.usage = 0x20 → derived (.emvSkDerive tid k)) ∧
      (op = 0x3E → x.usage = 0x21 → (x.alg ≤ 1 ∨ arg 1 0 = 0) → tests (.arqcVerify tid k)) ∧
      (op = 0x3F → (x.usage = 0x20 ∨ x.usage = 0x21) → gives (.arpcGen tid k)) ∧
      (∀ y, t.ksel st.ksel2 = some y →
        let verKeys : Prop := x.usage = 3 ∧ y.usage = 4 ∧ x.alg ∈ pinAlgs (arg 3 0) ∧ y.alg ≤ 1 ∧ reads (panDigits (cut 0 10 vrec)) ∧ reads (pinOfBlock x (arg 3 0) block (cut 0 10 vrec))
        let l := byteAt 10 vrec
        let offset : Prop := 4 ≤ l ∧ l ≤ 12 ∧ ∀ b ∈ table.take 16, b.toNat ≤ 9
        (op = 0x30 → x.usage = 3 → y.usage = 3 → x.alg ∈ pinAlgs (arg 3 0) → y.alg ∈ pinAlgs (arg 7 4) → (∀ ds, panFor [arg 3 0, arg 7 4] (t.rd st.b 10) = .ok ds →
          reads (pinOfField (arg 3 0) (pinDecipher (CKey.of x.alg x.key) (arg 3 0) block (panField (arg 3 0) ds))) → gives (.pinTranslate tid k))) ∧
        (op = 0x33 → verKeys → offset → reads (digitsOf l (cut 20 6 vrec)) → tests (.pinVerifyOffset tid k)) ∧
        (op = 0x34 → verKeys → l ≤ 9 → reads (digitsOf 4 (cut 12 2 vrec)) → tests (.pinVerifyPvv tid k)) ∧
        (op = 0x35 → verKeys → offset → (∀ p, pinOfBlock x (arg 3 0) block (cut 0 10 vrec) = .ok p → l ≤ p.length) → gives (.pinOffsetGen tid k)) ∧
        (op = 0x36 → verKeys → l ≤ 9 → gives (.pvvGen tid k)))) ∧
    (∀ e ∈ one, op = e.1 → t.ksel st.ksel = none → does e.2 { out := .fail Status.keyNotFound }) ∧
    (∀ e ∈ two, op = e.1 → t.ksel st.ksel2 = none → does e.2 { out := .fail Status.keyNotFound }) ∧
    (∀ x, t.ksel st.ksel = some x →
      let mac := (macOf x.alg x.key (arg 2 0) (arg 4 3) a).take (arg 9 5)
      let cipher (encrypt : Bool) : Bytes :=
        (cipherMode (CKey.of x.alg x.key) (arg 3 0) encrypt (if st.arg.testBit 4 then t.rd st.b (blockBytes x.alg) else zeros (blockBytes x.alg)) a).1
      (∀ e ∈ usage, op = e.1 → x.usage ≠ e.2.1 → does e.2.2 { out := .fail Status.keyUseDenied }) ∧
      (x.usage = 1 → (arg 3 0 ≤ 1 → a.length % blockBytes x.alg = 0) →
        (op = 0x20 → does (.encrypt tid k) { writes := [(st.d, cipher true)] }) ∧ (op = 0x21 → does (.decrypt tid k) { writes := [(st.d, cipher false)] })) ∧
      (x.usage = 1 → arg 3 0 ≤ 1 → a.length % blockBytes x.alg ≠ 0 →
        (op = 0x20 → does (.encrypt tid k) { out := .sub 7 }) ∧ (op = 0x21 → does (.decrypt tid k) { out := .sub 7 })) ∧
      (x.usage = 2 → (if arg 2 0 = 3 then x.alg = 0 else x.alg ≤ 4) → arg 9 5 ≤ blockBytes x.alg →
        (op = 0x22 → does (.macGen tid k) { writes := [(st.d, mac)] }) ∧
        (op = 0x23 → does (.macVerify tid k) { out := if mac = t.rd st.b mac.length then .yes else .no })) ∧
      ((x.usage = 0x0A ∨ x.usage = 0x0B) → op = 0x24 → does (.kcv tid k) { out := .fail Status.keyUseDenied }) ∧
      (x.usage ≠ 0x0A → x.usage ≠ 0x0B → x.alg ≤ 5 → op = 0x24 → does (.kcv tid k) { writes := [(st.d, kcvOf x.alg x.key)] }) ∧
      (op = 0x31 → data (.pinDecrypt tid k) (pinDecrypt x (arg 3 0) (t.rd st.a (pinBlockLen (arg 3 0))) (t.rd st.b 10))) ∧
      (op = 0x32 → data (.pinEncrypt tid k) (pinEncrypt x (arg 7 4) (t.rd st.a 16) (t.rd st.b 10) (t.fillOf st))) ∧
      (op = 0x38 → data (.cvvGen tid k) (cvvOf x (arg 3 0) (t.rd st.a 16))) ∧
      (op = 0x39 → ∀ v r, cvvOf x (arg 3 0) (t.rd st.a 16) = .ok v → digitsOf 3 (t.rd st.b 2) = .ok r →
        does (.cvvVerify tid k) { out := if nibs 3 v = r then .yes else .no }) ∧
      (op = 0x3A → derives (.dukptTdeaDerive tid k) 0 (dukptTdea x (arg 2 0) (t.rd st.a 10))) ∧
      (op = 0x3B → derives (.dukptAesDerive tid k) (arg 7 4) (dukptAes x (arg 3 0) (arg 7 4) (t.rd st.a 12))) ∧
      (op = 0x3C → derives (.emvMkDerive tid k) x.alg ((emvMk x (st.arg.testBit 0) (t.rd st.a 10) (t.rd st.b 1)).map (fun v => (0x20, v)))) ∧
      (op = 0x3D → derives (.emvSkDerive tid k) x.alg ((emvSk x (arg 1 0) (t.rd st.a 2) (t.rd st.b 4)).map (fun v => (0x21, v)))) ∧
      (op = 0x3E → test (.arqcVerify tid k) (arqcVerify x (arg 1 0) a (t.rd st.b 8))) ∧
      (op = 0x3F → data (.arpcGen tid k) (arpcOf x (arg 0 0) (t.rd st.a 8) (t.rd st.b 2) (t.rd st.b 4))) ∧
      (op = 0x41 → ∀ u al e v, kbUnwrap x (t.rd st.a st.len) st.len (some (arg 7 0)) = .ok (u, al, e, v) → does (.keyblockUnwrap tid k) (newKey u al e v)) ∧
      (op = 0x41 → ∀ o, kbUnwrap x (t.rd st.a st.len) st.len (some (arg 7 0)) = .error o → does (.keyblockUnwrap tid k) { out := o }) ∧
      (op = 0x51 → x.usage = 2 → 2 ≤ x.alg → x.alg ≤ 5 → does (.hmac tid k) { writes := [(st.d, (hmacOf (arg 1 0) x.key a).take (arg 10 4))] }) ∧
      (op = 0x52 → x.usage = 9 → (x.alg = 4 ∨ x.alg = 5) →
        let v := kdf108 x.key (t.rd st.a st.len) (arg 7 4) (arg 3 0) (algBits (arg 3 0))
        does (.kdf tid k) (newKey (arg 7 4) (arg 3 0) false (if arg 3 0 ≤ 1 then oddParity v else v))) ∧
      (∀ y, t.ksel st.ksel2 = some y →
        (op = 0x30 → data (.pinTranslate tid k) (pinTranslate x y (arg 3 0) (arg 7 4) (t.rd st.a (pinBlockLen (arg 3 0))) (t.rd st.b 10) (t.fillOf st))) ∧
        (op = 0x33 → test (.pinVerifyOffset tid k) (pinVerifyOffset x y (arg 3 0) (t.rd st.a (pinBlockLen (arg 3 0))) (t.rd st.b 32) (cut 48 16 (imgConst t.image)))) ∧
        (op = 0x34 → test (.pinVerifyPvv tid k) ((pvvMethod x y (arg 3 0) (t.rd st.a (pinBlockLen (arg 3 0))) (t.rd st.b 32) true).map (fun v => decide (v.1 = v.2)))) ∧
        (op = 0x35 → data (.pinOffsetGen tid k) (pinOffsetGen x y (arg 3 0) (t.rd st.a (pinBlockLen (arg 3 0))) (t.rd st.b 32) (cut 48 16 (imgConst t.image)))) ∧
        (op = 0x36 → data (.pvvGen tid k) ((pvvMethod x y (arg 3 0) (t.rd st.a (pinBlockLen (arg 3 0))) (t.rd st.b 32) false).map (fun v => packNibs 15 v.1))) ∧
        (op = 0x40 → ∀ o, kbWrapChecks x y (t.rd st.b 16) st.len = .error o → does (.keyblockWrap tid k) { out := o }) ∧
        (op = 0x40 → kbWrapChecks x y (t.rd st.b 16) st.len = .ok () → Table.find k t.draws = none →
          let n := kbPad (byteAt 0 (t.rd st.b 16)) y
          (∀ pad c1, s.dies.draw t.cluster n = .got pad c1 →
            exec (.keyblockWrap tid k) s = .next (s.after (c1.computed tid k { writes := [(st.d, kbWrap x y (t.rd st.b 16) pad)] }))) ∧
          (s.dies.draw t.cluster n = .wait → exec (.keyblockWrap tid k) s = .next (s.after (s.dies.updTask tid (fun t => { t with draws := Table.put k { size := n } t.draws })))) ∧
          (s.dies.draw t.cluster n = .stopped → Completes (.keyblockWrap tid k) s (fun c => ∃ u, c.task tid = some u ∧
            Table.find k u.results = some { out := .fail Status.entropyUnavailable } ∧ c.r.entRefused = min (s.core.r.entRefused + 1) (2 ^ 16 - 1))))))

/-- Resolving and looking up within a recipe, for a step of its own opcode that is at work. A handle that resolves fills the handle tray and its selector, for a set member with the outcome TRUE; one that waits for a reservation or an expansion leaves the step unfinished; one that fails a check fails the step with that check's status. A set member is read as R262 says. A lookup answers the eight bytes of the best entry of the task's own domain, a miss with eight zero bytes, or ends the step where the entry is of another domain or no bank can serve. Its conclusions say that these complete: RESOLVE, RESOLVE_SET, LOOKUP. The model's choices here: the outcome TRUE of RESOLVE_SET is log entry 32, and a lookup with both banks unusable not being counted is log entry 62. -/
def Obligations.ResolvingSteps : Prop :=
  ∀ (s : State) (tid k op : Nat) (t : Task) (st : RStep), s.core.StepAt tid k op t st →
    let half := match s.core.eng.runner tid k with
      | some (cls, n) => engineHalf s.core.g.variant cls n
      | none => t.cluster / 4
    let resolves (i : Instr) (h : Nat) (out : StepOut) : Prop :=
      let r := s.dies.resolve (tid, 16 + k) h t.domain t.port half (t.trayUses st)
      (∀ c1 x, r = .ok c1 x → exec i s = .next (s.after (c1.computed tid k
        { out := out, writes := [(st.d, leBytes 8 h)], ctx := some (0x10 + st.d / 32, x) }))) ∧
      (∀ c1, r = .wait c1 → exec i s = .next (s.after c1)) ∧
      (∀ e, r = .fail e → exec i s = .next (s.after ((s.dies.unqueue (tid, 16 + k)).computed tid k { out := .fail e.status })))
    (op = 0x70 → resolves (.resolve tid k) (leNat (t.rd st.a 6)) .plain) ∧
    (op = 0x71 →
      let r := leNat (t.rd st.a 8)
      (r.testBit 47 = false → exec (.resolveSet tid k) s = .next (s.after (s.dies.computed tid k { out := .miss 6 }))) ∧
      (r.testBit 47 = true → Table.find (r % 2 ^ 18) s.core.cc.kt.sets = none → exec (.resolveSet tid k) s = .next (s.after (s.dies.computed tid k { out := .miss 6 }))) ∧
      (∀ x, r.testBit 47 = true → Table.find (r % 2 ^ 18) s.core.cc.kt.sets = some x →
        (x.domain ≠ t.domain → exec (.resolveSet tid k) s = .next (s.after (s.dies.computed tid k { out := .sub 5 }))) ∧
        (x.domain = t.domain → x.members.getD (st.arg % 8) 0 = 0 → exec (.resolveSet tid k) s = .next (s.after (s.dies.computed tid k { out := .miss 6 }))) ∧
        (x.domain = t.domain → x.members.getD (st.arg % 8) 0 ≠ 0 → resolves (.resolveSet tid k) (x.members.getD (st.arg % 8) 0) .yes))) ∧
    (op = 0x80 → ∀ bad parity,
      let ns := nibs 19 (t.rd st.a 10)
      let found (c1 : Core) (o : Option Nat) : Prop := s.dies.lookupWord t.cluster ns (st.arg % 256) bad parity = (c1, o)
      let counted (c1 : Core) (miss : Nat) : Core := { c1 with r := { c1.r with
        sivLookups := min (c1.r.sivLookups + 1) (2 ^ 48 - 1), sivMisses := if miss = 1 then min (c1.r.sivMisses + 1) (2 ^ 48 - 1) else c1.r.sivMisses } }
      (∀ o, panDigits (t.rd st.a 10) = .error o → exec (.lookup tid k bad parity) s = .next (s.after (s.dies.computed tid k { out := o }))) ∧
      (∀ ds, panDigits (t.rd st.a 10) = .ok ds →
        (∀ c1, found c1 none → exec (.lookup tid k bad parity) s = .next (s.after (c1.computed tid k { out := .ends Status.internal 3 }))) ∧
        (∀ c1, found c1 (some 0) → exec (.lookup tid k bad parity) s = .next (s.after ((counted c1 1).computed tid k { out := .miss 4, writes := [(st.d, zeros 8)] }))) ∧
        (∀ c1 w, found c1 (some w) → w ≠ 0 → exec (.lookup tid k bad parity) s = .next (s.after ((counted c1 0).computed tid k
          (if w / 2 ^ 18 % 2 ^ 12 = t.domain then { out := .yes, writes := [(st.d, leBytes 8 w)] } else { out := .sub 5 }))))))

/-- The round trips that make the PIN steps agree with one another. A PIN of 4 to 12 digits written into the field of a format reads back as that PIN whatever the fill bytes; into a PIN record and back likewise; and a PIN whose offset is generated against a table of digits verifies against that offset under the same keys. The modes of a cipher. Data enciphered in two parts, the second from the chaining value the first one leaves, is the data enciphered whole, wherever the first part is whole blocks; and the modes that only add a key stream, counter mode and the feedback modes, undo themselves. Integers in the two FORMATS of R318: an integer below its modulus written in either form reads back as itself, in as many bytes as the form gives a modulus of that size; and the modular power that the cores compute is the power modulo the modulus. -/
def Obligations.RoundTripsOfData : Prop :=
  ((∀ (fmt : Nat) (pin : List Nat) (fill : Bytes), (fmt = 0 ∨ fmt = 1 ∨ fmt = 3 ∨ fmt = 4) → 4 ≤ pin.length → pin.length ≤ 12 → (∀ d ∈ pin, d ≤ 9) →
     pinOfField fmt (pinField fmt pin fill) = .ok pin) ∧
   (∀ pin : List Nat, 4 ≤ pin.length → pin.length ≤ 12 → (∀ d ∈ pin, d ≤ 9) → (pinRecord pin).length = 16 ∧ pinOfRecord (pinRecord pin) = .ok pin) ∧
   (∀ (k1 k2 : Ctx) (fmt : Nat) (block vrec table o : Bytes), vrec.length = 32 → (∀ x ∈ table.take 16, x.toNat ≤ 9) →
     pinOffsetGen k1 k2 fmt block vrec table = .ok o → pinVerifyOffset k1 k2 fmt block (patch 20 o vrec) table = .ok true)) ∧
  ((∀ (k : CKey) (mode : Nat) (encrypt : Bool) (iv d1 d2 : Bytes), mode ≤ 5 → d1.length % k.n = 0 →
     let r := cipherMode k mode encrypt iv d1
     cipherMode k mode encrypt iv (d1 ++ d2) = (r.1 ++ (cipherMode k mode encrypt r.2 d2).1, (cipherMode k mode encrypt r.2 d2).2)) ∧
   (∀ (k : CKey) (mode : Nat) (iv d : Bytes), 2 ≤ mode → mode ≤ 5 → iv.length = k.n → (∀ b, b.length = k.n → (k.enc b).length = k.n) →
     (cipherMode k mode true iv d).1.length = d.length ∧ (cipherMode k mode false iv (cipherMode k mode true iv d).1).1 = d)) ∧
  ((∀ (slots : Bool) (modBits v : Nat), v < 2 ^ modBits →
     (intOut slots (intBytes slots modBits) v).length = intBytes slots modBits ∧ intIn slots (intOut slots (intBytes slots modBits) v) = v ∧
     slotBad slots (intOut slots (intBytes slots modBits) v) = false) ∧
   (∀ b e m, powMod b e m = b ^ e % m))

/-- The check phase and the operations of PK_DIRECT. A big-number step at work whose operands pass is marked as checked; one whose operands fail ends with the status and DETAIL of the failed check, counted where the check rejects. A checked operation computes its output, for its EMIT step to hand over: a signature, a shared value, an encapsulation, a decapsulated secret, base to the exponent modulo the modulus, or a product; a verification answers TRUE in RESULT0 or ends with VERIFY_FAIL. Its conclusions say that these complete: SIGN, SIG_VERIFY, AGREE, EMIT, PK_SIGN, PK_VERIFY, PK_AGREE, PK_KEM_DECAP, PK_KEM_ENCAP, PK_MODEXP, PK_MODMUL, CHECK_PHASE_END. -/
def Obligations.BigNumberWork : Prop :=
  ∀ (s : State) (tid k : Nat) (t : Task), s.core.task tid = some t → s.core.atWork tid t k = true →
    let does (i : Instr) (j : Nat) (r : StepRes) : Prop := exec i s = .next (s.after (s.dies.computed tid j r))
    let st := imgStep t.image k
    let phase := if t.opclass = clsPk then t.pkPhase else t.stepPhase st
    (t.stepClass k = some 3 → t.checked.testBit k = false →
      (phase = none → exec (.checkPhaseEnd tid k) s = .next (s.after (s.dies.updTask tid (fun t => { t with checked := t.checked ||| 2 ^ k })))) ∧
      (∀ o rejected, phase = some (o, rejected) → exec (.checkPhaseEnd tid k) s = .next (s.after
        (({ s.dies with r := if rejected then { s.core.r with pkeReject := min (s.core.r.pkeReject + 1) (2 ^ 48 - 1) } else s.core.r } : Core).stepEnds tid k t
          { out := o, res0 := if t.opclass = clsPk then some 0 else none })))) ∧
    (t.opclass = clsRecipe → t.checked.testBit k = true → ∀ x, t.bnKey st = .ok x →
      let m := t.rd st.a st.len
      (st.op = 0x60 → does (.sign tid k) k { writes := [(st.d, cut 0 (signExtent (st.arg % 16)) (signWith false (st.arg % 16) x m (t.stepSeed k)))] }) ∧
      (st.op = 0x61 → does (.sigVerify tid k) k { out := if verifyWith false (st.arg % 16) x.alg x.bitLen x.pub m (t.rd st.b (sigBytes false x.alg x.bitLen)) then .yes else .no }) ∧
      (st.op = 0x62 → does (.agree tid k) k { writes := [(st.d, sha256 (agreeWith x m))], ctx := some (0x10 + st.d / 32,
        { usage := 9, alg := 5, bitLen := 8 * (sha256 (agreeWith x m)).length, key := sha256 (agreeWith x m) }) })) ∧
    (t.opclass = clsPk → k = 1 → does (.emit tid 1) 1 { emit := [(0, t.out)], res1 := some t.out.length }) ∧
    (t.opclass = clsPk → k = 0 → t.checked.testBit 0 = true →
      let out (v : Bytes) : StepRes := { chain := v, res0 := some 0 }
      let n := t.pkLen
      let int (o : Nat) : Nat := intIn t.pkSlots (cut (o * n) n t.work)
      (t.opcode = 0x401 → does (.pkVerify tid) 0
        (if verifyWith t.pkSlots t.pkSel t.pkPublic.1 t.pkPublic.2.1 t.pkPublic.2.2.1 t.pkMsg t.pkSig then { res0 := some 1 }
         else { out := .ends Status.verifyFail 0, res0 := some 0 })) ∧
      (t.opcode = 0x404 → does (.pkKemEncap tid) 0 (out ((mlkemEncaps t.source t.seed).1 ++ (mlkemEncaps t.source t.seed).2))) ∧
      (t.opcode = 0x405 → does (.pkModexp tid) 0 (out (intOut t.pkSlots n (powMod (int 1) (intIn t.pkSlots (t.source.drop (2 * n))) (int 0))))) ∧
      (t.opcode = 0x406 → does (.pkModmul tid) 0 (out (intOut t.pkSlots n (int 1 * int 2 % int 0)))) ∧
      (∀ x, t.ksel 1 = some x →
        (t.opcode = 0x400 → does (.pkSign tid) 0 (out (signWith t.pkSlots t.pkSel x t.source t.seed))) ∧
        (t.opcode = 0x402 → does (.pkAgree tid) 0 (out
          (if x.alg = 0x16 then agreeWith x t.source else intOut t.pkSlots (zBytes t.pkSlots x.alg) (beNat (agreeWith x t.source))))) ∧
        (t.opcode = 0x403 → does (.pkKemDecap tid) 0 (out (mlkemDecaps x.key t.source)))))

/-- The segments of BULK. A segment of an operation of its own code that is at work, once its IV or nonce is at hand, is computed from the chaining state of the one before: what it hands to the destination, and the chaining state it leaves. A tag or MAC stands with the last segment; an opening writes nothing before its tag has been checked. An IV or nonce is the one given in the entry, zero, or one drawn from the cluster's instance when the first segment is dispatched, and a segment whose draw has to wait is not computed. Its conclusions say that these complete: BK_ENCRYPT, BK_DECRYPT, BK_GCM_SEAL, BK_GCM_OPEN, BK_MAC_GEN, BK_MAC_VERIFY, BK_HASH, BK_HMAC_GEN, BK_HMAC_VERIFY. The model's choices here: DETAIL 0 of a failed verification and RESULT0 as the little-endian value of the leftmost 8 bytes are log entry 61. -/
def Obligations.BulkSegments : Prop :=
  ∀ (s : State) (tid op : Nat) (t : Task), s.core.task tid = some t → s.core.atWork tid t 0 = true → t.opclass = clsBulk → t.opcode = op →
    let last := t.bkLast = true
    let field := if t.bkIvsrc = 1 then 16 else 0
    let pos := t.bkAt
    let head (iv : Bytes) : List (Nat × Bytes) := if t.bkIvsrc = 1 ∧ t.seg = 0 then [(0, cut 0 16 iv)] else []
    let done (i : Instr) (c1 : Core) (r : StepRes) : Prop := exec i s = .next (s.after (c1.computed tid 0 r))
    let keyed : List (Nat × Instr) := [(0x500, .bkEncrypt tid), (0x501, .bkDecrypt tid), (0x502, .bkGcmSeal tid), (0x503, .bkGcmOpen tid),
      (0x504, .bkMacGen tid), (0x505, .bkMacVerify tid), (0x507, .bkHmacGen tid), (0x508, .bkHmacVerify tid)]
    (∀ x, t.ksel 1 = some x →
      let ck := CKey.of x.alg x.key
      let n := blockBytes x.alg
      (∀ c1, s.dies.bulkIv tid t x = (c1, none) → ∀ e ∈ keyed, op = e.1 → exec e.2 s = .next (s.after c1)) ∧
      (∀ c1 iv, s.dies.bulkIv tid t x = (c1, some iv) →
        let run_ (e : Bool) : Bytes × Bytes := cipherMode ck t.bkMode e (if t.seg = 0 then (if t.bkMode = 0 then zeros n else iv) else t.chain) t.bkSeg
        let res (e : Bool) : StepRes := { emit := head iv ++ [(field + pos, (run_ e).1)], chain := (run_ e).2, res0 := some 0,
                                          res1 := if last then some (field + t.srcLen) else none, last := decide last }
        let d := t.bkSeg.drop t.bkSegAad
        let ct := gcmCrypt ck iv (pos / 16) d
        let gh (c : Bytes) : Bytes := t.gcmEnd ck (t.gcmAcc ck c)
        let tag (c : Bytes) : Bytes := (gcmTag ck iv (gh c)).take t.bkTlen
        let mac := macPart x.alg x.key t.bkMode t.bkPad t.bkBytes (t.seg == 0) t.bkLast t.chain t.bkSeg
        let hm := hashPart t.bkMode (if t.seg = 0 then hmacStart t.bkMode x.key else t.chain) t.bkSeg
        let hmEnd := (hmacFinish t.bkMode t.bkBytes x.key hm).take t.bkTlen
        let gen (v : Bytes) : StepRes := { emit := [(0, v)], res0 := some (leNat (cut 0 8 v)), res1 := some v.length, last := true }
        let check (v : Bytes) : StepRes := { out := if v = t.inline.take t.bkTlen then .plain else .ends Status.verifyFail 0, res0 := some 0, res1 := some 0, last := true }
        (op = 0x500 → done (.bkEncrypt tid) c1 (res true)) ∧ (op = 0x501 → done (.bkDecrypt tid) c1 (res false)) ∧
        (op = 0x502 → last → done (.bkGcmSeal tid) c1 { emit := head iv ++ [(field + pos, ct), (field + t.bkBytes, tag ct)], res0 := some 0,
                                                        res1 := some (field + t.bkBytes + t.bkTlen), last := true }) ∧
        (op = 0x502 → ¬last → done (.bkGcmSeal tid) c1 { t.gcmChain ck ct with emit := head iv ++ [(field + pos, ct)] }) ∧
        (op = 0x503 → ¬last → t.pass2 = false → done (.bkGcmOpen tid) c1 (if t.bkTwoPass then t.gcmChain ck d else { t.gcmChain ck d with keep := ct })) ∧
        (op = 0x503 → last → t.pass2 = false → tag d ≠ t.tagIn →
          done (.bkGcmOpen tid) c1 { out := .ends Status.authFail 0x510, res0 := some 0, res1 := some 0 }) ∧
        (op = 0x503 → last → t.bkTwoPass = false → tag d = t.tagIn →
          done (.bkGcmOpen tid) c1 { emit := [(0, t.plain ++ ct)], res0 := some 0, res1 := some t.bkBytes, last := true }) ∧
        (op = 0x503 → t.bkTwoPass = true → last → t.pass2 = false → tag d = t.tagIn → done (.bkGcmOpen tid) c1 { t.gcmChain ck d with chain := gh d }) ∧
        (op = 0x503 → t.bkTwoPass = true → t.pass2 = true →
          (¬last → done (.bkGcmOpen tid) c1 { t.gcmChain ck d with emit := [(pos, ct)] }) ∧
          (last → gh d = t.tag1 → done (.bkGcmOpen tid) c1 { emit := [(pos, ct)], res0 := some 0, res1 := some t.bkBytes, last := true }) ∧
          (last → gh d ≠ t.tag1 →
            done (.bkGcmOpen tid) c1 { out := .ends Status.authFail 0x511, emit := [(pos, ct)], res0 := some 0, res1 := some 0 })) ∧
        (last → (op = 0x504 → done (.bkMacGen tid) c1 (gen (mac.take t.bkTlen))) ∧ (op = 0x505 → done (.bkMacVerify tid) c1 (check (mac.take t.bkTlen))) ∧
          (op = 0x507 → done (.bkHmacGen tid) c1 (gen hmEnd)) ∧ (op = 0x508 → done (.bkHmacVerify tid) c1 (check hmEnd))) ∧
        (¬last → (op = 0x504 → done (.bkMacGen tid) c1 { chain := mac }) ∧ (op = 0x505 → done (.bkMacVerify tid) c1 { chain := mac }) ∧
          (op = 0x507 → done (.bkHmacGen tid) c1 { chain := hm }) ∧ (op = 0x508 → done (.bkHmacVerify tid) c1 { chain := hm }))) ∧
      (t.bkIvsrc = 0 → s.dies.bulkIv tid t x = (s.dies, some (t.inline.take (t.ivBytes x)))) ∧
      (t.bkIvsrc = 2 → s.dies.bulkIv tid t x = (s.dies, some (zeros (t.ivBytes x)))) ∧
      (t.bkIvsrc = 1 → t.rnd ≠ [] → s.dies.bulkIv tid t x = (s.dies, some t.rnd)) ∧
      (t.bkIvsrc = 1 → t.rnd = [] → Table.find 32 t.draws = none → s.dies.bulkIv tid t x = (s.dies, none))) ∧
    (op = 0x506 →
      let v := hashPart t.bkMode (if t.seg = 0 then hashStart t.bkMode else t.chain) t.bkSeg
      let e := hashFinish t.bkMode t.bkBytes v
      (last → done (.bkHash tid) s.dies { emit := [(0, e)], res0 := some (leNat (cut 0 8 e)), res1 := some e.length, last := true }) ∧
      (¬last → done (.bkHash tid) s.dies { chain := v })) ∧
    (∀ (c : Core) (u : Task) (x : Ctx), c.task tid = some u → u.drawsIv = true → u.ksel 1 = some x → Table.find 32 u.draws = none →
      (∀ b c1, c.draw u.cluster (u.ivBytes x) = .got b c1 → c.drawIv tid = c1.updTask tid (fun t => { t with rnd := b })) ∧
      (c.draw u.cluster (u.ivBytes x) = .wait → c.drawIv tid = c.updTask tid (fun t => { t with draws := Table.put 32 { size := u.ivBytes x } t.draws })))

/-! ### Operations without steps, the recipe library, the key tree -/

/-- Operations without steps. One whose requests are not all met, that another class or code names, or that an earlier command has to precede (R176, R279), changes nothing. One that has changed custody state, or waits for an event of its own, is committing with its answer fixed, to complete with the glaze of the epoch in progress where it is not held; any other retires at once with status (OK late as OK_LATE), DETAIL and the two result words. No other task changes in either case. -/
def Obligations.OperationsEnd : Prop :=
  (∀ (s : State) (tid : Nat),
    (∀ failed, ∀ x ∈ [(Instr.rcpRegister tid, 0x100), (.rcpRetire tid, 0x101), (.rcpRead tid, 0x102), (.ktCreate tid, 0x200), (.ktGenerate tid failed, 0x201), (.ktImport tid, 0x202),
        (.ktVoid tid, 0x203), (.ktRoll tid failed, 0x204), (.ktExport tid, 0x205), (.ktInfo tid, 0x206), (.ktProvenance tid, 0x207), (.ktChain tid, 0x208),
        (.ktSetWrite tid, 0x209), (.ktRootGenerate tid, 0x210), (.ktRootImport tid, 0x211), (.ktRootVoid tid, 0x212),
        (.svOpen tid, 0x600), (.svWrite tid, 0x601), (.svCommit tid, 0x602), (.svAbort tid, 0x603), (.svRead tid, 0x604)],
      (∀ t, ¬ s.core.OpAt tid clsAdmin x.2 t) → exec x.1 s = .next (s.after s.dies)) ∧
    (∀ x ∈ [(Instr.cuChallenge tid, 0x300), (.cuAuthorize tid, 0x301), (.cuWithdraw tid, 0x302), (.cuEnroll tid, 0x303), (.cuRemove tid, 0x304), (.cuQuorum tid, 0x305),
        (.cuTransport tid, 0x306), (.cuComponentBegin tid, 0x307), (.cuComponent tid, 0x308), (.cuComponentCancel tid, 0x309), (.cuRelease tid, 0x30A),
        (.cuRecommission tid, 0x30B), (.cuDomainReset tid, 0x30C), (.flAuthority tid, 0x310), (.flMember tid, 0x311), (.flExport tid, 0x312), (.flImport tid, 0x313)],
      (∀ t, ¬ s.core.OpAt tid clsCustody x.2 t) → exec x.1 s = .next (s.after s.dies))) ∧
  (∀ (c : Core) (before : Custody) (tid : Nat) (t : Task) (e : OpEnd), c.task tid = some t → t.st = .admitted → (t.opclass = clsAdmin ∨ t.opclass = clsCustody) →
    covers t.flags 0x5F = true → t.strictFail = none → t.expanding = false → Table.wf c.cc.tasks = true →
    let d := c.opEnd before tid e
    (∀ m, m ≠ tid → t.fenced = false → (∀ u, c.task m = some u → u.fenced = false) → d.task m = c.task m) ∧ d.cc.rings = c.cc.rings ∧ d.cc.cust = c.cc.cust ∧ d.g = c.g ∧ d.flash = c.flash ∧ d.ports = c.ports ∧
    ((e.held = true ∨ e.atGlaze = true ∨ c.cc.cust ≠ before) → ∃ u, d.task tid = some u ∧ u.st = .committing ∧ u.status = e.status ∧ u.detail = e.detail ∧
      u.res0 = some e.res0 ∧ u.res1 = some e.res1 ∧ u.commitEpoch = (if e.held then 0 else c.cc.epoch) ∧ u.entry = t.entry) ∧
    (e.held = false → e.atGlaze = false → c.cc.cust = before → ∃ u, d.task tid = some u ∧ u.st = .retired ∧ u.retireTime = c.now ∧
      u.status = (if later c.now t.deadline && e.status == Status.ok then Status.okLate else e.status) ∧ u.detail = e.detail ∧
      u.res0 = some e.res0 ∧ u.res1 = some e.res1))

/-- The library operations. A registration that fails a test of R188 ends with INPUT_FORMAT, the test and the step; one that passes on a slot that holds its recipe answers again without a change; one on an empty slot fills it, raises the generation and waits for its commit. A retirement of an active slot that the port may use makes it RETIRING, or EMPTY where nothing uses it. A read answers image and digest. The commit that is glazed reaches flash in order and completes its operation. Its conclusions say that these complete: LIBRARY_COMMIT_WRITE, RCP_REGISTER, RCP_RETIRE, RCP_READ. The model's choices here: RCP_RETIRE ignoring PARAM bits 31 to 16, and the library in ANALYSIS not reaching the flash, are log entry 67. -/
def Obligations.LibraryOperations : Prop :=
  ∀ (s : State) (tid : Nat) (t : Task),
    let ends (i : Instr) (c : Core) (e : OpEnd) : Prop := exec i s = .next (s.after (c.opEnd s.core.cc.cust tid e))
    let slot := t.param % 2 ^ 16
    let gen := (s.core.cc.libGen + 1) % 2 ^ 48
    let commit (im : Option Bytes) (cc : CC) : CC := { cc with libGen := gen, libCommits := s.core.cc.libCommits ++ [{ epoch := s.core.cc.epoch, tid := tid, slot := slot, gen := gen, image := im }] }
    (s.core.OpAt tid clsAdmin 0x100 t →
      let digest := leNat ((sha256 t.source).take 8)
      (∀ code step, s.dies.registerTests t.port t.param t.source = some (code, step) →
        ends (.rcpRegister tid) s.dies { status := Status.inputFormat, detail := code, res0 := step }) ∧
      (s.dies.registerTests t.port t.param t.source = none → (Table.find slot s.core.cc.lib).isSome = true →
        ends (.rcpRegister tid) s.dies { res0 := digest, res1 := s.core.cc.libGen }) ∧
      (s.dies.registerTests t.port t.param t.source = none → Table.find slot s.core.cc.lib = none →
        ends (.rcpRegister tid) { s.dies with cc := commit (some t.source) { s.core.cc with lib := Table.put slot { image := t.source } s.core.cc.lib } }
          { res0 := digest, res1 := gen, held := true })) ∧
    (s.core.OpAt tid clsAdmin 0x101 t →
      (Table.find slot s.core.cc.lib = none → ends (.rcpRetire tid) s.dies { status := Status.recipeUnknown }) ∧
      (∀ l, Table.find slot s.core.cc.lib = some l → (t.port = 0 ∨ (imgPorts l.image).testBit t.port = true) → l.retiring = false →
        ends (.rcpRetire tid) { s.dies with cc := commit none ({ s.core.cc with lib := Table.put slot { l with retiring := true } s.core.cc.lib } : CC).emptySlots }
          { res0 := s.core.cc.recipeUsers slot, held := true }) ∧
      (∀ l, Table.find slot s.core.cc.lib = some l → (l.retiring = true ∨ (t.port ≠ 0 ∧ (imgPorts l.image).testBit t.port = false)) →
        ends (.rcpRetire tid) s.dies { status := Status.recipeUnknown })) ∧
    (s.core.OpAt tid clsAdmin 0x102 t → slot < 4096 → t.param < 2 ^ 16 →
      (Table.find slot s.core.cc.lib = none → ends (.rcpRead tid) s.dies {}) ∧
      (∀ l, Table.find slot s.core.cc.lib = some l →
        let b := l.image ++ sha256 l.image
        (b.length ≤ t.dstLen → ends (.rcpRead tid) s.dies { res0 := if l.retiring then 2 else 1, res1 := b.length, data := b }) ∧
        (t.dstLen < b.length → ends (.rcpRead tid) s.dies { status := Status.inputFormat }))) ∧
    (∀ k rest, s.core.cc.libCommits = k :: rest → s.core.leaseHeld = true →
      (s.core.cont.glazed < k.epoch → exec .libraryCommitWrite s = .next (s.after s.dies)) ∧
      (k.epoch ≤ s.core.cont.glazed → Completes .libraryCommitWrite s (fun c =>
        c.flash.libGen = k.gen ∧ c.cc.libCommits = rest ∧ c.cc.lib = s.core.cc.lib ∧ c.flash.journals = s.core.flash.journals ∧ c.g = s.core.g ∧
        (∀ im, k.image = some im → c.flash.lib = if s.core.lcState = 3 then s.core.flash.lib else Table.put k.slot { image := im } s.core.flash.lib) ∧
        (k.image = none → c.flash.lib = Table.del k.slot s.core.flash.lib) ∧
        (∀ u, s.core.task k.tid = some u → u.st = .committing → u.opclass = clsAdmin → u.strictFail = none → u.fenced = false → u.expanding = false → u.runningSteps = [] →
          Table.wf s.core.cc.tasks = true → ∃ w, c.task k.tid = some w ∧ w.st = .retired ∧ w.res0 = some (u.res0.getD 0))))) ∧
    (s.core.cc.libCommits = [] → exec .libraryCommitWrite s = .next (s.after s.dies))

/-- Creation below a domain root. Where KEY0 resolves to the parent, the request has its form, and level, usage, algorithm, label and attributes pass, KT_CREATE derives, KT_GENERATE generates from the bytes drawn at admission and KT_IMPORT unwraps or takes over the child's key, and the child is placed in a free slot, with its record in the journal commit that the operation waits for; a child that the identical request has already made is answered again. A generated pair is checked first: one failure marks the core unusable and the check runs again, a second ends the operation with INTERNAL. KT_ROLL makes the sibling and voids the old node in one commit. A derived child stores no key, another one its key wrapped under one derived from its parent's, and each is read so. Its conclusions say that these complete: KT_CREATE, KT_GENERATE, KT_IMPORT, KT_ROLL. The model's choices here: the sibling form of KT_ROLL that follows the algorithm is log entry 63, the moment of its draw is log entry 40, the immediate test is log entry 57, and the bases of the primality tests are log entry 110. -/
def Obligations.KeyCreation : Prop :=
  (∀ (s : State) (tid : Nat) (t : Task) (c1 : Core) (x : Ctx) (n : Node) (r : Req),
    let d := t.param % 4096
    let ends (i : Instr) (c : Core) (e : OpEnd) : Prop := exec i s = .next (s.after (c.opEnd s.core.cc.cust tid e))
    s.core.domainAllowed d t.port = true → (c1.cc.kt.slot x.index).node = some n → (c1.cc.kt.slot x.index).state = .live → (c1.cc.kt.slot x.index).gen = x.gen →
    let p : Parent := { index := x.index, gen := x.gen, node := n }
    let fresh (c : Core) (p : Parent) : Prop := ∀ y, c.cc.kt.childWith p r.label = some y → y.2.2.request ≠ r.raw
    let passes (c : Core) (p : Parent) (form : Form) (pub ex : Bool) : Prop := c.levelChecks p r form pub = .ok () ∧ c.attrChecks p r ex = .ok ()
    (t.formOk 0xFFF true false (some 32) 0 = true → readReq t.source = some r → s.dies.opKey tid t t.key0 d 1 = .ok (c1, x) →
      (s.core.OpAt tid clsAdmin 0x200 t →
        (passes c1 p .derived false true → fresh c1 p → ∀ i, c1.takeSlot = .ok i →
          let made := c1.createChild tid p i r .derived { key := [], pub := [] }
          ends (.ktCreate tid) made.1 { res0 := made.2, held := true }) ∧
        (∀ y, c1.levelChecks p r .derived false = .ok () → c1.cc.kt.childWith p r.label = some y → y.2.2.request = r.raw →
          ends (.ktCreate tid) c1 { res0 := handleOf y.1 y.2.1.gen y.2.2.domain })) ∧
      (s.core.OpAt tid clsAdmin 0x201 t → passes c1 p .generated false true → (algSymmetric r.alg = true ∨ pubBytes r.alg r.bitLen ≤ t.dstLen) → fresh c1 p → t.rnd ≠ [] →
        ∀ failed i c2 prv pub, c1.takeSlot = .ok i → c1.genKey r.alg r.bitLen t.rnd = .ok (c2, prv, pub) →
          let goes (c : Core) : Prop :=
            let made := c.createChild tid p i r .generated { key := prv, pub := pub }
            ends (.ktGenerate tid failed) made.1 { res0 := made.2, res1 := pub.length, data := pub, held := true }
          (algSymmetric r.alg = true → goes c2) ∧
          (algSymmetric r.alg = false → (∃ c, c1.pairwise tid t failed = .ok c) → ∀ c3, c2.pairwise tid t failed = .ok c3 → goes c3) ∧
          (algSymmetric r.alg = false → ∀ c3 e, c1.pairwise tid t failed = .error (.refused c3 e) → ends (.ktGenerate tid failed) c3 { status := e.1, detail := e.2 })) ∧
      (s.core.OpAt tid clsAdmin 0x204 t → 3 ≤ n.level → ∀ pn, (c1.cc.kt.slot n.parent).node = some pn → (c1.cc.kt.slot n.parent).state = .live →
        (c1.cc.kt.slot n.parent).gen = n.parentGen →
        let form := if algSymmetric r.alg then Form.derived else Form.generated
        let q : Parent := { index := n.parent, gen := n.parentGen, node := pn }
        passes c1 q form false true → fresh c1 q → ∀ failed i c2 m, c1.takeSlot = .ok i → c1.material tid t r form failed = .ok (c2, m) →
          let made := c2.createChild tid q i r form m
          let void := made.1.voidNode x.index
          let out := void.1.updCC (fun cc => { cc with ktCommits := cc.ktCommits.map (fun k =>
            if k.tid = some tid then { k with recs := k.recs ++ [void.2] } else k) })
          ends (.ktRoll tid failed) out { res0 := made.2, res1 := (out.cc.kt.slot x.index).gen, held := true })) ∧
    (s.core.OpAt tid clsAdmin 0x202 t → 32 ≤ t.srcLen → readReq (t.source.take 32) = some r →
      let body := t.source.drop 32
      let out (m : Material) (i : Nat) : Prop :=
        let made := c1.createChild tid p i r .imported m
        ends (.ktImport tid) made.1 { res0 := made.2, held := true }
      (∀ y use alg ex key, t.param / 2 ^ 16 % 16 = 0 → t.formOk 0xF0FFF true true none 0 = true → s.dies.opKeys tid t d = .ok (c1, x, y) →
        passes c1 p .imported false (byteAt 11 body != 0x4E) → fresh c1 p → kbUnwrap y body body.length (some r.usage) = .ok (use, alg, ex, key) → alg = r.alg →
        ∀ i, c1.takeSlot = .ok i → out { key := key, pub := [] } i) ∧
      (t.param / 2 ^ 16 % 16 = 1 → t.formOk 0xF0FFF true false none 0 = true → s.dies.opKey tid t t.key0 d 1 = .ok (c1, x) → body.length = pubBytes r.alg r.bitLen →
        passes c1 p .imported true true → fresh c1 p → importFault r body = none → ∀ i, c1.takeSlot = .ok i → out { key := [], pub := body } i))) ∧
  (∀ (c : Core) (p : Parent) (r : Req) (form : Form),
    (c.levelChecks p r form false = .ok () ↔
      p.node.level < 4 ∧ (p.node.level = 2 ↔ r.usage = Usage.branch) ∧ r.usage ≠ Usage.root ∧ (form = .imported → p.node.level = 3) ∧
      usageAllowed r.alg r.usage = true ∧ (form ≠ .generated → algSymmetric r.alg = true) ∧
      ((r.alg = 0x18 ∨ r.alg = 0x19) → Config.lattice c.g.variant = true)) ∧
    (c.attrChecks p r true = .ok () ↔
      r.label ≠ 0 ∧ (c.cc.kt.slot p.index).high < r.label ∧ (r.flags.testBit 0 = true → p.node.level = 2 ∨ p.node.attrs.testBit 0 = true) ∧
      (r.flags.testBit 2 = true → p.node.level ≠ 2 ∧ r.limit ≠ 0) ∧
      (c.g.mode ≠ .analysis → r.flags.testBit 1 = true → p.node.level ≠ 2 ∧ r.flags.testBit 2 = false))) ∧
  (∀ (c : Core) (tid : Nat) (t : Task) (failed : List Nat),
    let up := failed.filter ((c.enginesUp 3).contains ·)
    (up = [] → c.enginesUp 3 ≠ [] → c.pairwise tid t failed = .ok c) ∧
    (∀ a rest, up = a :: rest → t.failed.testBit 32 = true →
      c.pairwise tid t failed = .error (.refused ((c.countCheck 3 a true).crumbNow 3 a t.cluster) (Status.internal, 2))) ∧
    (∀ a rest, up = a :: rest → t.failed.testBit 32 = false →
      let d := (c.countCheck 3 a false).markBad 3 a
      d.eng.isBad 3 a = true ∧
      ((∀ b ∈ rest, (d.enginesUp 3).contains b = false) →
        (d.enginesUp 3 ≠ [] → c.pairwise tid t failed = .ok d) ∧
        (d.enginesUp 3 = [] → d.capCount 3 = 0 → c.pairwise tid t failed = .error (.refused d (Status.engineAbsent, 0x203))) ∧
        (d.enginesUp 3 = [] → d.capCount 3 ≠ 0 → c.pairwise tid t failed = .error (.wait (d.updTask tid (fun t => { t with failed := t.failed ||| 2 ^ 32 }))))) ∧
      (∀ b, rest.find? ((d.enginesUp 3).contains ·) = some b →
        c.pairwise tid t failed = .error (.refused ((d.countCheck 3 b true).crumbNow 3 b t.cluster) (Status.internal, 2))))) ∧
  (∀ (c : Core) (tid i : Nat) (p : Parent) (r : Req) (form : Form) (m : Material), Table.wf c.cc.kt.slots = true → i ≠ p.index → 3 ≤ p.node.level + 1 →
    let out := c.createChild tid p i r form m
    let gen := if (c.cc.kt.slot i).gen = 0 then 1 else (c.cc.kt.slot i).gen
    ∃ n, (out.1.cc.kt.slot i).state = .live ∧ (out.1.cc.kt.slot i).gen = gen ∧ (out.1.cc.kt.slot i).node = some n ∧
      n.level = p.node.level + 1 ∧ n.parent = p.index ∧ n.parentGen = p.gen ∧ n.domain = p.node.domain ∧ n.usage = r.usage ∧ n.alg = r.alg ∧ n.label = r.label ∧
      n.limit = r.limit ∧ n.owner = r.owner ∧ n.pub = m.pub ∧ n.uses = 0 ∧
      n.wrapped = (if form = .derived ∨ m.key = [] then [] else kwpWrap (derive (c.keyOf p.index) r.label p.gen 0xFF 256) m.key) ∧
      n.attrs.testBit 0 = r.flags.testBit 0 ∧ n.attrs.testBit 1 = (r.flags.testBit 1 || c.g.mode == .analysis) ∧ n.attrs.testBit 2 = r.flags.testBit 2 ∧
      n.attrs / 16 = form.origin ∧
      n.attrs.testBit 3 = (!r.flags.testBit 0 && (form == .generated || (form == .derived && p.node.attrs.testBit 3))) ∧
      out.2 = handleOf i gen p.node.domain ∧ (∀ j, j ≠ i → j ≠ p.index → out.1.cc.kt.slot j = c.cc.kt.slot j) ∧
      (r.label ≠ 0 → (c.cc.kt.slot p.index).lastGen = p.gen → (out.1.cc.kt.slot p.index).high = max (c.cc.kt.slot p.index).high r.label) ∧
      out.1.cc.ktCommits = c.cc.ktCommits ++ [{ no := c.cc.commitNo + 1, epoch := c.cc.epoch, tid := some tid, node := none, recs := creationRecs i gen n (some p.node) }] ∧
      out.1.cc.tasks = c.cc.tasks ∧ out.1.cc.cust = c.cc.cust ∧ out.1.flash = c.flash ∧ out.1.g = c.g) ∧
  (∀ (k : KeyTree) (swk : Bytes) (f i : Nat) (n : Node), (k.slot i).node = some n →
    (n.level ≤ 2 → k.nodeKey swk (f + 1) i = kwpUnwrap (derive swk n.domain (k.slot i).lastGen 0xFF 256) n.wrapped) ∧
    (3 ≤ n.level → (k.slot n.parent).lastGen ≠ n.parentGen → k.nodeKey swk (f + 1) i = none) ∧
    (3 ≤ n.level → (k.slot n.parent).lastGen = n.parentGen → ∀ pk, k.nodeKey swk f n.parent = some pk →
      let dk := derive pk n.label n.parentGen n.usage n.bitLen
      (n.attrs / 16 % 4 = 0 → k.nodeKey swk (f + 1) i = some (if isTdea n.alg then oddParity dk else dk)) ∧
      (n.attrs / 16 % 4 ≠ 0 → n.wrapped ≠ [] → k.nodeKey swk (f + 1) i = kwpUnwrap (derive pk n.label n.parentGen 0xFF 256) n.wrapped)))

/-- The rest of the key tree's operations. A void of a node that is no root, or a root's under its quorum, raises the node's generation, queues its sweep and waits for its commit. An export answers the key block of a key that is not a branch or a root under its KEK; an inquiry the node's 64 bytes and public key, counting no use; a provenance statement of a LIVE LOCAL node its 128 bytes signed; KT_CHAIN the vendor chain. A set write puts eight members in one commit. A root is generated from the bytes drawn at admission or taken from a complete component session, under the domain's quorum, once no LIVE root stands. Its conclusions say that these complete: KT_VOID, KT_EXPORT, KT_INFO, KT_PROVENANCE, KT_CHAIN, KT_SET_WRITE, KT_ROOT_GENERATE, KT_ROOT_IMPORT, KT_ROOT_VOID. The model's choices here: the moment at which KT_EXPORT draws its padding is log entry 40. -/
def Obligations.KeyOperations : Prop :=
  (∀ (s : State) (tid : Nat) (t : Task),
    let d := t.param % 4096
    let ends (i : Instr) (c : Core) (e : OpEnd) : Prop := exec i s = .next (s.after (c.opEnd s.core.cc.cust tid e))
    s.core.domainAllowed d t.port = true →
    (∀ c1 x n, s.dies.opKey tid t t.key0 d 1 = .ok (c1, x) → (c1.cc.kt.slot x.index).node = some n → (c1.cc.kt.slot x.index).state = .live →
      (c1.cc.kt.slot x.index).gen = x.gen → t.formOk 0xFFF true false (some 0) 0 = true →
      (s.core.OpAt tid clsAdmin 0x203 t → n.level ≠ 2 → ends (.ktVoid tid) (c1.voidOp tid x.index).1 (c1.voidOp tid x.index).2) ∧
      (s.core.OpAt tid clsAdmin 0x203 t → n.level = 2 → ends (.ktVoid tid) c1 { status := Status.inputFormat, detail := 0x202 }) ∧
      (s.core.OpAt tid clsAdmin 0x212 t → n.level = 2 → ∀ c2, c1.gateTask t d = .ok c2 →
        ends (.ktRootVoid tid) ((c2.voidOp tid x.index).1.edge ((c2.voidOp tid x.index).1.domainPorts d) 114) (c2.voidOp tid x.index).2)) ∧
    (∀ e, s.dies.opKey tid t t.key0 d 1 = .error (.refused s.dies e) → ∀ failed, ∀ i ∈ [(Instr.ktCreate tid, 0x200), (.ktGenerate tid failed, 0x201), (.ktVoid tid, 0x203), (.ktRoll tid failed, 0x204), (.ktRootVoid tid, 0x212)],
      s.core.OpAt tid clsAdmin i.2 t → ends i.1 s.dies { status := e.1, detail := e.2 }) ∧
    (s.core.OpAt tid clsAdmin 0x205 t → t.formOk 0xFFF true true (some 16) 0 = true → ∀ c1 x y, s.dies.opKeys tid t d = .ok (c1, x, y) →
      ((x.usage = Usage.branch ∨ x.usage = Usage.root) → ends (.ktExport tid) c1 { status := Status.keyUseDenied }) ∧
      (x.usage ≠ Usage.branch → x.usage ≠ Usage.root → kbWrapChecks y x t.source t.dstLen = .ok () → Table.find 32 t.draws = none →
        ∀ pad c2, c1.draw t.cluster (kbPad (byteAt 0 t.source) x) = .got pad c2 →
          let b := kbWrap y x t.source pad
          ends (.ktExport tid) c2 { res1 := b.length, data := b })) ∧
    (∀ i sl n, s.dies.findNode t.key0 d t.port = .ok (i, sl, n) →
      (s.core.OpAt tid clsAdmin 0x206 t → t.formOk 0xFFF true false (some 0) (64 + n.pub.length) = true →
        ends (.ktInfo tid) s.dies { res0 := sl.state.code, res1 := (s.dies.nodeInfo i sl n).length, data := s.dies.nodeInfo i sl n }) ∧
      (s.core.OpAt tid clsAdmin 0x207 t → s.core.g.mode ≠ .analysis → t.formOk 0xFFF true false (some 32) 224 = true →
        (sl.state = .live → hGen t.key0 = sl.gen → s.core.cc.kt.chainOk 4 n = true → n.attrs.testBit 3 = true →
          let m := s.dies.provenance i sl n t.source
          ends (.ktProvenance tid) { s.dies with free := s.core.free + 1 }
            { res1 := 224, data := m ++ p384Sign s.core.attSecret m (Config.fondantRandom s.core.free) }) ∧
        ((sl.state ≠ .live ∨ hGen t.key0 ≠ sl.gen ∨ s.core.cc.kt.chainOk 4 n = false ∨ n.attrs.testBit 3 = false) →
          ends (.ktProvenance tid) s.dies { status := Status.keyUseDenied, detail := 0x209 }))) ∧
    (s.core.OpAt tid clsAdmin 0x208 t → let ch := Config.vendorChain s.core.attPublic
      t.formOk 0xFFF false false (some 0) ch.length = true → ends (.ktChain tid) s.dies { res1 := ch.length, data := ch }) ∧
    (s.core.OpAt tid clsAdmin 0x209 t → t.formOk 0xFFF false false (some 64) 0 = true →
      let b := t.source
      let i := leNat (cut 0 4 b)
      let members := (List.range 8).map (fun j => leNat (cut (8 + 6 * j) 6 b))
      allZero (cut 6 2 b) = true → allZero (cut 56 8 b) = true → leNat (cut 4 2 b) = d → i < Config.sieveEntries s.core.g.variant →
      (∀ h ∈ members, h = 0 ∨ ∃ x, s.dies.liveNode h d t.port = .ok x) →
        let ks : KSet := { domain := d, members := members }
        ends (.ktSetWrite tid) { s.dies with cc := { s.core.cc with
          kt := { s.core.cc.kt with sets := Table.put i ks s.core.cc.kt.sets }
          commitNo := s.core.cc.commitNo + 1
          ktCommits := s.core.cc.ktCommits ++ [{ no := s.core.cc.commitNo + 1, epoch := s.core.cc.epoch, tid := some tid, node := none, recs := [setRec i d b] }] } } { res0 := i, held := true }) ∧
    (s.core.OpAt tid clsAdmin 0x210 t → t.formOk 0xFFF false false (some 32) 0 = true → ∀ r c1, readReq t.source = some r → s.dies.rootChecks r = .ok () →
      (s.core.cc.kt.slot d).state ≠ .live → (s.core.cc.kt.slot d).state ≠ .retired → s.dies.gateTask t d = .ok c1 →
        let made := c1.createRoot tid d (c1.rootNode d r .generated) (drawn t.rnd 32)
        ends (.ktRootGenerate tid) made.1 { res0 := made.2, held := true }) ∧
    (s.core.OpAt tid clsAdmin 0x211 t → s.core.g.mode ≠ .analysis → t.formOk 0xFFF false false (some 16) 0 = true → allZero (cut 7 9 t.source) = true →
      ∀ ss r c1, Table.find (leNat (cut 0 4 t.source)) s.core.cc.cust.sessions = some ss → ss.complete = true → ss.domain = d → later ss.expiry s.core.now = true →
        readReq ss.request = some r → kcvOf r.alg ss.acc = cut 4 3 t.source → (s.core.cc.kt.slot d).state ≠ .live → (s.core.cc.kt.slot d).state ≠ .retired →
        s.dies.gateTask t d = .ok c1 →
          let made := c1.createRoot tid d (c1.rootNode d r .imported) ss.acc
          ends (.ktRootImport tid) (made.1.updCust (fun k => { k with sessions := Table.del (leNat (cut 0 4 t.source)) k.sessions })) { res0 := made.2, held := true })) ∧
  (∀ (c : Core) (tid i : Nat), Table.wf c.cc.kt.slots = true →
    let out := c.voidOp tid i
    let sl := c.cc.kt.slot i
    out.2.held = true ∧ out.2.res0 = (out.1.cc.kt.slot i).gen ∧
    (sl.gen ≠ 0xFFFF → (out.1.cc.kt.slot i).state = .void ∧ (out.1.cc.kt.slot i).gen = sl.gen + 1) ∧
    (sl.gen = 0xFFFF → (out.1.cc.kt.slot i).state = .retired ∧ (out.1.cc.kt.slot i).gen = 0xFFFF) ∧
    (∀ j, j ≠ i → out.1.cc.kt.slot j = c.cc.kt.slot j) ∧
    out.1.cc.ktCommits = c.cc.ktCommits ++ [{ no := c.cc.commitNo + 1, epoch := c.cc.epoch, tid := some tid, node := none, recs := [voidRec i sl.gen (sl.node.getD {})] }] ∧
    out.1.cc.kt.sweeps.length = c.cc.kt.sweeps.length + 1 ∧ out.1.cc.cust = c.cc.cust ∧ out.1.cc.tasks = c.cc.tasks ∧ out.1.flash = c.flash) ∧
  (∀ (c : Core) (t : Task) (g : Nat),
    let k := (c.cc.cust.group g).quorum
    let dg := t.commandDigest t.source
    let n := c.cc.cust.tokensFor c.now g dg
    (k ≤ n → ∃ c', c.gateTask t g = .ok c' ∧ (∀ x, x ∈ c'.cc.cust.tokens ↔ x ∈ c.cc.cust.tokens ∧ x.digest ≠ dg) ∧
      c'.cc.edges = c.cc.edges ++ [(c.cc.epoch, c.groupPorts g, 130)] ∧ c'.cc.kt = c.cc.kt ∧ c'.cc.tasks = c.cc.tasks ∧ c'.g = c.g) ∧
    (n < k → ∃ c', c.gateTask t g = .error (.refused c' (Status.custodyRequired, k * 256 + n)) ∧ c'.cc.cust = c.cc.cust ∧
      c'.cc.edges = c.cc.edges ++ [(c.cc.epoch, c.groupPorts g, 131)]))

/-- The events of the key tree. A resolution that succeeds hands its key to the task and sets its flag; one that fails ends the task with the failed check's status and DETAIL; one that waits for a reservation leaves it as it is. The key-tree commit whose epoch is glazed is written to the journal of every copy that can be read, unless the journal holds it already, and completes its operation. Compaction keeps records of a region, in order; compaction and sweeps end. KTR_LOW_MARK takes what port 0 writes. What a resolution does: one use of a COUNTED node, never past its limit. Its conclusions say that these complete: KEY_RESOLUTION_COMPLETE, KEY_TREE_COMMIT_WRITE, JOURNAL_COMPACTION_END, SWEEP_END, KTR_LOW_MARK_WRITE. -/
def Obligations.KeyTreeEvents : Prop :=
  ∀ (s : State),
    (∀ tid second t, s.core.task tid = some t → (t.st = .admitted ∨ t.st = .running) → s.core.dispatching = true →
      let sel := if second then 2 else 1
      let flag := if second then 3 else 2
      t.flags.testBit flag = false →
      let r := s.dies.resolve (tid, sel) (if second then t.key1 else t.key0) t.domain t.port (t.cluster / 4) (t.uses sel)
      (∀ c1 x, r = .ok c1 x → t.keyCheck x = none → exec (.keyResolutionComplete tid second) s = .next (s.after ((c1.updTask tid (fun t =>
        ({ t with ctxs := Table.put sel x t.ctxs, flags := t.flags ||| 2 ^ flag } : Task).skipAll)).tryRetire tid))) ∧
      (∀ c1 x e, r = .ok c1 x → t.keyCheck x = some e → exec (.keyResolutionComplete tid second) s = .next (s.after (c1.endEarly tid e.1 e.2))) ∧
      (∀ c1, r = .wait c1 → exec (.keyResolutionComplete tid second) s = .next (s.after c1)) ∧
      (∀ e, r = .fail e → exec (.keyResolutionComplete tid second) s = .next (s.after (s.dies.endEarly tid e.status (16 * e.order + sel))))) ∧
    (∀ k rest, s.core.cc.ktCommits = k :: rest → s.core.leaseHeld = true →
      (s.core.cont.glazed < k.epoch → exec .keyTreeCommitWrite s = .next (s.after s.dies)) ∧
      (k.epoch ≤ s.core.cont.glazed → Completes .keyTreeCommitWrite s (fun c =>
        let b := k.recs.map (JRec.encode (Config.recordKey s.core.swk))
        (s.core.flash.commitNo < k.no → c.flash.commitNo = k.no ∧
          c.flash.journals.map (·.recs) = (s.core.flash.mapJournals (fun j => { j with recs := j.recs ++ b })).journals.map (·.recs)) ∧
        (k.no ≤ s.core.flash.commitNo → c.flash = s.core.flash) ∧ c.cc.ktCommits = rest ∧ c.cc.cust = s.core.cc.cust ∧ c.g = s.core.g ∧
        (∀ tid u, k.tid = some tid → s.core.task tid = some u → u.st = .committing → u.fenced = false → u.expanding = false → u.runningSteps = [] → Table.wf s.core.cc.tasks = true →
          ∃ w, c.task tid = some w ∧ w.st = .retired)))) ∧
    (s.core.leaseHeld = true → s.core.flash.journals.any (·.next.isSome) = true → Completes .journalCompactionEnd s (fun c =>
      c.flash.journals.map (fun j => (j.recs, j.region)) =
        s.core.flash.journals.map (fun j => (j.next.getD j.recs, if j.next.isSome then 1 - j.region else j.region)) ∧ c.cc = s.core.cc ∧ c.g = s.core.g)) ∧
    (s.core.leaseHeld = false ∨ s.core.flash.journals.any (·.next.isSome) = false → exec .journalCompactionEnd s = .next (s.after s.dies)) ∧
    (∀ l : List Bytes, (compact l).Sublist l) ∧
    (∀ (a b : List Bytes) (x : Bytes) (q : JRec), JRec.decode x = some q →
      let later (p : JRec → Prop) : Prop := ∃ y ∈ b, ∃ z, JRec.decode y = some z ∧ p z
      let state (z : JRec) : Prop := z.type = .node ∨ z.type = .void ∨ z.type = .floor
      (state q → ¬later (fun z => state z ∧ z.index = q.index) → x ∈ compact (a ++ x :: b)) ∧
      (q.type = .set → ¬later (fun z => z.type = .set ∧ z.index = q.index) → x ∈ compact (a ++ x :: b)) ∧
      (q.type = .reserve → ¬later (fun z => z.index = q.index ∧ (state z ∨ (z.type = .reserve ∧ z.gen = q.gen ∧ z.which = q.which))) → x ∈ compact (a ++ x :: b))) ∧
    (∀ i gen level rest n, s.core.leaseHeld = true → s.core.cc.kt.sweeps = (i, gen, level) :: rest → (s.core.cc.kt.slot i).node = some n → Completes .sweepEnd s (fun c =>
      c.cc.kt.sweeps = rest ∧ c.cc.edges = s.core.cc.edges ++ [(s.core.cc.epoch, s.core.domainPorts n.domain, 112)] ∧
      (Table.wf s.core.cc.kt.slots = true → ∀ j, j ≠ i → j ∈ s.core.cc.kt.descendants i gen level → (c.cc.kt.slot j).state ≠ .live) ∧
      (Table.wf s.core.cc.kt.slots = true → ∀ j, j ≠ i → j ∉ s.core.cc.kt.descendants i gen level → c.cc.kt.slot j = s.core.cc.kt.slot j) ∧
      c.cc.tasks = s.core.cc.tasks ∧ c.flash = s.core.flash)) ∧
    (s.core.leaseHeld = false ∨ s.core.cc.kt.sweeps = [] → exec .sweepEnd s = .next (s.after s.dies)) ∧
    (∀ v : W64, s.manages → exec (.ktrLowMarkWrite 0 v) s = .next (s.after { s.noted 0 0 0x0D0018 v.toNat with r := { s.core.r with lowMark := v.toNat % 2 ^ 25 } })) ∧
    (∀ (v : W64) port, port ≠ 0 → s.reaches port →
      exec (.ktrLowMarkWrite port v) s = .next (s.after ((s.noted port 0 0x0D0018 v.toNat).refuseWrite port 0 0x0D0018))) ∧
    (∀ (c c1 : Core) (who : Waiter) (h dom port half : Nat) (u : Uses) (x : Ctx) (n : Node), c.resolve who h dom port half u = .ok c1 x → Table.wf c.cc.kt.slots = true →
      (c.cc.kt.slot x.index).node = some n →
      x.index = h / 2 ^ 24 % 2 ^ 24 ∧ x.gen = h / 2 ^ 8 % 2 ^ 16 ∧ (c.cc.kt.slot x.index).state = .live ∧ (c.cc.kt.slot x.index).gen = x.gen ∧ x.key = c.keyOf x.index ∧ x.pub = n.pub ∧
      x.usage = n.usage ∧ n.domain = dom ∧ c.domainAllowed dom port = true ∧
      (n.attrs.testBit 2 = true → u.use = true → n.uses < n.limit) ∧
      ∃ m, (c1.cc.kt.slot x.index).node = some m ∧ m.uses = (if u.use && n.attrs.testBit 2 then n.uses + 1 else n.uses) ∧ m.mark = n.mark ∧
        (m.uses ≠ n.uses → m.uses ≤ m.mark) ∧ m.wrapped = n.wrapped ∧ (∀ j, j ≠ x.index → c1.cc.kt.slot j = c.cc.kt.slot j) ∧
        c1.cc.ktCommits = c.cc.ktCommits ∧ (∀ j, j ≠ who.1 → c1.task j = c.task j))

/-! ### Custody, fleet transfer, the trusted path -/

/-- Challenges, tokens and custodian groups. A challenge is issued for 600 s while fewer than 256 are open and fewer than 64 at the caller's port. A token of the right form whose object passes is stored once per custodian and command, and its challenge is used up; a check that fails ends with its own DETAIL and tells the group's ports. A withdrawal drops the tokens of a digest. The end of a challenge drops it and the tokens that name it. An enrolment, a removal and a quorum change a group under the quorum it needs, and a domain reset empties a group whose domain holds no LIVE root. Its conclusions say that these complete: CU_CHALLENGE, CU_AUTHORIZE, CU_WITHDRAW, CU_ENROLL, CU_REMOVE, CU_QUORUM, CU_DOMAIN_RESET, CHALLENGE_EXPIRE. The model's choices here: CU_REMOVE of an empty position with 0x0305 and CU_ENROLL in ANALYSIS are log entry 65, and the moment at which the challenge is drawn is log entry 40. -/
def Obligations.CustodianOperations : Prop :=
  (∀ (s : State) (tid : Nat) (t : Task),
    let ends (i : Instr) (c : Core) (e : OpEnd) : Prop := exec i s = .next (s.after (c.opEnd s.core.cc.cust tid e))
    let cust (c : Core) (f : Custody → Custody) : Core := { c with cc := { c.cc with cust := f c.cc.cust } }
    let edge (c : Core) (g n : Nat) : Core := { c with cc := { c.cc with edges := c.cc.edges ++ [(c.cc.epoch, c.groupPorts g, n)] } }
    let fails (i : Instr) (c : Core) (g code : Nat) : Prop := ends i (edge c g 129) { status := Status.authFail, detail := code }
    let live := s.core.cc.cust.openChallenges s.core.now
    (s.core.OpAt tid clsCustody 0x300 t → t.formOk 0 false false (some 0) 32 = true →
      (∀ slot, live.length < 256 → (live.filter (fun e => e.2.port == t.port)).length < 64 → Table.freeKey 256 live = some slot →
        let out (c : Core) (v : Bytes) : Prop := ends (.cuChallenge tid)
          (cust c (fun k => { k with challenges := Table.put slot { value := v, expiry := s.core.now + 60000000000, port := t.port } live }))
          { res0 := (s.core.now + 60000000000).toNat, data := v }
        (s.core.constructed = false → Table.find 32 t.draws = none → (∀ v c2, s.dies.draw t.cluster 32 = .got v c2 → out c2 v) ∧
          (s.dies.draw t.cluster 32 = .wait → exec (.cuChallenge tid) s = .next (s.after (s.dies.updTask tid (fun t => { t with draws := Table.put 32 { size := 32 } t.draws })))) ∧
          (s.core.ent.run = false → ends (.cuChallenge tid) { s.dies with r := { s.core.r with entRefused := min (s.core.r.entRefused + 1) (2 ^ 16 - 1) } }
            { status := Status.entropyUnavailable })) ∧ (s.core.constructed = true → out (s.dies.construct 32).2 (s.dies.construct 32).1)) ∧
      ((256 ≤ live.length ∨ 64 ≤ (live.filter (fun e => e.2.port == t.port)).length) →
        ends (.cuChallenge tid) s.dies { status := Status.inputFormat, detail := 0x308 })) ∧
    (s.core.OpAt tid clsCustody 0x301 t → t.formOk 0 false false none 0 = true →
      let b := t.source
      let g := beNat (cut 16 2 b)
      let p := byteAt 18 b
      let held := s.core.cc.cust.validTokens s.core.now
      (tokenForm b 1 = false → ends (.cuAuthorize tid) s.dies { status := Status.inputFormat, detail := 0x301 }) ∧
      (tokenForm b 1 = true → 64 ≤ held.length → ends (.cuAuthorize tid) s.dies { status := Status.inputFormat, detail := 0x302 }) ∧
      (tokenForm b 1 = true → held.length < 64 → ∀ c1 ch, s.dies.checkObject b g p 104 (cut 20 32 b) none = .ok (c1, ch) →
        let again := held.any (fun x => x.group == g && x.position == p && x.digest == cut 52 48 b)
        (again = true → fails (.cuAuthorize tid) c1 g 0x307) ∧
        (again = false →
          let c2 := cust c1 (fun k => { k with tokens := held ++ [{ group := g, position := p, digest := cut 52 48 b, challenge := ch.value, expiry := ch.expiry }] })
          ends (.cuAuthorize tid) (edge c2 g 128) { res0 := c2.cc.cust.tokensFor c2.now g (cut 52 48 b), res1 := (s.core.cc.cust.group g).quorum }))) ∧
    (s.core.OpAt tid clsCustody 0x302 t → t.formOk 0 false false (some 48) 0 = true →
      let valid := s.core.cc.cust.validTokens s.core.now
      let keep := valid.filter (fun x => x.digest != t.source)
      ends (.cuWithdraw tid) (cust s.dies (fun k => { k with tokens := keep })) { res0 := valid.length - keep.length }) ∧
    (∀ n ch, Table.find n s.core.cc.cust.challenges = some ch → exec (.challengeExpire n) s = .next (s.after (cust (s.dies.moveTo ch.expiry) (fun k =>
      { k with challenges := Table.del n k.challenges, tokens := k.tokens.filter (fun t => t.challenge != ch.value) })))) ∧
    (∀ n, Table.find n s.core.cc.cust.challenges = none → exec (.challengeExpire n) s = .next (s.after s.dies)) ∧
    (let g := t.param % 2 ^ 16
     let p := t.param / 2 ^ 16 % 16
     let x := s.core.cc.cust.group g
     ((g = 0xFFFF ∧ t.port = 0) ∨ (g < 4096 ∧ s.core.domainAllowed g t.port = true)) →
      (s.core.OpAt tid clsCustody 0x303 t → t.formOk 0xFFFFF false false (some 296) 0 = true →
        let key := t.source.take 96
        let tok := t.source.drop 96
        (Table.find p x.keys = none → tokenForm tok 2 = true → beNat (cut 16 2 tok) = g → byteAt 18 tok = p → ∀ c1 ch,
          s.dies.checkObject tok g p 104 (cut 20 32 tok) (some key) = .ok (c1, ch) →
            (cut 52 48 tok ≠ t.commandDigest (key ++ zeros 200) → fails (.cuEnroll tid) c1 g 0x306) ∧
            (cut 52 48 tok = t.commandDigest (key ++ zeros 200) → ∀ c2, c1.gateGroup t g true = .ok c2 →
              let out := c2.changeGroup g (fun x => { x with keys := Table.put p key x.keys })
              ends (.cuEnroll tid) out.1 out.2)) ∧
        ((Table.find p x.keys).isSome = true → ends (.cuEnroll tid) s.dies { status := Status.inputFormat, detail := 0x309 })) ∧
      (s.core.OpAt tid clsCustody 0x304 t → t.formOk 0xFFFFF false false (some 0) 0 = true →
        (Table.find p x.keys = none → ends (.cuRemove tid) s.dies { status := Status.authFail, detail := 0x305 }) ∧
        ((Table.find p x.keys).isSome = true → x.keys.length - 1 < x.quorum → ends (.cuRemove tid) s.dies { status := Status.inputFormat, detail := 0x30E }) ∧
        ((Table.find p x.keys).isSome = true → x.quorum ≤ x.keys.length - 1 → ∀ c2, s.dies.gateGroup t g false = .ok c2 →
          let out := (cust c2 (fun k => { k with tokens := k.tokens.filter (fun t => !(t.group == g && t.position == p)) })).changeGroup g (fun x => { x with keys := Table.del p x.keys })
          ends (.cuRemove tid) out.1 out.2)) ∧
      (s.core.OpAt tid clsCustody 0x305 t → t.formOk 0xFFFFF false false (some 0) 0 = true →
        (2 ≤ p → p ≤ 5 → p ≤ x.keys.length → ∀ c2, s.dies.gateGroup t g false = .ok c2 →
          let out := c2.changeGroup g (fun x => { x with quorum := p })
          ends (.cuQuorum tid) out.1 out.2) ∧
        ((p < 2 ∨ 5 < p ∨ x.keys.length < p) → ends (.cuQuorum tid) s.dies { status := Status.inputFormat, detail := 0x30E }))) ∧
    (s.core.OpAt tid clsCustody 0x30C t → t.port = 0 → t.formOk 0xFFF false false (some 0) 0 = true →
      let d := t.param % 4096
      ((s.core.cc.kt.slot d).state = .live → ends (.cuDomainReset tid) s.dies { status := Status.keyUseDenied, detail := 0x30D }) ∧
      ((s.core.cc.kt.slot d).state ≠ .live → ∀ c2, s.dies.gateTask t 0xFFFF = .ok c2 →
        ends (.cuDomainReset tid) (edge (cust c2 (fun k => { (k.updGroup d (fun _ => {})) with tokens := k.tokens.filter (fun x => x.group != d) })) d 132) {}))) ∧
  (∀ (c : Core) (o : Bytes) (g p n : Nat) (v : Bytes) (key : Option Bytes),
    let serial := cut 4 12 o = c.serialBytes
    let fail (c : Core) (code : Nat) : Op (Core × Challenge) := .error (.refused (c.edge (c.groupPorts g) 129) (Status.authFail, code))
    let spent (slot : Nat) : Core := c.updCust (fun k => { k with challenges := Table.del slot k.challenges })
    (¬serial → c.checkObject o g p n v key = fail c 0x303) ∧
    (serial → c.cc.cust.challengeOf c.now v = none → c.checkObject o g p n v key = fail c 0x304) ∧
    (∀ slot ch, serial → c.cc.cust.challengeOf c.now v = some (slot, ch) →
      let k := key.or (Table.find p (c.cc.cust.group g).keys)
      (k = none → c.checkObject o g p n v key = fail (spent slot) 0x305) ∧
      (∀ x, k = some x →
        let good := p384Valid ((4 : Byte) :: x) && p384Verify ((4 : Byte) :: x) (o.take n) (cut n 96 o)
        (good = true → c.checkObject o g p n v key = .ok (spent slot, ch)) ∧ (good = false → c.checkObject o g p n v key = fail (spent slot) 0x306)))) ∧
  (∀ (c : Core) (t : Task) (g : Nat) (enroll : Bool),
    let few := (c.cc.cust.group g).keys.length < 2
    let free := few ∧ g = 0xFFFF ∧ (c.lcState = 1 ∨ (c.lcState = 3 ∧ enroll = true))
    (free → c.gateGroup t g enroll = .ok c) ∧
    (¬free → c.gateGroup t g enroll = c.gateTask t (if few then 0xFFFF else g))) ∧
  (∀ (c : Core) (g : Nat) (f : Group → Group), Table.wf c.cc.cust.groups = true →
    let out := c.changeGroup g f
    out.1.cc.cust.group g = f (c.cc.cust.group g) ∧ (∀ m, m ≠ g → out.1.cc.cust.group m = c.cc.cust.group m) ∧
    out.2 = { res0 := (f (c.cc.cust.group g)).keys.length, res1 := (f (c.cc.cust.group g)).quorum } ∧
    out.1.cc.edges = c.cc.edges ++ [(c.cc.epoch, c.groupPorts g, 132)] ∧ out.1.cc.cust.tokens = c.cc.cust.tokens ∧ out.1.cc.tasks = c.cc.tasks ∧ out.1.cc.kt = c.cc.kt)

/-- The transport key, key components, release and recommissioning. CU_TRANSPORT answers the transport key signed. A component session opens for 600 s in the lowest free of four slots; each component that passes is joined to what the session holds, by exclusive or, and the last one completes a root's session or commits the L4 key as an import would; a cancellation and the end of its time erase the session and tell the domain's ports. CU_RELEASE in SAFE_HALT and CU_RECOMMISSION in ZEROIZED, under the unit quorum with no progress mark open, set RECOVER and start the recovery sequence with the sources tested afresh, whose end they wait for. Its conclusions say that these complete: CU_TRANSPORT, CU_COMPONENT_BEGIN, CU_COMPONENT, CU_COMPONENT_CANCEL, CU_RELEASE, CU_RECOMMISSION, COMPONENT_SESSION_EXPIRE. The model's choices here: the byte order of the KCV is log entry 65, an identical child and the parent generation are log entry 31, and the start of recovery is log entry 25. -/
def Obligations.ComponentsAndRecovery : Prop :=
  ∀ (s : State) (tid : Nat) (t : Task),
    let ends (i : Instr) (c : Core) (e : OpEnd) : Prop := exec i s = .next (s.after (c.opEnd s.core.cc.cust tid e))
    let cust (c : Core) (f : Custody → Custody) : Core := { c with cc := { c.cc with cust := f c.cc.cust } }
    let k0 := s.core.cc.cust
    (s.core.OpAt tid clsCustody 0x306 t → t.formOk 0 false false (some 0) 224 = true →
      let m := ascii "UTK1" ++ s.core.serialBytes ++ beBytes 2 (k0.member.getD 0) ++ [byte (if k0.member.isSome then 1 else 0)] ++ zeros 13 ++ s.core.transportPublic
      ends (.cuTransport tid) { s.dies with free := s.core.free + 1 } { res1 := 224, data := m ++ p384Sign s.core.attSecret m (Config.fondantRandom s.core.free) }) ∧
    (s.core.OpAt tid clsCustody 0x307 t → s.core.domainAllowed (t.param % 4096) t.port = true → t.formOk 0xFFF true false (some 40) 0 = true →
      let n := byteAt 32 t.source
      2 ≤ n → n ≤ 5 → allZero (cut 33 7 t.source) = true → ∀ r c1 key, readReq (t.source.take 32) = some r →
        (t.key0 = 0 → c1 = s.dies ∧ key = none) → (t.key0 ≠ 0 → ∃ x, s.dies.opKey tid t t.key0 (t.param % 4096) 1 = .ok (c1, x) ∧ key = some x) →
        c1.sessionTarget key r = .ok () →
        (∀ k, Table.freeKey 4 (k0.openSessions s.core.now) = some k →
          let x : Session := { domain := t.param % 4096, parent := (key.getD {}).index, parentGen := (key.getD {}).gen, request := r.raw, count := n, given := [], acc := zeros (symKeyBytes r.alg),
                               expiry := s.core.now + 60000000000, complete := false }
          ends (.cuComponentBegin tid) (cust c1 (fun q => { q with sessions := Table.put k x q.sessions }))
            { res0 := k, res1 := (s.core.now + 60000000000).toNat }) ∧
        (Table.freeKey 4 (k0.openSessions s.core.now) = none → ends (.cuComponentBegin tid) c1 { status := Status.inputFormat, detail := 0x30A })) ∧
    (s.core.OpAt tid clsCustody 0x308 t → t.formOk 3 false false none 0 = true →
      let n := t.param % 4
      let b := t.source
      let g := beNat (cut 16 2 b)
      let p := byteAt 18 b
      envelopeForm b = true → ∀ c1 ch, s.dies.checkObject b g p 200 (cut 20 32 b) none = .ok (c1, ch) →
        (Table.find n k0.sessions = none → ends (.cuComponent tid) c1 { status := Status.inputFormat, detail := 0x30B }) ∧
        (∀ x, Table.find n k0.sessions = some x → x.complete = false → later x.expiry s.core.now = true → x.domain = g → byteAt 19 b = n →
          (x.given.contains p = true → ends (.cuComponent tid) (c1.edge (c1.groupPorts g) 129) { status := Status.authFail, detail := 0x307 }) ∧
          (x.given.contains p = false → s.core.openEnvelope b = none → ends (.cuComponent tid) (c1.edge (c1.groupPorts g) 129) { status := Status.authFail, detail := 0x306 }) ∧
          (∀ comp r, x.given.contains p = false → s.core.openEnvelope b = some comp → comp.length = x.acc.length → readReq x.request = some r →
            let acc := xorB x.acc comp
            let kcv := leNat (kcvOf r.alg (if isTdea r.alg then oddParity acc else acc))
            (x.given.length + 1 < x.count → ends (.cuComponent tid) (cust c1 (fun k => { k with sessions := Table.put n { x with acc := acc, given := x.given ++ [p] } k.sessions }))
              { res0 := leNat (kcvOf r.alg comp), res1 := x.count - (x.given.length + 1) }) ∧
            (x.count ≤ x.given.length + 1 → x.parent = 0 → ends (.cuComponent tid)
              ((cust c1 (fun k => { k with sessions := Table.put n { x with acc := acc, given := x.given ++ [p], complete := true } k.sessions })).edge (s.core.domainPorts g) 133)
              { res1 := kcv }) ∧
            (x.count ≤ x.given.length + 1 → x.parent ≠ 0 → ∀ pn i, (s.core.cc.kt.slot x.parent).node = some pn → (s.core.cc.kt.slot x.parent).state = .live →
              (s.core.cc.kt.slot x.parent).gen = x.parentGen → s.core.cc.kt.chainOk 4 pn = true →
              let q : Parent := { index := x.parent, gen := x.parentGen, node := pn }
              (∀ y, s.core.cc.kt.childWith q r.label = some y → y.2.2.request ≠ r.raw) → c1.attrChecks q r true = .ok () → c1.takeSlot = .ok i →
                let made := c1.createChild tid q i r .imported { key := if isTdea r.alg then oddParity acc else acc, pub := [] }
                ends (.cuComponent tid) ((made.1.updCust (fun k => { k with sessions := Table.del n k.sessions })).edge (made.1.domainPorts x.domain) 133)
                  { res0 := made.2, res1 := kcv, held := true })))) ∧
    (let gone (c : Core) (n : Nat) (x : Session) : Core := (cust c (fun k => { k with sessions := Table.del n k.sessions })).edge (c.domainPorts x.domain) 133
     (s.core.OpAt tid clsCustody 0x309 t → t.formOk 3 false false (some 0) 0 = true →
       (∀ x, Table.find (t.param % 4) (k0.openSessions s.core.now) = some x →
         ends (.cuComponentCancel tid) (gone s.dies (t.param % 4) x) {}) ∧
       (Table.find (t.param % 4) (k0.openSessions s.core.now) = none → ends (.cuComponentCancel tid) s.dies { status := Status.inputFormat, detail := 0x30B })) ∧
     (∀ n x, Table.find n k0.sessions = some x → exec (.componentSessionExpire n) s = .next (s.after (gone (s.dies.moveTo x.expiry) n x))) ∧
     (∀ n, Table.find n k0.sessions = none → exec (.componentSessionExpire n) s = .next (s.after s.dies))) ∧
    (∀ x ∈ [(Instr.cuRelease tid, 0x30A, Mode.safeHalt), (.cuRecommission tid, 0x30B, .zeroized)], s.core.OpAt tid clsCustody x.2.1 t →
      (t.port ≠ 0 ∨ s.core.g.mode ≠ x.2.2 ∨ s.core.g.recovery ≠ none → ends x.1 s.dies { status := Status.modeRefused, detail := s.core.g.mode.code }) ∧
      (t.port = 0 → s.core.g.mode = x.2.2 → s.core.g.recovery = none → s.core.markOpen = true → ends x.1 s.dies { status := Status.modeRefused, detail := 0x345 }) ∧
      (t.port = 0 → s.core.g.mode = x.2.2 → s.core.g.recovery = none → s.core.markOpen = false → t.formOk 0 false false (some 0) 0 = true →
        (∀ c1, s.dies.gateTask t 0xFFFF = .ok c1 →
          ends x.1 { c1 with g := { s.core.g with recover := true, recovery := some (tid, x.2.2 == .zeroized) }, ent := s.core.ent.startRecovery } { held := true }) ∧
        (∀ c1 e, s.dies.gateTask t 0xFFFF = .error (.refused c1 e) → ends x.1 c1 { status := e.1, detail := e.2 })))

/-- Fleet transfer and the trusted path. The authority and the member number are each set once, in INTEGRATOR, under the unit quorum. An export of an exportable root or branch, under its domain's quorum, raises the transfer counter and answers the blob for the certified target; an import whose blob and certificate pass places the node with the source's generation, records it and tells the domain's ports, and one already transferred answers again. A CPATH request in its form is admitted where the mode serves its code, a repeated one is answered again, and any other is rejected with its code; the response is sent once its epoch is glazed; a frame that stops is counted. Its conclusions say that these complete: FL_AUTHORITY, FL_MEMBER, FL_EXPORT, FL_IMPORT, CPATH_REQUEST, CPATH_RESPONSE, CPATH_FRAME_TIMEOUT. The model's choices here: the order of the CPATH checks, port 4 and the own slot are log entry 66. -/
def Obligations.FleetAndPath : Prop :=
  ∀ (s : State) (tid : Nat) (t : Task),
    let ends (i : Instr) (c : Core) (e : OpEnd) : Prop := exec i s = .next (s.after (c.opEnd s.core.cc.cust tid e))
    let k := s.core.cc.cust
    let d := t.param % 4096
    (t.port = 0 → s.core.lcState = 1 →
      (s.core.OpAt tid clsCustody 0x310 t → t.formOk 0 false false (some 104) 0 = true →
        (k.fleetId.isSome = true → ends (.flAuthority tid) s.dies { status := Status.inputFormat, detail := 0x30F }) ∧
        (k.fleetId = none → ∀ c1, s.dies.gateTask t 0xFFFF = .ok c1 →
          ends (.flAuthority tid) (c1.updCust (fun k => { k with fleetId := some (t.source.take 8), authority := t.source.drop 8 })) {})) ∧
      (s.core.OpAt tid clsCustody 0x311 t → t.formOk 0 false false none 0 = true →
        (k.member.isSome = true → ends (.flMember tid) s.dies { status := Status.inputFormat, detail := 0x30F }) ∧
        (k.member = none → k.fleetId = some (certFleet t.source) → k.certOk t.source = true → certSerial t.source = s.core.serialBytes →
          (certTransport t.source).drop 1 = s.core.transportPublic → (certAttestation t.source).drop 1 = s.core.attPublic → ∀ c1, s.dies.gateTask t 0xFFFF = .ok c1 →
            ends (.flMember tid) (c1.updCust (fun k => { k with member := some (certMember t.source) })) { res0 := certMember t.source }))) ∧
    (∀ i ∈ [(Instr.flAuthority tid, 0x310), (.flMember tid, 0x311)], s.core.OpAt tid clsCustody i.2 t → (t.port ≠ 0 ∨ s.core.lcState ≠ 1) →
      ends i.1 s.dies { status := Status.modeRefused, detail := s.core.g.mode.code }) ∧
    (s.core.OpAt tid clsCustody 0x312 t → s.core.domainAllowed d t.port = true → s.core.g.mode ≠ .analysis → t.formOk 0xFFF true false (some 320) 400 = true →
      ∀ c1 x n, s.dies.opKey tid t t.key0 d 1 = .ok (c1, x) → (c1.cc.kt.slot x.index).node = some n → (c1.cc.kt.slot x.index).state = .live →
        (c1.cc.kt.slot x.index).gen = x.gen → n.level ≤ 3 →
        k.member.isSome = true → k.fleetId = some (certFleet t.source) → k.certOk t.source = true →
        (n.attrs.testBit 0 = false → ends (.flExport tid) c1 { status := Status.keyUseDenied, detail := 0x205 }) ∧
        (n.attrs.testBit 0 = true → ∀ c2, c1.gateTask t d = .ok c2 →
          let c3 := c2.updCust (fun k => { k with xfer := (k.xfer + 1) % 2 ^ 64, xferMark := if k.xfer < k.xferMark then k.xferMark else k.xfer + 256 })
          let out := c3.blob x.index x.gen n t.source c3.cc.cust.xfer
          ends (.flExport tid) out.2 { res0 := c3.cc.cust.xfer, res1 := 400, data := out.1 } ∧ out.2.free = c3.free + 3 ∧ out.2.cc = c3.cc)) ∧
    (s.core.OpAt tid clsCustody 0x313 t → s.core.domainAllowed d t.port = true → s.core.g.mode ≠ .analysis → t.formOk 0xFFF false false (some 720) 0 = true →
      let b := t.source.take 400
      let cert := t.source.drop 400
      let member := beNat (cut 24 2 b)
      let counter := beNat (cut 56 8 b)
      let gen := beNat (cut 46 2 b)
      blobForm b d = true → 1 ≤ gen → k.member = some (beNat (cut 26 2 b)) → k.fleetId = some (cut 4 8 b) → k.fleetId = some (certFleet cert) →
      k.certOk cert = true → certSerial cert = cut 12 12 b → certMember cert = member → cut 28 12 b = s.core.serialBytes →
      p384Valid (certAttestation cert) = true → p384Verify (certAttestation cert) (b.take 304) (cut 304 96 b) = true →
        (∀ i sl n, s.core.cc.kt.transferred member counter = some (i, sl, n) →
          (sl.state = .live → ends (.flImport tid) s.dies { res0 := handleOf i sl.gen n.domain, res1 := if sl.gen = gen then 1 else 0 }) ∧
          (sl.state ≠ .live → ends (.flImport tid) s.dies { status := Status.authFail, detail := 0x313 })) ∧
        (s.core.cc.kt.transferred member counter = none → ∀ key i parent pg c1, s.dies.openBlob b = .ok key → key ≠ [] →
          s.dies.transferSlot (byteAt 42 b) d (beNat (cut 48 8 b)) = .ok (i, parent, pg) → s.dies.gateTask t d = .ok c1 → Table.wf s.core.cc.kt.slots = true → Completes (.flImport tid) s (fun c =>
            let g := max (s.core.cc.kt.slot i).gen gen
            (∃ n, (c.cc.kt.slot i).state = .live ∧ (c.cc.kt.slot i).gen = g ∧ (c.cc.kt.slot i).node = some n ∧ n.level = byteAt 42 b ∧ n.parent = parent ∧ n.parentGen = pg ∧
              n.domain = d ∧ n.usage = byteAt 43 b ∧ n.alg = 4 ∧ n.owner = transferTag member counter ∧ n.attrs / 16 = 3 ∧ n.attrs.testBit 3 = false ∧
              n.wrapped = kwpWrap (if byteAt 42 b = 2 then derive s.core.swk d g 0xFF 256 else derive (s.core.keyOf parent) (beNat (cut 48 8 b)) pg 0xFF 256) key ∧
              c.cc.ktCommits = s.core.cc.ktCommits ++ [{ no := s.core.cc.commitNo + 1, epoch := s.core.cc.epoch, tid := some tid, node := none, recs := creationRecs i g n (s.core.cc.kt.slot n.parent).node }]) ∧
            (s.core.cc.epoch, s.core.domainPorts d, 135) ∈ c.cc.edges ∧
            (Table.wf s.core.cc.tasks = true → ∃ u, c.task tid = some u ∧ u.st = .committing ∧ u.res0 = some (handleOf i g d) ∧ u.res1 = some (if g = gen then 1 else 0))))) ∧
    (∀ f : Bytes, Config.cpath s.core.g.variant = true → s.core.g.mode ≠ .retain → byteAt 0 f = 0x5A →
      let n := beNat (cut 2 2 f)
      let p := cut 4 n f
      let op := leNat (cut 2 2 p)
      let whole := 8 ≤ f.length ∧ n ≤ 1024 ∧ f.length = n + 8
      let sound := crc32 (cut 1 (n + 3) f) = beNat (cut (n + 4) 4 f)
      let rejects (code : Nat) : Prop := exec (.cpathRequest f) s =
        .next (s.after ((s.dies.send (.cpath (cpathFrame 0xFF (cut 0 2 p ++ [byte code])))).edge 1 134))
      (¬whole → rejects 2) ∧ (whole → ¬sound → rejects 1) ∧ (whole → sound → byteAt 1 f ≠ 1 → rejects 3) ∧
      (whole → sound → byteAt 1 f = 1 →
        (n < 14 → rejects 2) ∧ (14 ≤ n → s.core.cpath.busy ≠ none → rejects 4) ∧
        (14 ≤ n → s.core.cpath.busy = none →
          (∀ r, s.core.cpath.last = some (f, r) → exec (.cpathRequest f) s = .next (s.after (s.dies.send (.cpath r)))) ∧
          ((∀ r, s.core.cpath.last ≠ some (f, r)) →
            (op ∉ [0x300, 0x301, 0x302, 0x306, 0x308] → rejects 5) ∧
            (op ∈ [0x300, 0x301, 0x302, 0x306, 0x308] → s.core.cpathMode op = false → rejects 6) ∧
            (op ∈ [0x300, 0x301, 0x302, 0x306, 0x308] → s.core.cpathMode op = true → Completes (.cpathRequest f) s (fun c =>
              c.cpath.busy = some f ∧ c.cc.seq = (s.core.cc.seq + 1) % 2 ^ 48 ∧ c.fx = [] ∧
              ∃ u, c.task s.core.cpathSlot = some u ∧ u.st = .admitted ∧ u.port = 4 ∧ u.opclass = clsCustody ∧ u.opcode = op ∧ u.source = p.drop 14)))))) ∧
    (∀ f u, s.core.cpath.busy = some f → s.core.task s.core.cpathSlot = some u → u.st = .retired → u.staged.getD 0 ≤ s.core.cont.glazed → s.core.leaseHeld = true →
      Completes .cpathResponse s (fun c => c.fx = [.out (.cpath (u.cpathResponse f))] ∧ c.cpath = { busy := none, last := some (f, u.cpathResponse f) } ∧
        (Table.wf s.core.cc.tasks = true → c.task s.core.cpathSlot = none ∧ ∀ m, m ≠ s.core.cpathSlot → c.task m = s.core.task m))) ∧
    (s.core.cpath.busy = none → exec .cpathResponse s = .next (s.after s.dies)) ∧
    (Config.cpath s.core.g.variant = true → s.core.g.mode ≠ .retain → exec .cpathFrameTimeout s = .next (s.after (s.dies.edge 1 134)))

/-! ### The Sieve, the prime reserve, the entropy unit -/

/-- The Sieve's operations, in any mode but ANALYSIS. SV_OPEN stages a copy of the table, or an empty image, where none is staged; SV_WRITE applies every record or, where one fails a check, none; SV_COMMIT of an image without two entries of one prefix and class makes it the master under the next generation and begins to load the bank that does not serve; SV_ABORT drops the image and tells every port; SV_READ answers the records from a position on. The loads that follow change primary and generation together and complete the commit, and bring the former primary up to date once its searches have ended. Its conclusions say that these complete: SV_OPEN, SV_WRITE, SV_COMMIT, SV_ABORT, SV_READ, SIEVE_BANK_LOAD_END, SIEVE_SEARCHES_DRAINED. The model's choices here: a commit with both banks unusable that completes at once with G+1, and a second commit that waits, are log entry 62, and a commit that waits for the glaze of its writes is log entry 112. -/
def Obligations.SieveOperations : Prop :=
  ∀ (s : State) (tid : Nat) (t : Task),
    let ends (i : Instr) (c : Core) (e : OpEnd) : Prop := exec i s = .next (s.after (c.opEnd s.core.cc.cust tid e))
    let refuses (i : Instr) (code : Nat) : Prop := ends i s.dies { status := Status.inputFormat, detail := code }
    let stage (x : Option SvStage) (c : Core) : Core := { c with cc := { c.cc with stage := x } }
    (s.core.g.mode ≠ .analysis →
      (s.core.OpAt tid clsAdmin 0x600 t → t.param &&& 1 = t.param →
        (s.core.cc.stage ≠ none → refuses (.svOpen tid) 0x608) ∧
        (s.core.cc.stage = none → let image := if t.param.testBit 0 then [] else s.core.siv.table
          ends (.svOpen tid) (stage (some { owner := t.port, image := image }) s.dies) { res0 := s.core.siv.gen, res1 := image.length })) ∧
      (s.core.OpAt tid clsAdmin 0x601 t → t.param = 0 →
        ((∀ x, s.core.cc.stage = some x → x.owner ≠ t.port) → refuses (.svWrite tid) 0x608) ∧
        (∀ x, s.core.cc.stage = some x → x.owner = t.port → 32 ≤ t.srcLen → t.srcLen ≤ 65536 → t.srcLen % 32 = 0 →
          let recs := chunks 32 t.source
          let image := recs.foldl applyRec x.image
          ((∀ r ∈ recs, s.dies.recFault t.port x.image r = none) →
            ends (.svWrite tid) (stage (some { owner := t.port, image := image }) s.dies) { res0 := recs.length, res1 := image.length }) ∧
          (∀ i r e, recs[i]? = some r → s.dies.recFault t.port x.image r = some e → (∀ j q, j < i → recs[j]? = some q → s.dies.recFault t.port x.image q = none) →
            ends (.svWrite tid) s.dies { status := e.1, detail := e.2, res0 := i }))) ∧
      (s.core.OpAt tid clsAdmin 0x602 t → t.param = 0 → (∀ k, s.core.siv.commit = some k → ¬(k.tid = tid ∧ k.seq = t.seq)) →
        ∀ x, s.core.cc.stage = some x → x.owner = t.port → (∀ k, s.core.siv.commit = some k → k.step = 7) →
          (s.core.svGlazed tid t = false → exec (.svCommit tid) s = .next (s.after s.dies)) ∧
          (s.core.svGlazed tid t = true →
          (∀ p, shadowed [] x.image = some p → ends (.svCommit tid) s.dies { status := Status.inputFormat, detail := 0x607, res0 := p }) ∧
          (shadowed [] x.image = none →
            let g := s.core.flash.svGen + 1
            let c := stage none { s.dies with flash := { s.core.flash with svMaster := x.image, svGen := g } }
            (s.core.siv.ok 0 = true ∨ s.core.siv.ok 1 = true →
              ends (.svCommit tid) { c with siv := { s.core.siv with next := some x.image, mirrorOpen := true, commit := some { tid := tid, seq := t.seq, step := 3 } } }
                { res0 := g, res1 := x.image.length, held := true }) ∧
            (s.core.siv.ok 0 = false → s.core.siv.ok 1 = false → ends (.svCommit tid) c { res0 := g, res1 := x.image.length })))) ∧
      (s.core.OpAt tid clsAdmin 0x603 t → t.param = 0 →
        (s.core.cc.stage = none → refuses (.svAbort tid) 0x608) ∧
        (∀ x, s.core.cc.stage = some x → (x.owner = t.port ∨ t.port = 0) → ends (.svAbort tid) ((stage none s.dies).edge s.core.linkMask 99) {}) ∧
        (∀ x, s.core.cc.stage = some x → x.owner ≠ t.port → t.port ≠ 0 → refuses (.svAbort tid) 0x608)) ∧
      (s.core.OpAt tid clsAdmin 0x604 t → t.param &&& 0x3FFFF = t.param → t.dstLen % 32 = 0 →
        let l := s.core.siv.table.filter (fun x => decide (t.param ≤ x.1))
        let got := l.take (t.dstLen / 32)
        let data := (got.map (fun x => s.dies.recBytes t.port x.1 x.2)).flatten
        (l.length ≤ t.dstLen / 32 → ends (.svRead tid) s.dies { res0 := max t.param (Config.sieveEntries s.core.g.variant), res1 := data.length, data := data }) ∧
        (t.dstLen / 32 < l.length → t.dstLen = 0 → ends (.svRead tid) s.dies { res0 := t.param }) ∧
        (∀ x, t.dstLen / 32 < l.length → got.getLast? = some x → ends (.svRead tid) s.dies { res0 := x.1 + 1, res1 := data.length, data := data }))) ∧
    (∀ x ∈ [(Instr.svOpen tid, 0x600), (.svWrite tid, 0x601), (.svCommit tid, 0x602), (.svAbort tid, 0x603), (.svRead tid, 0x604)],
      s.core.OpAt tid clsAdmin x.2 t → s.core.g.mode = .analysis → ends x.1 s.dies { status := Status.modeRefused, detail := 11 }) ∧
    (∀ k, s.core.leaseHeld = true → s.core.siv.commit = some k → k.step = 3 → (s.core.siv.ok 0 = true ∨ s.core.siv.ok 1 = true) → Completes .sieveBankLoadEnd s (fun c =>
      let both := s.core.siv.ok 0 && s.core.siv.ok 1
      let b := if both then 1 - s.core.siv.primary else if s.core.siv.ok 0 then 0 else 1
      c.siv = { s.core.siv with
        table := s.core.siv.next.getD [], next := none, gen := s.core.flash.svGen, primary := b, mirrorOpen := both
        bankGen := upd b (fun _ => s.core.flash.svGen) s.core.siv.bankGen, commit := some { k with step := if both then 5 else 7 } } ∧
      (s.core.linkMask ≠ 0 → Fx.pulse s.core.linkMask 98 ∈ c.fx) ∧ c.flash = s.core.flash ∧ c.cc.rings = s.core.cc.rings ∧
      (∀ u, s.core.task k.tid = some u → u.st = .committing → u.opclass = clsAdmin → u.opcode = 0x602 → u.fenced = false → u.expanding = false → Table.wf s.core.cc.tasks = true →
        ∃ w, c.task k.tid = some w ∧ w.st = .retired))) ∧
    (∀ k, s.core.leaseHeld = true → s.core.siv.commit = some k → k.step = 5 →
      exec .sieveSearchesDrained s = .next (s.after { s.dies with siv := { s.core.siv with commit := some { k with step := 6 } } })) ∧
    (∀ k, s.core.leaseHeld = true → s.core.siv.commit = some k → k.step = 6 → exec .sieveBankLoadEnd s = .next (s.after { s.dies with siv := { s.core.siv with
      bankGen := upd (1 - s.core.siv.primary) (fun _ => s.core.siv.gen) s.core.siv.bankGen, commit := some { k with step := 7 }, mirrorOpen := false } })) ∧
    (s.core.leaseHeld = false ∨ s.core.siv.commit = none → exec .sieveBankLoadEnd s = .next (s.after s.dies) ∧ exec .sieveSearchesDrained s = .next (s.after s.dies))

/-- The prime reserve and the entropy unit. An idle big-number core searches for primes while a reserve is open; the end of a unit puts the prime it found into its reserve, and the core starts what waits for it; a write of PKE_RSA_GEN sets the size and empties the reserve. A failed health test excludes its source for the cause of the test, the loss of the last HEALTHY one stops every instance; a passed start-up test makes a source HEALTHY. A block of a HEALTHY source is tested bit by bit, and one that passes joins its half's pool as a seed while that holds fewer than 32. With every source tested, sixteen pool seeds instantiate eight instances and SETUP follows, or SAFE_HALT with cause ENTROPY where none passed. A retest request that R343 allows puts its source into TESTING; another is refused and counted. Its conclusions say that these complete: STARTUP_TEST_END, SEED_COMPLETE, PRIME_SEARCH_UNIT_END, PKE_RSA_GEN_WRITE, HEALTH_TEST_FAIL, SEED_RELEASE, ENT_CTRL_RETEST. The model's choices here: the bit order within a noise block is log entry 23, what an excluded source may do is log entry 54, the retest is log entry 24, and the counting is log entry 55. -/
def Obligations.EntropyAndPrimes : Prop :=
  ∀ (s : State),
    (∀ n i,
      let e := Table.findD (engKey 3 n) {} s.core.eng.jobs
      let free : Core := { s.dies with eng := ({ s.core.eng with jobs := Table.put (engKey 3 n) { e with search := false } s.core.eng.jobs } : Engs).kick }
      (e.search = true →
        (∀ p, s.core.r.reserveOpen i = true → primeFits (s.core.r.rsaBits.getD i 0) p = true → p ∉ s.core.r.primes.getD i [] →
          exec (.primeSearchUnitEnd n i (some p)) s = .next (s.after { free with r := { s.core.r with primes := upd i (fun l => l ++ [p]) s.core.r.primes } })) ∧
        exec (.primeSearchUnitEnd n i none) s = .next (s.after free)) ∧
      (e.search = false → ∀ found, exec (.primeSearchUnitEnd n i found) s = .next (s.after s.dies))) ∧
    (∀ (c : Core) n, ([0, 1, 2, 3].any c.r.reserveOpen) = true → n ∈ c.enginesUp 3 → c.searches n = true →
      (Table.findD (engKey 3 n) {} c.settleSearch.eng.jobs).search = true) ∧
    (∀ (v : W64) i, s.manages → i < 4 →
      let o := 0x0F0040 + 8 * i
      let n := v.toNat % 2 ^ 14
      (s.core.g.locked = false → (n = 0 ∨ rsaSizeOk n = true) → n ≠ s.core.r.rsaBits.getD i 0 → exec (.pkeRsaGenWrite 0 i v) s = .next (s.after
        { s.noted 0 0 o v.toNat with r := { s.core.r with rsaBits := upd i (fun _ => n) s.core.r.rsaBits, primes := upd i (fun _ => []) s.core.r.primes } })) ∧
      (s.core.g.locked = false → (n = 0 ∨ rsaSizeOk n = true) → n = s.core.r.rsaBits.getD i 0 → exec (.pkeRsaGenWrite 0 i v) s = .next (s.after (s.noted 0 0 o v.toNat))) ∧
      ((s.core.g.locked = true ∨ (n ≠ 0 ∧ rsaSizeOk n = false)) → exec (.pkeRsaGenWrite 0 i v) s = .next (s.after ((s.noted 0 0 o v.toNat).refuseWrite 0 0 o)))) ∧
    (∀ n x, s.core.ent.src[n]? = some x → (x.st = .testing ∨ x.st = .healthy) → s.core.g.mode ≠ .retain →
      (∀ proportion, Completes (.healthTestFail n proportion) s (fun c =>
        (∃ y, c.ent.src[n]? = some y ∧ y.st = .excluded ∧ y.cause = (if x.st = .testing then 1 else 3) + (if proportion then 1 else 0) ∧
          y.exclusions = (if s.core.g.mode ≠ .wake ∨ s.core.lcState = 3 then min 2 (x.exclusions + 1) else x.exclusions) ∧
          y.worstRun = (if proportion then x.worstRun else max x.worstRun 41) ∧ y.worstApt = (if proportion then max x.worstApt 795 else x.worstApt)) ∧
        (∀ m, m ≠ n → c.ent.src[m]? = s.core.ent.src[m]?) ∧ (s.core.linkMask ≠ 0 → Fx.pulse s.core.linkMask 80 ∈ c.fx) ∧
        (x.st = .healthy → s.core.ent.healthy = 2 → s.core.linkMask ≠ 0 → Fx.pulse s.core.linkMask 82 ∈ c.fx) ∧
        (x.st = .healthy → s.core.ent.healthy = 1 → s.core.ent.run = true → c.ent.run = false ∧ c.ent.pools = [[], []] ∧ (s.core.linkMask ≠ 0 → Fx.pulse s.core.linkMask 83 ∈ c.fx)) ∧
        (s.core.ent.healthy ≠ 1 → c.ent.run = s.core.ent.run ∧ c.ent.pools = s.core.ent.pools ∧ c.cc = s.core.cc))) ∧
      (x.st = .testing → ∀ r a,
        let seen := s.dies.updSrc n (fun x => { x with worstRun := max x.worstRun (min 41 r), worstApt := max x.worstApt (min 795 a) })
        (41 ≤ r → exec (.startupTestEnd n r a) s = .next (s.after (seen.healthFail n false))) ∧
        (r < 41 → 795 ≤ a → exec (.startupTestEnd n r a) s = .next (s.after (seen.healthFail n true))) ∧
        (r < 41 → a < 795 → (x.retest = false ∨ 0 < s.core.ent.healthy) → Completes (.startupTestEnd n r a) s (fun c =>
          (∃ y, c.ent.src[n]? = some y ∧ y.st = .healthy ∧ y.worstRun = max x.worstRun r ∧ y.worstApt = max x.worstApt a ∧ y.exclusions = x.exclusions) ∧
          (∀ m, m ≠ n → c.ent.src[m]? = s.core.ent.src[m]?) ∧ c.cc = s.core.cc ∧ c.g = s.core.g ∧ (x.retest = true → s.core.linkMask ≠ 0 → Fx.pulse s.core.linkMask 81 ∈ c.fx)))) ∧
      (x.st = .healthy → s.core.seedsFlow = true → ∀ block : Bytes, block.length = 256 →
        let pool := s.core.ent.pools.getD (n / 2) []
        let h := blockHealth block
        let w := s.dies.updSrc n (fun x => { x with worstRun := max x.worstRun (min 63 h.worstRun), worstApt := max x.worstApt h.worstApt })
        (∀ p, h.fails = some p → exec (.seedRelease n block) s = .next (s.after (w.healthFail n p))) ∧
        (h.fails = none → 32 ≤ pool.length → exec (.seedRelease n block) s = .next (s.after w)) ∧
        (h.fails = none → pool.length < 32 → (∀ e ∈ s.core.cc.tasks, e.2.waitSeed = false ∧ e.2.awaitsDraw = none) → (∀ k, k < 8 → (s.core.ent.inst k).lost = false) →
          exec (.seedRelease n block) s = .next (s.after { w with
            ent := { w.ent with pools := upd (n / 2) (fun p => p ++ [(sha512 block).take 32]) s.core.ent.pools }
            r := { s.core.r with entSeeds := min (s.core.r.entSeeds + 1) (2 ^ 32 - 1) } })))) ∧
    (∀ kats, s.core.g.mode = .seed → s.core.ent.seeded = false → (∀ x ∈ s.core.ent.src, x.st = .healthy ∨ x.st = .excluded) →
      ((∃ x ∈ s.core.ent.src, x.st = .healthy) → ∀ a b, s.core.ent.pools = [a, b] → a.length = 8 → b.length = 8 → s.core.ent.drbg.length = 8 →
        Completes (.seedComplete kats) s (fun c =>
        let failed := ((List.range 8).filter kats.contains).length
        c.g.mode = .setup ∧ c.g.prev = 2 ∧ c.g.locked = false ∧ c.ent.run = true ∧ c.ent.seeded = true ∧ c.ent.pools = [[], []] ∧ c.ent.drbg.length = 8 ∧
        (∀ k, k < 8 → c.ent.drbg.getD k {} = drbgInstantiate ((a ++ b).getD (2 * k) [] ++ ((a ++ b).getD (2 * k + 1) []).take 16 ++ s.core.serialBytes ++ [byte k])) ∧
        c.ent.src = s.core.ent.src ∧ c.r.entFaults = min (max s.core.r.entFaults (s.core.r.entFaults + failed)) (2 ^ 8 - 1) ∧
        (0 < failed → s.core.linkMask ≠ 0 → Fx.pulse s.core.linkMask 84 ∈ c.fx) ∧
        c.cc = s.core.cc ∧ c.evlog = s.core.evlog ++ [{ kind := 0, time := s.core.now, value := 3 }])) ∧
      (∀ a b, s.core.ent.pools = [a, b] → a.length + b.length < 16 → (∃ x ∈ s.core.ent.src, x.st = .healthy) → exec (.seedComplete kats) s = .next (s.after s.dies)) ∧
      ((∀ x ∈ s.core.ent.src, x.st = .excluded) → Completes (.seedComplete kats) s (fun c => c.g.mode = .safeHalt ∧ c.g.haltCause = 3 ∧ c.g.haltGroup = 0 ∧ c.ent.run = false))) ∧
    (∀ v : W64, s.manages →
      let want := (List.range 4).filter (fun n => v.toNat.testBit n)
      ((∀ n ∈ want, s.core.retestOk n = true) → Completes (.entCtrlRetest 0 v) s (fun c =>
        (∀ n x, s.core.ent.src[n]? = some x → c.ent.src[n]? = some (if n ∈ want then { x with st := .testing, retest := true } else x)) ∧
        c.cc = s.core.cc ∧ c.ports = s.core.ports ∧ c.r = s.core.r)) ∧
      (∀ m ∈ want, s.core.retestOk m = false → Completes (.entCtrlRetest 0 v) s (fun c =>
        (0 < s.core.ports.length → (c.port 0).errCount = min ((s.core.port 0).errCount + 1) (2 ^ 24 - 1)) ∧
        (∀ n x, s.core.ent.src[n]? = some x → s.core.retestOk n = false → c.ent.src[n]? = some x) ∧
        (∀ n x, s.core.ent.src[n]? = some x → n ∈ want → s.core.retestOk n = true → c.ent.src[n]? = some { x with st := .testing, retest := true }))) ∧
      (∀ n x, s.core.ent.src[n]? = some x → (s.core.retestOk n = true ↔
        (s.core.g.mode = .serve ∨ s.core.g.mode = .serveReduced ∨ s.core.g.mode = .quiesce) ∧ 0 < s.core.ent.healthy ∧ x.st = .excluded ∧ x.exclusions = 1)))

/-! ### The Lozenge, the Glaze, redundancy, firmware -/

/-- The Lozenge and the Glaze. An epoch ends at a multiple of 400 ticks, its record is sent and the next epoch begins; in simplex operation it counts as glazed at once. An acknowledgment glazes the oldest record: the mirror holds its content, the lease runs 24 µs from then, its edges are raised, custody state is in flash and the operations that waited complete. A withheld one is sent again, and the check that follows makes the standby UNUSABLE or revokes a bad holder. A lapse and a bad report revoke the lease; the grant gives it to the other complex where that one qualifies. The new holder takes the mirrored state in a new epoch, every task in flight re-dispatched and suspect. A complex that passes its self-test takes a state copy and becomes STANDBY; one that fails twice stays UNUSABLE. Its conclusions say that these complete: GLAZE_EPOCH_END, GLAZE_ACK, GLAZE_RESEND, GLAZE_LINK_CHECK, LEASE_LAPSE, HEALTH_REPORT_BAD, LOZENGE_GRANT, TAKEOVER_END, COMPLEX_SELF_TEST_END, STATE_COPY_END, STATE_COPY_TIMEOUT. The model's choices here: going straight to TESTING, a bad report that disqualifies the standby alone, the simplex link check and the kept detection counter are log entry 69, the lost complex is log entry 70, and what a crumb constructs is log entry 109. -/
def Obligations.GlazeAndLozenge : Prop :=
  ∀ (s : State), s.core.cont.cx.length = 2 → s.core.cont.healthy.length = 2 → s.core.cont.unusableCount.length = 2 →
    let k := s.core.cont
    let bad (c : Core) (h n : Nat) : Prop := c.cont.cxOf h = .unusable ∧ c.cont.unusableCount.getD h 0 = n + 1 ∧ (s.core.linkMask ≠ 0 → Fx.pulse s.core.linkMask 2 ∈ c.fx)
    let revoked (c : Core) (h cause : Nat) : Prop := c.cont.holder = none ∧ c.cont.revoked = some (cause, h) ∧ bad c h (k.unusableCount.getD h 0) ∧ c.cc = s.core.cc ∧ c.mirror = s.core.mirror
    let plain (cc : CC) : Prop := ∀ e ∈ cc.tasks, e.2.st = .committing → e.2.opclass = clsCustody → e.2.opcode ∉ [0x330, 0x331, 0x320, 0x340]
    let e0 := s.core.nextEnd
    (e0.toNat % 400 = 0) ∧
    (s.core.pwr.losing = 0 → k.holder.isSome = true → k.adopting = none → later k.expiry e0 = true →
      (k.simplex = false → Completes .glazeEpochEnd s (fun c =>
        c.sent = s.core.sent ++ [(s.core.cc.epoch, e0, s.core.cc.carried)] ∧ c.cc = { s.core.cc with epoch := s.core.cc.epoch + 1 } ∧ c.mirror = s.core.mirror ∧
        c.cont = { k with lastEnd := e0 } ∧ c.fx = [] ∧ c.ports = s.core.ports)) ∧
      (k.simplex = true → s.core.sent = [] → k.handover = none → plain s.core.cc → Completes .glazeEpochEnd s (fun c =>
        c.sent = [] ∧ c.cont.glazed = s.core.cc.epoch ∧ c.cc.epoch = s.core.cc.epoch + 1 ∧ c.mirror = s.core.cc.carried.seen s.core.cc.epoch ∧
        c.cont.expiry = c.g.devtime + 2400 ∧ c.cont.holder = k.holder ∧ c.flash.cust = s.core.cc.cust.kept))) ∧
    (s.core.pwr.losing ≠ 0 → exec .glazeEpochEnd s = .next (s.after s.dies) ∧ exec .glazeAck s = .next (s.after s.dies)) ∧
    (∀ n e x rest, s.core.sent = (n, e, x) :: rest →
      (s.core.pwr.losing = 0 → s.core.leaseHeld = true → s.core.mirrored = true → k.handover = none → plain s.core.cc → Table.wf s.core.cc.tasks = true → (∀ y ∈ rest, n < y.1) → Completes .glazeAck s (fun c =>
        c.cont.glazed = n ∧ c.mirror = x.seen n ∧ c.cc.edges = s.core.cc.edges.filter (fun y => decide (n < y.1)) ∧ c.cont.expiry = s.core.now + 2400 ∧ c.cont.resent = false ∧ c.cont.holder = k.holder ∧
        c.sent.map (·.1) = rest.map (·.1) ∧ c.fx = (x.edges.filter (fun y => decide (y.1 ≤ n) && y.2.1 != 0)).map (fun y => Fx.pulse y.2.1 y.2.2) ∧ c.flash.cust = x.cust.kept ∧
        (∀ y ∈ c.hostLog, y ∈ s.core.hostLog ∧ n < y.epoch) ∧ c.cc.rings = s.core.cc.rings ∧
        (∀ tid u, s.core.task tid = some u → u.st = .committing → u.commitEpoch ≠ 0 → u.commitEpoch ≤ n → u.fenced = false → u.runningSteps = [] →
          ∃ w, c.task tid = some w ∧ w.st = .retired) ∧
        (∀ tid u, s.core.task tid = some u → u.st = .committing → (u.commitEpoch = 0 ∨ n < u.commitEpoch) → u.fenced = false → c.task tid = some u))) ∧
      (s.core.leaseHeld = false ∨ s.core.mirrored = false → exec .glazeAck s = .next (s.after s.dies)) ∧
      (s.core.leaseHeld = true → s.core.mirrored = true → k.resent = false → later k.expiry (e + 100) = true → exec .glazeResend s = .next (s.after
        (({ s.dies.moveTo (e + 100) with cont := { k with retries := min (k.retries + 1) (2 ^ 24 - 1), resent := true } } : Core).pulseAll 4))) ∧
      (∀ h, k.holder = some h → h < 2 → s.core.leaseHeld = true → k.resent = true → later k.expiry (e + 200) = true → k.update = none →
        (k.healthy.getD h false = false → Completes .glazeLinkCheck s (fun c => revoked c h 3)) ∧
        (k.healthy.getD h false = true → rest = [] → k.handover = none → plain s.core.cc → Completes .glazeLinkCheck s (fun c =>
          c.cont.cxOf (1 - h) = (if k.unusableCount.getD (1 - h) 0 = 0 then .testing else .unusable) ∧ c.cont.unusableCount.getD (1 - h) 0 = k.unusableCount.getD (1 - h) 0 + 1 ∧
          c.cont.holder = some h ∧ c.cont.glazed = n ∧ c.sent = [])))) ∧
    (∀ h, k.holder = some h → h < 2 → k.update = none →
      Completes .leaseLapse s (fun c => revoked c h 2 ∧ c.g.devtime = (if later k.expiry s.core.now then k.expiry else s.core.now)) ∧
      Completes (.healthReportBad h) s (fun c => revoked c h 1 ∧ c.cont.healthy.getD h true = false) ∧
      exec (.healthReportBad (1 - h)) s = .next (s.after { s.dies with cont := { k with healthy := upd (1 - h) (fun _ => false) k.healthy } })) ∧
    (∀ cause f, k.revoked = some (cause, f) → f < 2 →
      (k.qualifies (1 - f) = true → Completes .lozengeGrant s (fun c =>
        c.cont.holder = some (1 - f) ∧ c.cont.expiry = s.core.now + 2400 ∧ c.cont.adopting = some cause ∧ c.cont.revoked = none ∧ c.cont.cxOf (1 - f) = .active ∧
        c.cont.takeoverTime = s.core.now ∧ c.eng.jobs = [] ∧ (cause ≠ 4 → c.cont.cxOf f = k.cxOf f) ∧ (cause = 4 → k.update = none → c.cont.cxOf f = .testing) ∧ c.cc = s.core.cc ∧
        (∀ r, let p := s.core.mirror.pos r
          c.mirror.pos r = if p.started = true ∧ p.f ≠ p.t then { p with suspectTo := some p.t } else p))) ∧
      (k.qualifies (1 - f) = false → Completes .lozengeGrant s (fun c =>
        c.cont.holder = k.holder ∧ c.cont.revoked = none ∧ c.cont.lastChance = some f ∧ c.cont.cxOf f = .testing ∧ c.cc = s.core.cc))) ∧
    (k.revoked = none → exec .lozengeGrant s = .next (s.after s.dies)) ∧
    (∀ cause h, k.adopting = some cause → k.holder = some h → h < 2 → k.update = none → s.core.siv.commit = none → s.core.g.recovery = none → s.core.halted = false →
      s.core.cpath.busy = none → Table.wf s.core.mirror.tasks = true →
      (∀ e ∈ s.core.mirror.tasks, (e.2.st = .admitted ∨ e.2.st = .running ∨ e.2.st = .ending ∨ e.2.st = .fetching) ∧ e.2.gone = false ∧ e.2.fenced = false) → Completes .takeoverEnd s (fun c =>
        c.cont.adopting = none ∧ c.cont.takeovers = min (k.takeovers + 1) (2 ^ 16 - 1) ∧ c.cont.lastCause = cause ∧ c.sent = [] ∧ c.cc.epoch = k.glazed + 1 ∧
        c.cc.seq = s.core.mirror.seq ∧ c.cc.kt = s.core.mirror.kt.unpin ((ctxNodes s.core.mirror.tasks).eraseDups.filter (fun n => !c.cc.pins n)) c.cc.pins ∧ c.cc.cust = s.core.mirror.cust ∧ c.cc.detCtr = s.core.cc.detCtr ∧ c.cc.edges = s.core.mirror.edges.map (fun x => (k.glazed + 1, x.2)) ++ (if s.core.cc.edges.any (fun x => x.2.2 == 113) && c.ktrLow then [(k.glazed + 1, 1, 113)] else []) ∧
        (∀ tid u, s.core.mirror.task tid = some u → c.task tid = if u.st = .fetching then none else some { (if u.refused then u else u.redispatch false) with outLen := s.core.mirror.outLen u }) ∧
        (Table.wf s.core.mirror.rings = true → ∀ r, let p := s.core.mirror.pos r
          c.cc.pos r = p) ∧
        (s.core.linkMask ≠ 0 → Fx.pulse s.core.linkMask 1 ∈ c.fx))) ∧
    (∀ n, n < 2 →
      (k.lastChance = some n → s.core.sent = [] → s.core.mirror.tasks = [] → s.core.halted = false → s.core.g.mode ≠ .retain →
        Completes (.complexSelfTestEnd n true) s (fun c => c.g.mode = .safeHalt ∧ c.g.haltCause = 4 ∧ c.g.haltGroup = 0 ∧ c.cont.holder = some n ∧ c.cont.lastChance = none ∧ c.cont.cxOf n = .active) ∧
        Completes (.complexSelfTestEnd n false) s (fun c => c.g.mode = .safeHalt ∧ c.g.haltCause = 4 ∧ c.cont.dead = true ∧ c.cont.cxOf n = .unusable ∧ c.cont.lastChance = none)) ∧
      (k.lastChance ≠ some n → k.holder.isSome = true → k.cxOf n = .testing →
        Completes (.complexSelfTestEnd n true) s (fun c => c.cont = { k with cx := upd n (fun _ => .syncing) k.cx, copyStart := s.core.now, healthy := upd n (fun _ => true) k.healthy } ∧
          c.cc = s.core.cc ∧ c.fx = []) ∧
        (k.update = none → Completes (.complexSelfTestEnd n false) s (fun c => bad c n (max 1 (k.unusableCount.getD n 0)) ∧ c.cc = s.core.cc ∧ c.cont.holder = k.holder)))) ∧
    (∀ h, k.holder = some h → h < 2 → k.cxOf (1 - h) = .syncing → k.update = none →
      (s.core.leaseHeld = true → later s.core.now (k.copyStart + 1000000) = false → exec .stateCopyEnd s = .next (s.after
        (({ s.dies with cont := { k with cx := upd (1 - h) (fun _ => .standby) k.cx } } : Core).pulseAll 3))) ∧
      Completes .stateCopyTimeout s (fun c => c.cont.cxOf (1 - h) = (if k.unusableCount.getD (1 - h) 0 = 0 then .testing else .unusable) ∧ c.cc = s.core.cc ∧
        c.cont.holder = some h ∧ (s.core.linkMask ≠ 0 → Fx.pulse s.core.linkMask 2 ∈ c.fx)))

/-- Engines, Crumb tests and the other redundancy. A stall takes the engine that holds a step out of service and is counted; an invalid code does the same to any engine of the variant, uncounted; its steps return to their heaps. A Crumb test, what it needs formed by the deterministic construction, is the one that a failure has asked for, else that of a waiting spare, else of the next target of the round, while fewer than two run; its end frees the slot, and a failing target is recorded and replaced. Corrections, an unreadable or restored flash copy and a shed phase are recorded, told of, and below ten phases detected. Its conclusions say that these complete: ENGINE_STALL, DUAL_RAIL_INVALID, CRUMB_START, CRUMB_END, PATROL_SCRUB_PASS, FLASH_COPY_UNREADABLE, FLASH_RESYNC_END, POWER_PHASE_SHED. -/
def Obligations.RedundancyEvents : Prop :=
  ∀ (s : State), s.core.g.mode ≠ .retain →
    let k := s.core.cont
    let cont (x : Cont) : Core := { s.dies with cont := x }
    (∀ cls n, (Table.findD (engKey cls n) {} s.core.eng.jobs).run.isSome = true →
      (s.core.eng.isBad cls n = false → exec (.engineStall cls n) s = .next (s.after
        (({ s.dies with r := { s.core.r with stallCount := min (s.core.r.stallCount + 1) (2 ^ 32 - 1), stallLast := cls + 16 * n } } : Core).markBad cls n))) ∧
      (s.core.eng.isBad cls n = true → exec (.engineStall cls n) s = .next (s.after s.dies))) ∧
    (∀ cls n, s.core.hasEngine cls n = true → exec (.dualRailInvalid cls n) s = .next (s.after (s.dies.markBad cls n))) ∧
    (∀ (c : Core) cls n, c.eng.isBad cls n = false → Table.wf c.eng.jobs = true → let d := c.markBad cls n
      d.eng.isBad cls n = true ∧ Table.find (engKey cls n) d.eng.jobs = none ∧ (∀ m j, engKey m j ≠ engKey cls n → d.eng.isBad m j = c.eng.isBad m j) ∧
      d.g = c.g ∧ d.ports = c.ports ∧ d.cc.rings = c.cc.rings ∧ d.flash = c.flash) ∧
    (s.core.crumbMode = true → k.crumbs.length < 2 → k.crumbAt = none →
      (∀ x l, k.crumbDue = x :: l → exec .crumbStart s = .next (s.after ((cont { k with crumbDue := l }).startCrumb x))) ∧
      (k.crumbDue = [] → ∀ x, s.core.waitingSpare = some x → exec .crumbStart s = .next (s.after (s.dies.startCrumb x))) ∧
      (k.crumbDue = [] → s.core.waitingSpare = none → k.crumbPos < crumbTargets s.core.g.variant → s.core.crumbSkips (crumbAtPos s.core.g.variant k.crumbPos) = false →
        exec .crumbStart s = .next (s.after ((cont { k with crumbPos := k.crumbPos + 1 }).startCrumb (crumbAtPos s.core.g.variant k.crumbPos)))) ∧
      (k.crumbDue = [] → s.core.waitingSpare = none → k.crumbPos = crumbTargets s.core.g.variant → s.core.crumbSkips (crumbAtPos s.core.g.variant 0) = false →
        exec .crumbStart s = .next (s.after ((cont { k with crumbPos := 1, rounds := (k.rounds + 1) % 2 ^ 24 }).startCrumb (crumbAtPos s.core.g.variant 0))))) ∧
    (∀ (c : Core) (x : Crumb), (c.startCrumb x).cont = { c.cont with crumbs := c.cont.crumbs ++ [x], crumbAt := some c.now } ∧
      (c.startCrumb x).cc.detCtr = (c.cc.detCtr + 1) % 2 ^ 48 ∧ (c.startCrumb x).g = c.g ∧ (c.startCrumb x).cc.tasks = c.cc.tasks) ∧
    (2 ≤ k.crumbs.length → exec .crumbStart s = .next (s.after s.dies)) ∧
    (∀ slot x, k.crumbs[slot]? = some x →
      let free := { k with crumbs := k.crumbs.eraseIdx slot }
      let idle := (Table.findD (engKey x.kind x.target) {} s.core.eng.jobs).jobs = []
      let recorded : Core := ({ s.dies with cont := { free with crumbFails := min (k.crumbFails + 1) (2 ^ 8 - 1), crumbLast := 2 ^ 24 * x.kind + 2 ^ 8 * x.target + x.slice } } : Core).pulseAll 8
      (x.kind ≤ 5 → idle → exec (.crumbEnd slot true) s = .next (s.after (recorded.markBad x.kind x.target)) ∧
        exec (.crumbEnd slot false) s = .next (s.after { cont free with eng := s.core.eng.engage (engKey x.kind x.target) })) ∧
      (x.kind ≤ 5 → ¬idle → ∀ b, exec (.crumbEnd slot b) s = .next (s.after s.dies)) ∧
      (6 ≤ x.kind → exec (.crumbEnd slot false) s = .next (s.after (cont free))) ∧
      (x.kind = 6 → exec (.crumbEnd slot true) s = .next (s.after (recorded.mismatch x.target))) ∧
      (7 ≤ x.kind → Completes (.crumbEnd slot true) s (fun c =>
        let u := Table.findD (256 * x.kind + x.target) 0 k.memUsed
        c.cont.crumbFails = min (k.crumbFails + 1) 255 ∧ (u < 2 → c.cont.memUsed = Table.put (256 * x.kind + x.target) (u + 1) k.memUsed ∧ c.cont.memOut = k.memOut) ∧
        (2 ≤ u → c.cont.memSpent = true ∧ c.cont.memUsed = k.memUsed ∧ c.cont.memOut = Table.put (256 * x.kind + x.target) (Table.findD (256 * x.kind + x.target) 0 k.memOut + 1) k.memOut) ∧ c.cc = s.core.cc))) ∧
    (∀ l n, n ∈ s.core.newBadDevices l ↔ (∃ x, l[n]? = some x ∧ 16 ≤ x) ∧ n ∉ k.dramBad) ∧
    (∀ l n, s.core.newBadDevices l = [n] → exec (.patrolScrubPass l) s = .next (s.after ((cont { k with dramBad := k.dramBad ++ [n] }).pulseAll 15))) ∧
    (∀ l, s.core.newBadDevices l = [] → exec (.patrolScrubPass l) s = .next (s.after s.dies)) ∧
    (∀ n b, s.core.flash.readable[n]? = some b →
      let flash (x : Bool) (js : List JCopy) : Core := { s.dies with flash := { s.core.flash with readable := upd n (fun _ => x) s.core.flash.readable, journals := js } }
      let js := s.core.flash.journals
      (b = true → exec (.flashCopyUnreadable n) s = .next (s.after ((flash false (upd n (fun (j : JCopy) => { j with next := none }) js)).pulseAll 10)) ∧
        exec (.flashResyncEnd n) s = .next (s.after s.dies)) ∧
      (b = false → exec (.flashCopyUnreadable n) s = .next (s.after s.dies) ∧
        (s.core.flash.readable.getD (1 - n) false = true → exec (.flashResyncEnd n) s = .next (s.after
          ((flash true (upd n (fun (j : JCopy) => { j with recs := (js.getD (1 - n) {}).recs, next := none }) js)).pulseAll 11))) ∧
        (s.core.flash.readable.getD (1 - n) false = false → exec (.flashResyncEnd n) s = .next (s.after s.dies)))) ∧
    (0 < s.core.pwr.phases → let shed : Core := ({ s.dies with pwr := { s.core.pwr with phases := s.core.pwr.phases - 1 } } : Core).pulseAll 14
      (11 ≤ s.core.pwr.phases → exec .powerPhaseShed s = .next (s.after shed)) ∧
      (s.core.pwr.phases ≤ 10 → exec .powerPhaseShed s = .next (s.after (shed.detect 27 0 0))))

/-- Firmware and handover, from port 0. CN_FW_STAGE of an image of the right form, signature and version waits for its glaze, which puts the image into flash; CN_FW_ACTIVATE of the staged image under the unit quorum waits for its glaze; CN_HANDOVER to a STANDBY records the surrender of the Lozenge at the end of the epoch. In an UPDATE the first passed self-test hands the Lozenge over to the new image, the second commits it and returns to service, and a failure reverts. Its conclusions say that these complete: CN_FW_STAGE, CN_FW_ACTIVATE, CN_HANDOVER, UPDATE_SELF_TEST_END. The model's choices here: an activation or handover that takes effect with a glaze and clears the staged image is log entry 71. -/
def Obligations.FirmwareOperations : Prop :=
  ∀ (s : State) (tid : Nat) (t : Task),
    let ends (i : Instr) (c : Core) (e : OpEnd) : Prop := exec i s = .next (s.after (c.opEnd s.core.cc.cust tid e))
    let k := s.core.cont
    let checks (im : Bytes) : Prop := Config.firmwareSignatureOk im = true ∧ s.core.lcs.fwFloor.toNat ≤ (Config.firmwareVersion im).toNat
    (s.core.OpAt tid clsCustody 0x330 t → t.port = 0 → s.core.fwMode = true → t.formOk 0 false false none 0 = true →
      let good := t.srcLen ≤ 2 ^ 23 ∧ Config.firmwareFormatOk t.source = true
      (¬good → ends (.cnFwStage tid) s.dies { status := Status.inputFormat, detail := 0x332 }) ∧
      (good → Config.firmwareSignatureOk t.source = false → ends (.cnFwStage tid) s.dies { status := Status.authFail, detail := 0x330 }) ∧
      (good → Config.firmwareSignatureOk t.source = true → (Config.firmwareVersion t.source).toNat < s.core.lcs.fwFloor.toNat →
        ends (.cnFwStage tid) s.dies { status := Status.authFail, detail := 0x331 }) ∧
      (good → checks t.source → ends (.cnFwStage tid) s.dies { res0 := (Config.firmwareVersion t.source).toNat, atGlaze := true })) ∧
    (∀ (c : Core) (u : Task), u.opclass = clsCustody → u.status = Status.ok → u.opcode = 0x330 →
      c.accept tid u = { c with flash := { c.flash with fwStaged := some u.source } }) ∧
    (s.core.OpAt tid clsCustody 0x331 t → t.port = 0 → s.core.g.mode = .serve → t.formOk 0 false false (some 48) 0 = true →
      (s.core.flash.fwStaged = none → ends (.cnFwActivate tid) s.dies { status := Status.authFail, detail := 0x333 }) ∧
      (∀ im, s.core.flash.fwStaged = some im →
        (sha384 im ≠ t.source → ends (.cnFwActivate tid) s.dies { status := Status.authFail, detail := 0x333 }) ∧
        (sha384 im = t.source → checks im → ∀ c1, s.dies.gateTask t 0xFFFF = .ok c1 → ends (.cnFwActivate tid) c1 { atGlaze := true }))) ∧
    (s.core.OpAt tid clsCustody 0x332 t → t.port = 0 →
      let other := 1 - k.holder.getD 0
      (s.core.g.mode = .serve → k.cxOf other = .standby → t.formOk 0 false false (some 0) 0 = true →
        ends (.cnHandover tid) { s.dies with cont := { k with handover := some (other, s.core.cc.epoch) } } { res0 := other }) ∧
      (s.core.g.mode ≠ .serve ∨ k.cxOf other ≠ .standby → ends (.cnHandover tid) s.dies { status := Status.modeRefused, detail := s.core.g.mode.code })) ∧
    (∀ i ∈ [(Instr.cnFwStage tid, 0x330), (.cnFwActivate tid, 0x331), (.cnHandover tid, 0x332)], s.core.OpAt tid clsCustody i.2 t → t.port ≠ 0 →
      ends i.1 s.dies { status := Status.modeRefused, detail := s.core.g.mode.code }) ∧
    (∀ u h, k.update = some u → u.reverting = false → k.holder = some h → u.trial < 2 → k.cx.length = 2 → k.fw.length = 2 → k.cxOf u.trial = .updating → s.core.leaseHeld = true →
      (u.second = false → k.qualifies u.trial = true → Completes (.updateSelfTestEnd true) s (fun c =>
        c.cont.cxOf u.trial = .standby ∧ c.cont.holder = none ∧ c.cont.revoked = some (4, h) ∧ c.cont.fw.getD u.trial 0 = s.core.stagedVersion ∧ c.cont.update = some u ∧
        c.g = s.core.g ∧ c.cc = s.core.cc ∧ c.flash = s.core.flash)) ∧
      (u.second = false → s.core.g.mode = .update → Completes (.updateSelfTestEnd false) s (fun c =>
        c.g.mode = (if s.core.g.reducedWas then .serveReduced else .serve) ∧ c.g.updateReverted = true ∧ c.cont.update = none ∧ c.cont.holder = some h ∧
        c.cont.fw = [s.core.flash.fwCommitted, s.core.flash.fwCommitted] ∧ c.flash = s.core.flash)) ∧
      (u.second = true → s.core.g.mode = .update → Completes (.updateSelfTestEnd true) s (fun c =>
        c.g.mode = (if s.core.g.reducedWas then .serveReduced else .serve) ∧ c.g.updateReverted = s.core.g.updateReverted ∧ c.cont.update = none ∧ c.cont.holder = some h ∧
        c.flash.fwCommitted = s.core.stagedVersion ∧ c.flash.fwStaged = none ∧ c.cont.cxOf u.trial = .syncing ∧
        c.lcs.fwFloor = (if (s.core.flash.fwStaged.map Config.firmwareRaisesFloor).getD false then s.core.stagedVersion else s.core.lcs.fwFloor))) ∧
      (u.second = true → Completes (.updateSelfTestEnd false) s (fun c =>
        c.cont.update = some { u with reverting := true } ∧ c.cont.cxOf u.trial = .testing ∧ c.cont.holder = some h ∧ c.g = s.core.g ∧ c.flash = s.core.flash)))

/-! ### Inputs, the loss of power, telemetry -/

/-- Inputs and the loss of main power. An input takes the state its voltage and present state give, source 12 telling of one that leaves its range; an input in range for 100 ms is restored. The loss of both glazes the epoch in progress and stops fetching; the flush, of 200 µs at most, puts every glazed commit into flash and is recorded; after it, or at once where PWROK_OUT has fallen, RETAIN keeps what R27 keeps and nothing else. Telemetry and the SMBus. A refresh puts the measured averages, each at most the largest value of its field, where the registers read them. A read of a command code is answered with its value low byte first, and the packet error code where it is asked for; a code that R461 does not list reads as ones; every data byte of a write is refused; while PWROK_OUT is low nothing is answered. Its conclusions say that these complete: VIN_STATE_CHANGE, VIN_RESTORE, BOTH_INPUTS_LOST, HOLDUP_FLUSH_END, RETAIN_ENTER, VIN_A, VIN_B, IIN, PIN, TEMP, VBAT, STATUS, INPUTS, SMBUS_OTHER_COMMAND, SMBUS_WRITE, SMBUS_CLOCK_LOW_TIMEOUT, TELEMETRY_REFRESH. The model's choices here: the loss of both inputs glazing the epoch at once and RETAIN from either step are log entry 79, and the PEC and the second byte 0xFF are log entry 80, PRESUMED from outside the spec. -/
def Obligations.PowerAndTelemetry : Prop :=
  (∀ (s : State),
     let c0 := s.core
     let pwr (x : Pwr) : Core := { s.dies with pwr := x }
     (∀ i old mv, c0.pwr.vin[i]? = some old →
       let new := vinState old mv
       let back := if old = 2 then upd i (fun _ => false) c0.pwr.back else c0.pwr.back
       let c := pwr { c0.pwr with vin := upd i (fun _ => new) c0.pwr.vin, back := back }
       (new = old → exec (.vinStateChange i mv) s = .next (s.after s.dies)) ∧
       (new ≠ old → exec (.vinStateChange i mv) s = .next (s.after (if old = 2 then c.pulseAll 12 else c)))) ∧
     (∀ (old : Nat) (mv : Int), vinState old mv = (if old = 4 then 4 else if mv < -500 then 5 else if mv < 8750 then 0
       else if mv < 9000 then (if old = 1 ∨ old = 2 ∨ old = 3 then 1 else 0) else if mv ≤ 60000 then 2 else 3)) ∧
     (∀ i, let st := c0.pwr.vin.getD i 0
       ((st = 2 ∧ c0.pwr.back.getD i true = false) ∨ st = 4 → exec (.vinRestore i) s = .next (s.after
         ((pwr { c0.pwr with vin := upd i (fun _ => 2) c0.pwr.vin, back := upd i (fun _ => true) c0.pwr.back }).pulseAll 13))) ∧
       (st ≠ 4 → (st ≠ 2 ∨ c0.pwr.back.getD i true = true) → exec (.vinRestore i) s = .next (s.after s.dies))) ∧
     (c0.g.mode ≠ .retain → c0.pwr.losing = 0 → (∀ x ∈ c0.pwr.vin, x ≠ 1 ∧ x ≠ 2 ∧ x ≠ 3) →
       (c0.cont.holder = none → exec .bothInputsLost s = .next (s.after (pwr { c0.pwr with losing := 1, lossAt := c0.now }))) ∧
       (c0.cont.holder.isSome = true → c0.cont.adopting = none → later c0.cont.expiry c0.nextEnd = true → c0.sent = [] → c0.cont.handover = none →
         (∀ e ∈ c0.cc.tasks, e.2.st ≠ .committing) → Completes .bothInputsLost s (fun c =>
           c.pwr = { c0.pwr with losing := 1, lossAt := c0.now } ∧ c.sent = [] ∧ c.cont.glazed = c0.cc.epoch ∧ c.mirror = c0.cc.carried.seen c0.cc.epoch ∧
           c.flash.cust = c0.cc.cust.kept ∧ (∀ p r, c.fetchAllowed p r = false)))) ∧
     ((∃ x ∈ c0.pwr.vin, x = 1 ∨ x = 2 ∨ x = 3) → exec .bothInputsLost s = .next (s.after s.dies)) ∧
     (∀ us, us ≤ 200 → c0.pwr.losing = 1 → Completes (.holdupFlushEnd us) s (fun c =>
       c.pwr = { c0.pwr with losing := 2 } ∧ c.flash.losses = min (c0.flash.losses + 1) (2 ^ 16 - 1) ∧ c.flash.lastUs = min us (2 ^ 16 - 1) ∧
       (c0.cc.libCommits = [] → (∀ k ∈ c0.cc.ktCommits, k.epoch ≤ c0.cont.glazed) →
         c.cc.ktCommits = [] ∧ c.flash.journals = (c0.cc.ktCommits.foldl (fun (x : Core) k => x.appendJournal k.no k.recs) c0).flash.journals))) ∧
     (∀ us, (c0.pwr.losing ≠ 1 ∨ 200 < us) → exec (.holdupFlushEnd us) s = .next (s.after s.dies)) ∧
     ((2 ≤ c0.pwr.losing ∨ (c0.pwr.losing = 1 ∧ c0.pwr.pwrok = false)) → c0.g.mode ≠ .retain → Completes .retainEnter s (fun c =>
       c.g.mode = .retain ∧ c.g.prev = c0.g.mode.code ∧ c.g.enable = false ∧ c.pwr.pwrok = false ∧ c.pwr.losing = 0 ∧ c.ports = c0.ports.map (fun p => ({ perstLow := p.perstLow, refStable := p.refStable } : Port)) ∧ c.slc = [] ∧ c.ring = [] ∧
       c.cc.tasks = [] ∧ c.cc.kt = {} ∧ c.cc.cust = c0.flash.cust.woken ∧ c.eng = {} ∧ c.ent = {} ∧ c.flash = c0.flash ∧ c.lcs.copies = c0.lcs.copies ∧ c.lcs.progress = c0.lcs.progress ∧
       c.tmp.group = none ∧ (c0.tmp.unprotected = true → c.batt.swk = none ∧ c.batt.counter = none ∧ c.batt.log = []) ∧
       (c0.tmp.unprotected = false → c0.tmp.group = none → c0.halted = false → c.batt = { c0.batt with seconds := 0 }) ∧
       (∀ n, n < 4 → Fx.evcReset n ∈ c.fx))) ∧
     ((c0.pwr.losing = 0 ∨ (c0.pwr.losing = 1 ∧ c0.pwr.pwrok = true)) → exec .retainEnter s = .next (s.after s.dies))) ∧
  (∀ (s : State),
     let c0 := s.core
     (c0.g.mode ≠ .retain → ∀ vin current power temp vbat pace ohms, vin.length = 2 → current.length = 2 → pace.length = 2 → ohms.length = 4 →
       exec (.telemetryRefresh vin current power temp vbat pace ohms) s = .next (s.after { s.dies with
         pwr := { c0.pwr with volts := vin.map (fun x => min x (2 ^ 16 - 1)), amps := current.map (fun x => min x (2 ^ 16 - 1)), power := min power (2 ^ 16 - 1) }
         tmp := { c0.tmp with temp := temp, vbat := min vbat (2 ^ 16 - 1), pace := pace.map (fun x => min x (2 ^ 24 - 1)), ohms := ohms.map (fun x => min x (2 ^ 16 - 1)) } })) ∧
     (c0.pwr.pwrok = true → ∀ word pec : Bool,
       let answer (i : Instr) (d : Bytes) : Prop := exec i s = .next (s.after (s.dies.send (.smbus d 0)))
       let two (i : Instr) (code v : Nat) : Prop :=
         let d := (leBytes 2 v).take (if word then 2 else 1)
         answer i (d ++ if pec then [smbusPec code d] else [])
       two (.vinA word pec) 0xD0 (c0.pwr.volts.getD 0 0) ∧ two (.vinB word pec) 0xD1 (c0.pwr.volts.getD 1 0) ∧
       two (.iin word pec) 0xD2 (min (c0.pwr.amps.getD 0 0 + c0.pwr.amps.getD 1 0) (2 ^ 16 - 1)) ∧ two (.pin word pec) 0xD3 c0.pwr.power ∧
       two (.temp word pec) 0xD4 (BitVec.ofInt 16 c0.tmp.temp).toNat ∧ two (.vbat word pec) 0xD5 c0.tmp.vbat ∧
       two (.status word pec) 0xD6 (c0.g.mode.code + 16 * (if c0.g.reducedWas then 1 else 0) + 32 * (if c0.safeLow then 1 else 0) + 64 * (if c0.alertLow then 1 else 0) + 256 * c0.pwr.phases) ∧
       (let v := c0.pwr.vin.getD 0 0 + 16 * c0.pwr.vin.getD 1 0
        let d := byte v :: (if word then [0xFF] else [])
        answer (.inputs word pec) (d ++ if pec then [smbusPec 0xD7 d] else [])) ∧
       (∀ code, (code < 0xD0 ∨ 0xD7 < code) → answer (.smbusOtherCommand code word pec) (List.replicate (1 + (if word then 1 else 0) + (if pec then 1 else 0)) 0xFF)) ∧
       (∀ code data, code < 256 → exec (.smbusWrite code data) s = .next (s.after (s.dies.send (.smbus [] data.length)))) ∧
       exec (.smbusOtherCommand 0xD3 word pec) s = exec (.pin word pec) s) ∧
     (c0.pwr.pwrok = false → ∀ word pec code data, exec (.status word pec) s = .next (s.after s.dies) ∧ exec (.smbusOtherCommand code word pec) s = .next (s.after s.dies) ∧
       exec (.smbusWrite code data) s = .next (s.after s.dies)) ∧
     exec .smbusClockLowTimeout s = .next (s.after s.dies))

/-! ### Tamper monitors, injections -/

/-- Alarms. A detection of a source that can detect and whose condition is new opens a group under the next number or joins the open one, with its class in force (that of the open group it joins), and starts its response at once: a HALT stops the engines, an ERASE stops them and begins. The end of the window closes the group: its mode, its log entry and source 32 + a of each member. The end of an ERASE leaves no secret. A condition that is gone may be detected anew. Its conclusions say that these complete: ALARM_DETECT, ALARM_GROUP_CLOSE, ERASE_END, ALARM_REARM. The model's choices here: momentary sources, the engines that stop at detection and the moments of the erase are log entry 53, the early close of the open group is log entry 103, and the nominal times of the erase are log entry 104. -/
def Obligations.AlarmEvents : Prop :=
  ∀ (s : State),
    let c0 := s.core
    (∀ a seconds input, c0.alarmLive a = true → c0.tmp.persists a input = false → c0.g.mode ≠ .retain → c0.lcState ≠ 4 →
      (let cls := c0.alarmClass a
       c0.tmp.group = none → Completes (.alarmDetect a seconds input) s (fun c =>
        c.batt.counter = some c0.nextGroup ∧ c.tmp.seen = c0.tmp.seen ||| 2 ^ a ∧
        (isMomentary a = false → c.tmp.level = c0.tmp.level ||| 2 ^ a) ∧ (isMomentary a = true → c.tmp.level = c0.tmp.level) ∧
        (a = 6 → c.tmp.unprotected = true) ∧ (a = 7 → c.tmp.overs = c0.tmp.overs ||| 2 ^ input) ∧
        (∃ g, c.tmp.group = some g ∧ g.number = c0.nextGroup ∧ g.openAt = c0.now ∧ g.mode = c0.g.mode.code ∧ g.members = 2 ^ a ∧ g.cls = cls ∧ g.injected = false ∧
          g.erasing = decide (3 ≤ cls) ∧ g.eraseDone = false ∧ g.eraseAt = c0.now) ∧
        ((3 ≤ cls ∨ (cls = 2 ∧ c0.halted = false)) → c.eng.jobs = []) ∧ (¬(1 ≤ cls ∧ 9 ≤ a ∧ a ≤ 12) → c.g = c0.g) ∧
        (1 ≤ cls → 9 ≤ a → a ≤ 12 → c0.ports.length = 4 → c.g.mode = c0.g.mode ∧ (c.port (a - 9)).resetting = true ∧ (c.port (a - 9)).link = .down ∧
          (c.port (a - 9)).refStable = false ∧ (∀ m, m ≠ a - 9 → c.port m = c0.port m)) ∧
        (1 ≤ cls → a = 24 → c.lcs.disabled = true) ∧ c.flash = c0.flash ∧ c.batt.swk = c0.batt.swk)) ∧
      (∀ g, c0.tmp.group = some g → g.takes c0.now c0.batt.seconds = true → Completes (.alarmDetect a seconds input) s (fun c =>
        let cls := g.classes.getD a 0
        c.batt.counter = c0.batt.counter ∧ ∃ h, c.tmp.group = some h ∧ h.number = g.number ∧ h.openAt = g.openAt ∧ h.members = g.members ||| 2 ^ a ∧ h.cls = max g.cls cls ∧
          h.erasing = (g.erasing || decide (3 ≤ cls))))) ∧
    (∀ a seconds input, (c0.alarmLive a = false ∨ c0.tmp.persists a input = true) → exec (.alarmDetect a seconds input) s = .next (s.after s.dies)) ∧
    (∀ g, c0.tmp.group = some g →
      (g.inRetain = false → (g.erasing = false ∨ g.eraseDone = true) → c0.lcState ≠ 4 → c0.halted = false → c0.g.mode ≠ .retain → Completes .alarmGroupClose s (fun c =>
        c.tmp.group = none ∧ ((∀ x ∈ c0.flash.alarmLog, x.group ≤ g.number) → c.tmp.lastGroup = g.number ∧ c.tmp.lastSources = g.members ∧ c.tmp.lastClass = g.cls) ∧
        (g.cls = 3 → c.g.mode = .zeroized ∧ c.g.haltGroup = g.number % 2 ^ 16) ∧ (g.cls = 2 → c.g.mode = .safeHalt ∧ c.g.haltCause = 1 ∧ c.g.haltGroup = g.number % 2 ^ 16) ∧
        (g.cls < 2 → c.g.mode = c0.g.mode) ∧
        (c0.flash.alarmLog.length < 4096 → ∃ e ∈ c.flash.alarmLog, e.group = g.number ∧ e.members = g.members ∧ e.cls = g.cls ∧ e.time = g.openAt ∧ e.mode = g.mode ∧ e.state = c0.lcState) ∧
        c.flash.alarmLog.length = min (c0.flash.alarmLog.length + 1) 4096) ∧
        (∀ a, a < 29 → g.members.testBit a = true → c0.linkMask ≠ 0 → Completes .alarmGroupClose s (fun c => Fx.pulse c0.linkMask (32 + a) ∈ c.fx))) ∧
      (g.erasing = true → g.eraseDone = false →
        exec .alarmGroupClose s = .next (s.after s.dies) ∧
        Completes .eraseEnd s (fun c => c.batt.swk = none ∧ c.cc.kt = {} ∧ c.cc.lib = [] ∧ c.cc.ktCommits = [] ∧ c.cc.cust.sessions = [] ∧ c.mirror.kt = {} ∧ c.g.dramKey = none ∧
          c.eng.hot = [[], [], [], []] ∧ c.eng.jobs = [] ∧ c.ent.run = false ∧ c.ent.drbg = List.replicate 8 {} ∧ c.r.primes = [[], [], [], []] ∧
          c.tmp.group = some { g with eraseDone := true } ∧ c.flash.journals = c0.flash.journals ∧ c.flash.cust = c0.flash.cust ∧ c.g.mode = c0.g.mode ∧
          c.g.devtime = (if later (g.eraseAt + 500) c0.now then g.eraseAt + 500 else c0.now))) ∧
      (g.erasing = false → exec .eraseEnd s = .next (s.after s.dies))) ∧
    (c0.tmp.group = none → exec .alarmGroupClose s = .next (s.after s.dies) ∧ exec .eraseEnd s = .next (s.after s.dies)) ∧
    (∀ a, a < 29 → Completes (.alarmRearm a) s (fun c => (∀ b, b < 29 → c.tmp.level.testBit b = (c0.tmp.level.testBit b && b != a)) ∧ c.tmp.group = c0.tmp.group ∧ c.cc = c0.cc ∧ c.g = c0.g))

/-- Stimulus tests, the battery domain, the alarm configuration and log, and injections. A stimulus that a channel does not see is a detection of source 28, in RETAIN an entry of the battery log. The loss of the battery domain takes the SWK, the log and the counter. TM_CONFIGURE in an accepting mode, under the unit quorum, waits for its glaze; TM_LOG_READ answers the entries from a group number on. An injection that R420 accepts is counted and runs; its end records the outcome and tells of it, and one that was not REAL or did not fire does nothing else, and a latency outside R420's bounds is no event that can happen. Its conclusions say that these complete: MONITOR_STIMULUS, RETAIN_STIMULUS, RETENTION_PROTECT_RESTORE, TM_CONFIGURE, TM_LOG_READ, INJ_CTRL_GO, INJECTION_END, BATTERY_DOMAIN_LOSS. The model's choices here: DONE alone cleared by GO and a latency outside its bounds being impossible are log entry 52, an event that cannot take place leaving the state as it is is log entry 36, and which device numbers an injection names is log entry 106. -/
def Obligations.MonitorOperations : Prop :=
  ∀ (s : State) (tid : Nat) (t : Task),
    let c0 := s.core
    let ends (i : Instr) (c : Core) (e : OpEnd) : Prop := exec i s = .next (s.after (c.opEnd s.core.cc.cust tid e))
    (∀ a ch, c0.g.mode ≠ .retain → a < 29 → ch < 2 →
      exec (.monitorStimulus a ch true) s = .next (s.after s.dies) ∧
      (c0.alarmEnabled a = true → exec (.monitorStimulus a ch false) s = exec (.alarmDetect 28 0 0) s) ∧
      (c0.alarmEnabled a = false → exec (.monitorStimulus a ch false) s = .next (s.after s.dies))) ∧
    (∀ failing seconds, c0.g.mode = .retain → c0.batt.counter.isSome = true →
      let bad := failing.filter (fun k => isBattery (k / 2) && c0.alarmEnabled (k / 2))
      (bad = [] → exec (.retainStimulus failing seconds) s = .next (s.after s.dies)) ∧
      (bad ≠ [] → c0.tmp.group = none → Completes (.retainStimulus failing seconds) s (fun c =>
        (∀ k, k ∈ c.batt.failedStimulus ↔ k ∈ c0.batt.failedStimulus ∨ k ∈ bad) ∧ c.batt.swk = c0.batt.swk ∧
        ∃ g, c.tmp.group = some g ∧ g.members = 2 ^ 28 ∧ g.inRetain = true ∧ g.seconds = max c0.batt.seconds seconds ∧ g.number = c0.nextGroup))) ∧
    (c0.g.mode ≠ .retain → exec .retentionProtectRestore s = .next (s.after { s.dies with tmp := { c0.tmp with unprotected := false } }) ∧
      exec .batteryDomainLoss s = .next (s.after s.dies)) ∧
    (c0.g.mode = .retain → exec .batteryDomainLoss s = .next (s.after { s.dies with
      batt := { c0.batt with swk := none, log := [], overflow := 0, counter := none, failedStimulus := [], lost := true }, tmp := { c0.tmp with group := none } })) ∧
    (∀ ohms, s.core.OpAt tid clsCustody 0x320 t → t.port = 0 → t.formOk 0 false false none 0 = true →
      (c0.tmMode false = false → ends (.tmConfigure tid ohms) s.dies { status := Status.modeRefused, detail := c0.g.mode.code }) ∧
      (∀ d, c0.tmMode false = true → tmCheck t.source ohms c0.floors = some d → ends (.tmConfigure tid ohms) s.dies { status := Status.inputFormat, detail := d }) ∧
      (c0.tmMode false = true → tmCheck t.source ohms c0.floors = none → ∀ c1, s.dies.gateTask t 0xFFFF = .ok c1 →
        ends (.tmConfigure tid ohms) ((c1.updTask tid (fun t => { t with chain := (ohms.map (leBytes 4)).flatten })).edge c0.linkMask 61) { atGlaze := true })) ∧
    (s.core.OpAt tid clsCustody 0x321 t → c0.tmMode true = true → t.formOk 0xFFFFFFFF false false (some 0) 32 = true → t.dstLen % 32 = 0 →
      let r := logFrom c0.flash.alarmLog t.param (t.dstLen / 32) (match c0.tmp.group with
        | some g => g.number
        | none => c0.nextGroup)
      let data := (r.1.map AlarmEnt.bytes).flatten
      ends (.tmLogRead tid) s.dies { res0 := r.2, res1 := data.length, data := data }) ∧
    (s.core.OpAt tid clsCustody 0x321 t → c0.tmMode true = false → ends (.tmLogRead tid) s.dies { status := Status.modeRefused, detail := c0.g.mode.code }) ∧
    (∀ v : W64, s.manages →
      let real := v.toNat.testBit 1
      let c := s.noted 0 0 0x160008 (v ||| 1).toNat
      let ok := (real = true → c0.lcState = 1 ∨ c0.lcState = 3) ∧ c0.tmp.injRunning = false ∧ c0.injMode = true ∧ injNames c0.g.variant c0.tmp.injKind c0.tmp.injInst = true
      (ok → exec (.injCtrlGo 0 v) s = .next (s.after { c with tmp := { c0.tmp with
        injReal := real, injRunning := true, injRunReal := real, injRun := c0.tmp.injSel
        injResult := w48 (clearBits c0.tmp.injResult.toNat (2 ^ 32)), injCount := min (c0.tmp.injCount + 1) (2 ^ 48 - 1) } })) ∧
      (¬ok → exec (.injCtrlGo 0 v) s = .next (s.after (c.refuseWrite 0 0 0x160008)))) ∧
    (∀ inst ns, (latencyOk 1 inst ns = true ↔ ns ≤ 5000) ∧ (latencyOk 2 inst ns = true ↔ ns = (if inst % 2 = 1 then 15900 else 820)) ∧
      (latencyOk 5 inst ns = true ↔ 50000 ≤ ns ∧ ns ≤ 50010) ∧ (latencyOk 7 inst ns = true ↔ ns ≤ 400) ∧ (latencyOk 10 inst ns = true ↔ 2000 ≤ ns ∧ ns ≤ 6000)) ∧
    (∀ fired latency, c0.tmp.injRunning = true →
      let kind := c0.tmp.injRun.toNat / 2 ^ 16 % 2 ^ 8
      let inst := c0.tmp.injRun.toNat % 2 ^ 16
      let result : W48 := BitVec.ofNat 48 ((if c0.tmp.injRunReal then 2 ^ 34 else 0) + (if fired then 2 ^ 33 else 0) + 2 ^ 32 + (if fired then latency % 2 ^ 32 else 0))
      ((fired = false ∨ c0.tmp.injRunReal = false) → (fired = true → latencyOk kind inst latency = true) → exec (.injectionEnd fired latency) s = .next (s.after
        (({ s.dies with tmp := { c0.tmp with injRunning := false, injResult := result } } : Core).pulseAll 62))) ∧
      (fired = true → c0.tmp.injRunReal = true → latencyOk kind inst latency = true →
        let c := s.dies.injRespond kind inst
        exec (.injectionEnd fired latency) s = .next (s.after (({ c with tmp := { c.tmp with injRunning := false, injResult := result } } : Core).pulseAll 62))) ∧
      (fired = true → latencyOk kind inst latency = false → exec (.injectionEnd fired latency) s = .next (s.after s.dies))) ∧
    (∀ fired latency, c0.tmp.injRunning = false → exec (.injectionEnd fired latency) s = .next (s.after s.dies))

/-! ### Life cycle, debug port, WAKE and recovery -/

/-- Life-cycle requests, the transition and the debug port. A request that passes R434's checks is logged and waits for its glaze, whatever the signers its row names have to give; one that fails ends with the check's DETAIL. The steps of a transition burn and erase in R436's order, each with its mark, and CLOSED passes to WAKE, unless both inputs are lost; a burn that fails leaves the bits before the failing one burnt and the mark open. The debug port is inert in FIELDED, where a clock edge is a detection, and where it is disabled; elsewhere each instruction is selected and shifts its register out, an access to a locked region is counted and answered with the fixed pattern. Its conclusions say that these complete: LC_REQUEST, TRANSIT_STEP_END, BYPASS, IDCODE, SAMPLE, EXTEST, DBG_ADDR, DBG_ACCESS, TEST_LOGIC_RESET_EXIT. The model's choices here: the scan chain's shifted-out value and the IDCODE are log entry 7, PRESUMED from outside the spec, a second request refused, the kind-3 entry, the failed burn and CLOSED during a loss are log entry 78, what an unwritten internal word reads as is a free value (log entry 75), and the order of the bits of a burn is log entry 108. -/
def Obligations.LifeCycleAndDebug : Prop :=
  ∀ (s : State) (tid : Nat) (t : Task),
    let c0 := s.core
    let ends (i : Instr) (c : Core) (e : OpEnd) : Prop := exec i s = .next (s.after (c.opEnd s.core.cc.cust tid e))
    (s.core.OpAt tid clsCustody 0x340 t → t.port = 0 → t.formOk 0 false false none 0 = true →
      let b := t.source
      let frm := byteAt 64 b
      let dest := byteAt 65 b
      let who := byteAt 66 b
      let log (c : Core) : Core := { c with evlog := c.evlog ++ [{ kind := 3, time := c0.now, value := beNat (cut 68 8 b) }] }
      let refuses (c : Core) (st d : Nat) : Prop := ends (.lcRequest tid) c { status := st, detail := d }
      let ours := cut 4 12 b = c0.serialBytes ∧ cut 16 48 b = c0.identityDigest
      let row := frm = c0.lcState ∧ lcPermitted frm dest = true
      ((c0.lcServed = false ∨ c0.lcPending = true) → refuses s.dies Status.modeRefused c0.g.mode.code) ∧
      (c0.lcServed = true → c0.lcPending = false →
        (lcForm b = false → refuses s.dies Status.inputFormat 0x340) ∧
        (lcForm b = true → ¬ours → refuses (s.dies.edge c0.linkMask 163) Status.authFail 0x341) ∧
        (lcForm b = true → ours → ¬row → refuses s.dies Status.inputFormat 0x342) ∧
        (lcForm b = true → ours → row → who.testBit 0 = true → c0.lcSigned b = false → refuses (s.dies.edge c0.linkMask 163) Status.authFail 0x343) ∧
        (lcForm b = true → ours → row → (who.testBit 0 = true → c0.lcSigned b = true) →
          (dest = 2 → (c0.cc.cust.group 0xFFFF).keys.length < 2 → refuses s.dies Status.inputFormat 0x344) ∧
          ((dest = 2 → 2 ≤ (c0.cc.cust.group 0xFFFF).keys.length) →
            (who.testBit 1 = false → ends (.lcRequest tid) (log s.dies) { res0 := dest, atGlaze := true }) ∧
            (who.testBit 1 = true → ∀ c1, s.dies.gateTask t 0xFFFF = .ok c1 → ends (.lcRequest tid) (log c1) { res0 := dest, atGlaze := true }) ∧
            (who.testBit 1 = true → ∀ c1 e, s.dies.gateTask t 0xFFFF = .error (.refused c1 e) → ends (.lcRequest tid) c1 { status := e.1, detail := e.2 }))))) ∧
    (c0.g.mode = .transit →
      let at_ (n : Nat) (f : Lcs → Lcs) : State := s.after { s.dies with lcs := { f c0.lcs with transitStep := n } }
      let step := c0.lcs.transitStep
      let dest := c0.lcs.transitTo
      let burns (k : Nat) (f : Lcs → Nat → Lcs) : Prop :=
        (∀ n, exec (.transitStepEnd 0 n) s = .next (at_ (k + 1) (f · (2 ^ 16)))) ∧
        (∀ o n, 2 ≤ o → exec (.transitStepEnd o n) s = .next (at_ k (f · n))) ∧
        (∀ n, c0.tmp.group = none → Completes (.transitStepEnd 1 n) s (fun c =>
          c.lcs.transitStep = 0 ∧ c.lcs.copies = (f c0.lcs n).copies ∧ c.lcs.progress = (f c0.lcs n).progress ∧ c.g.mode = .transit))
      (step = 1 → burns 1 (fun l n => l.burnMark 0 n)) ∧ (step = 3 → burns 3 (fun l n => l.burnMark 1 n)) ∧
      (step = 4 → burns 4 Lcs.burnState) ∧ (step = 5 → burns 5 (fun l n => l.burnMark 2 n)) ∧
      (∀ n, step = 2 → 8 * (c0.lcs.trims.length + c0.lcs.l0.length + c0.lcs.attSeed.length) ≤ 2 ^ 16 → Completes (.transitStepEnd 0 n) s (fun c =>
        c.lcs.transitStep = 3 ∧ c.lcs.copies = c0.lcs.copies ∧ c.lcs.progress = c0.lcs.progress ∧ c.g.mode = .transit ∧
        (dest = 2 → c.flash = c0.flash ∧ c.batt = c0.batt ∧ c.cc = c0.cc) ∧
        ((dest = 1 ∨ dest = 3 ∨ dest = 4) → c.batt.swk = none ∧ c.flash.swkCheck = none ∧ c.flash.journals = [{}, {}] ∧ c.flash.lib = [] ∧ c.flash.svMaster = [] ∧ c.flash.cust.groups = [] ∧ c.cc.cust.groups = []) ∧
        (dest = 4 → c.flash.alarmLog = [] ∧ c.flash.tag = zeros 256 ∧ c.flash.trims = none ∧ c.lcs.burntOut = true))) ∧
      (∀ n, step = 6 → Completes (.transitStepEnd 0 n) s (fun c => c.lcs.transitStep = 7 ∧ (dest ≠ 2 → c.flash = c0.flash ∧ c.tmp = c0.tmp) ∧
        (dest = 2 → c0.tmp.cfg.cls.length = 29 → ∀ a, a < 29 → c.flash.cfg.cls.getD a 0 = max (c0.tmp.cfg.cls.getD a 0) (fieldedFloors.getD a 0)))) ∧
      (∀ o n, 1 ≤ o → (step = 6 ∨ (step = 2 ∧ dest ≠ 4)) → exec (.transitStepEnd o n) s = .next (s.after s.dies)) ∧
      (∀ n, step = 7 → c0.pwr.losing ≠ 0 → Completes (.transitStepEnd 0 n) s (fun c => c.g = c0.g ∧ c.lcs.transitStep = 0 ∧ c.lcs.progress = (c0.lcs.burnMark 3 (2 ^ 16)).progress ∧ c.pwr = c0.pwr)) ∧
      (∀ n, step = 7 → c0.pwr.losing = 0 → Completes (.transitStepEnd 0 n) s (fun c => c.g.mode = .wake ∧ c.g.prev = 8 ∧ c.g.wakeFault = 0 ∧ c.lcs.closedNow = true ∧ c.cc.tasks = [] ∧ c.cc.kt = {} ∧
        c.flash = c0.flash ∧ c.g.devtime = c0.now ∧ c.lcs.progress = (c0.lcs.burnMark 3 (2 ^ 16)).progress ∧ c.lcs.copies = c0.lcs.copies)) ∧
      (∀ n, step = 7 → c0.tmp.group = none → Completes (.transitStepEnd 1 n) s (fun c =>
        c.lcs.transitStep = 0 ∧ c.lcs.copies = c0.lcs.copies ∧ c.lcs.progress = (c0.lcs.burnMark 3 n).progress ∧ c.g.mode = .transit))) ∧
    (c0.g.mode ≠ .transit → ∀ o n, exec (.transitStepEnd o n) s = .next (s.after s.dies)) ∧
    (∀ (l : Lcs) (i : Nat), i < 4 → 1 ≤ l.transitTo → l.transitTo ≤ 4 → l.progress.length = 4 → (∀ p ∈ l.progress, p.length = 3) → l.copies.length = 3 →
      groupSet ((l.burnMark i (2 ^ 16)).mark (l.transitTo - 1)) i = true ∧ groupSet (l.burnState (2 ^ 16)).word (l.transitTo - 1) = true ∧
      (∀ n, n ≤ 8 → (l.burnState n).copies.drop 1 = l.copies.drop 1)) ∧
    (c0.g.mode ≠ .retain → ∀ (v code : Nat) (a d : W64) (w : Bool),
      let tap := [Instr.bypass code, .idcode, .sample v, .extest v, .dbgAddr a, .dbgAccess w d, .testLogicResetExit]
      let att : Core := if c0.lcs.attached then s.dies else ({ s.dies with lcs := { c0.lcs with attached := true } } : Core).pulseAll 165
      let sel (n : Nat) : Core := if att.lcs.ir = n then att else ({ att with lcs := { att.lcs with ir := n } } : Core).send (.tap 8 1)
      let lcs (n : Nat) (f : Lcs → Lcs) : Core := { sel n with lcs := f (sel n).lcs }
      (c0.lcState = 2 → ∀ i ∈ tap, exec i s = exec (.alarmDetect 24 0 0) s) ∧
      (c0.lcState ≠ 2 → c0.lcs.disabled = true → ∀ i ∈ tap, exec i s = .next (s.after s.dies)) ∧
      (c0.lcState ≠ 2 → c0.lcs.disabled = false →
        exec .testLogicResetExit s = .next (s.after att) ∧
        (code < 256 → code ∉ [0xFE, 0x01, 0x02, 0x20, 0x21] → exec (.bypass code) s = .next (s.after ((lcs code (fun l => { l with bypass := 0 })).send (.tap 1 0)))) ∧
        (code ∈ [0xFE, 0x01, 0x02, 0x20, 0x21] → exec (.bypass code) s = .next (s.after (sel code))) ∧
        exec .idcode s = .next (s.after ((sel 0xFE).send (.tap 32 (2 ^ 28 * (c0.g.stepping % 16) + 2 ^ 12 * Config.deviceId c0.g.variant + 2 * 0x2D7 + 1)))) ∧
        exec (.sample v) s = .next (s.after ((lcs 1 (fun l => { l with boundary := v })).send (.tap 0 v))) ∧
        exec (.extest v) s = .next (s.after ((lcs 2 (fun l => { l with boundary := v })).send (.tap 0 v))) ∧
        exec (.dbgAddr a) s = .next (s.after (lcs 0x20 (fun l => { l with dbgAddr := w48 (a.toNat / 8 * 8) }))) ∧
        (let region := Config.debugRegion c0.lcs.dbgAddr
         let locked := regionLocked c0.lcState region w
         let word : Nat := if locked then 0xD0D0D0D0D0D0 else (Table.findD c0.lcs.dbgAddr.toNat (Config.debugWord c0.free c0.lcs.dbgAddr) c0.lcs.dbgWords).toNat
         let out := 2 ^ 50 + 2 ^ 49 * (if locked then 1 else 0) + 2 ^ 48 * (if w then 1 else 0) + word
         c0.tmp.group = none → Completes (.dbgAccess w d) s (fun c => Fx.out (.tap 51 c0.lcs.dbgOut) ∈ c.fx ∧ c.lcs.dbgOut = out ∧ c.lcs.dbgAddr = c0.lcs.dbgAddr + 8 ∧ c.lcs.ir = 0x21 ∧
           c.lcs.dbgWords = (if w = true ∧ locked = false then Table.put c0.lcs.dbgAddr.toNat (w48 d.toNat) c0.lcs.dbgWords else c0.lcs.dbgWords) ∧
           c.lcs.violations = (if locked then min (c0.lcs.violations + 1) (2 ^ 32 - 1) else c0.lcs.violations) ∧ (locked = true → c.lcs.lastRegion = region % 16) ∧
           c.cc = c0.cc ∧ c.flash = c0.flash))))

/-- Power-up and WAKE. PWROK_OUT rises once an input is good: WAKE begins at device time 0 with the straps' split. The OTP decides: an incoherent word holds WAKE with fault 1, an open mark resumes its transition, SCRAPPED holds with fault 2, and anything else goes on with the entropy test. The complexes are tested, CC-A taking the Lozenge where it passes; with both failing, or no flash copy readable, WAKE holds. The working image is built, and SEED follows, or ANALYSIS, or ZEROIZED where the SWK is lost. Its conclusions say that these complete: MAIN_POWER_GOOD, PWROK_OUT_RISE, WAKE_OTP_LOADED, WAKE_SELF_TEST_END, FLASH_UNREADABLE, KEY_TREE_LOAD_COMPLETE. The model's choices here: the details of ZEROIZED and SEED at wake and event value 2 are log entry 76, and device time 0 is log entry 2. -/
def Obligations.WakeSequence : Prop :=
  ∀ (s : State),
    let c0 := s.core
    let held (i : Instr) (fault : Nat) : Prop := Completes i s (fun c => c.g.mode = .wake ∧ c.g.wakeFault = fault ∧ c.g.modeTime = c0.now ∧
      (∃ e, c.evlog.getLast? = some e ∧ e.kind = 0 ∧ e.value = 1) ∧ (c0.linkMask ≠ 0 → Fx.pulse c0.linkMask 160 ∈ c.fx) ∧ c.cc = c0.cc)
    (c0.g.mode = .retain → (∃ x ∈ c0.pwr.vin, x = 2 ∨ x = 3) → exec .mainPowerGood s = .next (s.after { s.dies with pwr := { c0.pwr with railsUp := true } })) ∧
    ((c0.g.mode ≠ .retain ∨ ∀ x ∈ c0.pwr.vin, x ≠ 2 ∧ x ≠ 3) → exec .mainPowerGood s = .next (s.after s.dies)) ∧
    (∀ h, c0.g.mode = .retain → c0.pwr.railsUp = true → c0.pwr.pwrok = false → (∀ g, c0.tmp.group = some g → g.inRetain = true) → Completes (.pwrokOutRise h) s (fun c =>
      let split := Config.effectiveSplit c0.g.variant (h % 4)
      c.g.mode = .wake ∧ c.g.prev = 0 ∧ c.g.devtime = 0 ∧ c.g.split = split ∧ c.g.strapInvalid = (h % 4 == 3) ∧ c.g.wakeFault = 0 ∧ c.g.wakeStep = 0 ∧ c.pwr.pwrok = true ∧
      c.pwr.phases = 12 ∧ c.flash = c0.flash ∧ c.cc.cust = c0.flash.cust.woken ∧ c.tmp.group = none ∧ c.cont.holder = none ∧
      (∀ n, n < 4 → (c.port n).slcCount = (if n < 2 ^ split then Config.slices c0.g.variant / 2 ^ split else 0) ∧ (c.port n).link = .down ∧ (c.port n).perstLow = (c0.port n).perstLow ∧
        (c.port n).quota = (if n < 2 ^ split then Config.inflight c0.g.variant / 2 ^ split else 0)) ∧
      (c0.tmp.group = none → c.batt = c0.batt))) ∧
    (∀ h, (c0.g.mode ≠ .retain ∨ c0.pwr.railsUp = false ∨ c0.pwr.pwrok = true) → exec (.pwrokOutRise h) s = .next (s.after s.dies)) ∧
    (c0.g.mode = .wake → c0.g.wakeFault = 0 → c0.g.wakeStep = 0 → c0.lcs.copiesDiffer = false →
      (c0.lcs.badWord = true → held .wakeOtpLoaded 1) ∧
      (c0.lcs.badWord = false → c0.lcs.openMarks = [] → c0.lcState = 4 → held .wakeOtpLoaded 2) ∧
      (c0.lcs.badWord = false → c0.lcs.openMarks = [] → c0.lcState ≠ 4 → exec .wakeOtpLoaded s = .next (s.after { s.dies with
        g := { c0.g with wakeStep := 1 }, ent := { c0.ent with src := c0.ent.src.map (fun x => { x with st := .testing, retest := false }) } })) ∧
      (∀ m rest, c0.lcs.badWord = false → c0.lcs.openMarks = m :: rest → Completes .wakeOtpLoaded s (fun c =>
        c.g.mode = .transit ∧ c.lcs.transitTo = m + 1 ∧ c.lcs.transitStep = resumeStep (markLevel (c0.lcs.mark m)) ∧ c.lcs.copies = c0.lcs.copies))) ∧
    (c0.g.mode = .wake → c0.g.wakeFault = 0 → c0.g.wakeStep = 1 →
      held (.wakeSelfTestEnd false false) 3 ∧
      (∀ a b : Bool, (a || b) = true → Completes (.wakeSelfTestEnd a b) s (fun c =>
        c.g.wakeStep = 2 ∧ c.g.mode = .wake ∧ c.cont.holder = some (if a then 0 else 1) ∧ c.cont.expiry = c0.now + 2400 ∧ c.cont.healthy = [a, b] ∧
        c.cont.cx = [if a then .active else .unusable, if a then (if b then .standby else .unusable) else .active] ∧
        ((a && b) = false → c0.linkMask ≠ 0 → Fx.pulse c0.linkMask 2 ∈ c.fx) ∧ c.cc = c0.cc)) ∧
      held .flashUnreadable 4) ∧
    (c0.g.mode = .wake → c0.g.wakeFault = 0 → c0.g.wakeStep = 2 → held .flashUnreadable 4 ∧
      ((∃ b ∈ c0.flash.readable, b = true) → (c0.ent.wakePass = true ∨ 4 ≤ c0.ent.wakeDone) → c0.batt.log = [] → c0.batt.failedStimulus = [] →
        ∀ swk dram badA badB stim, let i : Instr := .keyTreeLoadComplete swk dram badA badB stim
        (c0.swkFits = false → Completes i s (fun c => c.g.mode = .zeroized ∧ c.flash.lib = [] ∧ c.flash.libLost = true ∧ c.batt.swk = none ∧ c.g.cap1 = true ∧ c.tmp.cfgRead = true)) ∧
        (c0.swkFits = true → c0.ent.wakePass = false → Completes i s (fun c => c.g.mode = .safeHalt ∧ c.g.haltCause = 3 ∧ c.g.haltGroup = 0 ∧ c.g.cap1 = true)) ∧
        (c0.swkFits = true → c0.ent.wakePass = true → dramBlocksOk dram = true →
          let loaded (c : Core) : Prop := c.g.cap1 = true ∧ c.g.dramKey = some (dramKeyOf dram) ∧ c.cc.kt = replay c.journal ∧ c.mirror.kt = c.cc.kt ∧ c.tmp.cfg = c0.flash.cfg ∧
            c.siv.table = c0.flash.svMaster ∧ c.siv.gen = c0.flash.svGen ∧ c.cc.lib = c0.flash.lib
          (c0.flash.swkCheck.isSome = true → c0.lcState ≠ 3 → Completes i s (fun c => loaded c ∧
            c.g.mode = .seed ∧ c.g.prev = 1 ∧ c.flash.journals = (c0.loadJournal badA badB).flash.journals ∧ c.batt.swk = c0.batt.swk ∧ (∀ x ∈ c.ent.src, x.st = .testing))) ∧
          (c0.flash.swkCheck = none → c0.lcState ≠ 3 → blockOk swk = true → Completes i s (fun c => loaded c ∧
            c.g.mode = .seed ∧ c.batt.swk = some ((sha512 swk).take 32) ∧ c.flash.swkCheck = some (Config.swkCheck ((sha512 swk).take 32)) ∧ c.flash.journals = [{}, {}] ∧
            (∀ x ∈ c.ent.src, x.st = .testing))) ∧
          (c0.flash.swkCheck.isSome = true → c0.lcState = 3 → c0.ent.seeded = true → Completes i s (fun c => loaded c ∧
            c.g.mode = .analysis ∧ c.g.phase = .configuring ∧ c.g.locked = false ∧ c.flash.journals = (c0.loadJournal badA badB).flash.journals)))))

/-- The recovery sequence, in SAFE_HALT or ZEROIZED under a lease, once the start-up test of the four sources has ended. An alarm that stands, a holder that fails its self-test, and no source that passes each end it with MODE_REFUSED and a cause of their own. Otherwise the instances are seeded from the pools and SETUP follows, or ANALYSIS; a plain release keeps the working image, recommissioning makes a new SWK and DRAM key and keeps of the tree the generation of every slot. Its conclusions say that these complete: RECOVERY_SEQUENCE_END. The model's choices here: the order of causes and HALT_GROUP taken afresh are log entry 16, and the end of the recovery sequence is log entries 77 and 25. -/
def Obligations.RecoverySequence : Prop :=
  ∀ (s : State) (tid : Nat) (recomm : Bool) (h : Nat) (a b : Bool) (swk : Bytes) (dram : List Bytes) (badA badB : List Nat),
    let c0 := s.core
    let i : Instr := .recoverySequenceEnd a b swk dram badA badB
    c0.g.recovery = some (tid, recomm) → c0.cont.holder = some h → h < 2 → c0.halted = true → c0.leaseHeld = true → c0.cont.cx.length = 2 →
    let fails (cause group : Nat) : Prop := Completes i s (fun c => c.g.mode = c0.g.mode ∧ c.g.recover = false ∧ c.g.recovery = none ∧
      c.g.haltCause = (if c0.g.mode = .safeHalt then cause else c0.g.haltCause) ∧ c.g.haltGroup = group ∧ c.cc.kt.sets = c0.cc.kt.sets ∧ c.cc.cust = c0.cc.cust ∧ c.ent = c0.ent ∧
      (∀ u, c0.task tid = some u → u.st = .committing → u.opclass = clsCustody → u.fenced = false → u.strictFail = none → Table.wf c0.cc.tasks = true → later c0.now u.deadline = false →
        ∃ w, c.task tid = some w ∧ w.st = .retired ∧ w.status = Status.modeRefused ∧ w.detail = c0.g.mode.code))
    let holderPasses := if h = 0 then a else b
    let otherPasses := if h = 0 then b else a
    (c0.alarmStands = true → fails 1 (c0.tmp.lastGroup % 2 ^ 16)) ∧ (c0.alarmStands = false → holderPasses = false → fails 4 0) ∧
    (c0.alarmStands = false → holderPasses = true → c0.ent.tested = true → (∀ x ∈ c0.ent.src, x.st ≠ .healthy) → fails 3 0) ∧
    (∀ e, c0.alarmStands = false → holderPasses = true → c0.ent.tested = true → (∃ x ∈ c0.ent.src, x.st = .healthy) → c0.ent.instantiateAll c0.serialBytes = some e →
      (recomm = true ∨ c0.g.haltFromWake = true → dramBlocksOk dram = true) → (recomm = true ∨ (c0.g.haltFromWake = true ∧ c0.flash.swkCheck = none) → blockOk swk = true) → Completes i s (fun c =>
      c.g.recover = false ∧ c.g.recovery = none ∧ c.g.haltFromWake = false ∧ c.g.locked = false ∧ c.ent.run = e.run ∧ c.ent.drbg = e.drbg ∧ c.ent.pools = e.pools ∧ c.ent.src.map (·.st) = e.src.map (·.st) ∧
      (recomm = false → c0.g.haltFromWake = false → c.ent = e) ∧ e.run = true ∧ e.seeded = true ∧ e.src = c0.ent.src ∧
      (c0.lcState ≠ 3 → c.g.mode = .setup) ∧ (c0.lcState = 3 → c.g.mode = .analysis ∧ c.g.phase = .configuring) ∧ c.g.prev = c0.g.mode.code ∧
      (otherPasses = false → c.cont.cxOf (1 - h) = .unusable) ∧ (otherPasses = true → c0.cont.cxOf (1 - h) ≠ .standby → c.cont.cxOf (1 - h) = .syncing) ∧
      (recomm = false → c0.g.haltFromWake = false → c.cc.kt.sets = c0.cc.kt.sets ∧ c.flash.journals = c0.flash.journals ∧ c.batt.swk = c0.batt.swk ∧ c.g.dramKey = c0.g.dramKey) ∧
      (recomm = true ∨ c0.g.haltFromWake = true → c.g.dramKey = some (dramKeyOf dram) ∧ c.cc.kt = replay c.journal) ∧
      (recomm = true → c.batt.swk = some ((sha512 swk).take 32) ∧ c.flash.lib = [] ∧ c.flash.svMaster = [] ∧ c.cc.cust.tokens = [] ∧ c.cc.cust.sessions = [] ∧
        c.cc.cust.groups = c0.cc.cust.groups ∧ c.cc.lib = [] ∧
        (∀ j ∈ c.flash.usableJournals, ∀ x, x ∈ j.recs ↔ x ∈ ((replay c0.unverified).slots.filterMap floorOf).map (JRec.encode (Config.recordKey c.swk))) ∧
        (∀ k sl n, (k, sl) ∈ (replay c0.unverified).slots → sl.node = some n → ∃ r ∈ (replay c0.unverified).slots.filterMap floorOf,
          r.type = .floor ∧ r.index = k ∧ r.gen = sl.lastGen ∧ r.level = n.level ∧ r.domain = n.domain)) ∧
      (∀ u, c0.task tid = some u → u.st = .committing → u.opclass = clsCustody → u.fenced = false → u.strictFail = none → Table.wf c0.cc.tasks = true →
        ∃ w, c.task tid = some w ∧ w.st = .retired ∧ w.detail = u.detail)))

end
end

