-- ==== Sys2Proof/Laws/State.lean ====
section
/-! SUPPORT. One lemma per field and update of the state: what each named update leaves, and what it writes. -/

namespace Sys2Proof.Machine

@[simp] theorem Core.updPort_g (c : Core) (n : Nat) (f : Port → Port) : (c.updPort n f).g = c.g := rfl
@[simp] theorem Core.updPort_r (c : Core) (n : Nat) (f : Port → Port) : (c.updPort n f).r = c.r := rfl
@[simp] theorem Core.updPort_ports (c : Core) (n : Nat) (f : Port → Port) : (c.updPort n f).ports = upd n f c.ports := rfl
@[simp] theorem Core.updPort_slc (c : Core) (n : Nat) (f : Port → Port) : (c.updPort n f).slc = c.slc := rfl
@[simp] theorem Core.updPort_ring (c : Core) (n : Nat) (f : Port → Port) : (c.updPort n f).ring = c.ring := rfl
@[simp] theorem Core.updPort_cc (c : Core) (n : Nat) (f : Port → Port) : (c.updPort n f).cc = c.cc := rfl
@[simp] theorem Core.updPort_sent (c : Core) (n : Nat) (f : Port → Port) : (c.updPort n f).sent = c.sent := rfl
@[simp] theorem Core.updPort_mirror (c : Core) (n : Nat) (f : Port → Port) : (c.updPort n f).mirror = c.mirror := rfl
@[simp] theorem Core.updPort_hostLog (c : Core) (n : Nat) (f : Port → Port) : (c.updPort n f).hostLog = c.hostLog := rfl
@[simp] theorem Core.updPort_cont (c : Core) (n : Nat) (f : Port → Port) : (c.updPort n f).cont = c.cont := rfl
@[simp] theorem Core.updPort_eng (c : Core) (n : Nat) (f : Port → Port) : (c.updPort n f).eng = c.eng := rfl
@[simp] theorem Core.updPort_ent (c : Core) (n : Nat) (f : Port → Port) : (c.updPort n f).ent = c.ent := rfl
@[simp] theorem Core.updPort_siv (c : Core) (n : Nat) (f : Port → Port) : (c.updPort n f).siv = c.siv := rfl
@[simp] theorem Core.updPort_pwr (c : Core) (n : Nat) (f : Port → Port) : (c.updPort n f).pwr = c.pwr := rfl
@[simp] theorem Core.updPort_tmp (c : Core) (n : Nat) (f : Port → Port) : (c.updPort n f).tmp = c.tmp := rfl
@[simp] theorem Core.updPort_lcs (c : Core) (n : Nat) (f : Port → Port) : (c.updPort n f).lcs = c.lcs := rfl
@[simp] theorem Core.updPort_flash (c : Core) (n : Nat) (f : Port → Port) : (c.updPort n f).flash = c.flash := rfl
@[simp] theorem Core.updPort_batt (c : Core) (n : Nat) (f : Port → Port) : (c.updPort n f).batt = c.batt := rfl
@[simp] theorem Core.updPort_cpath (c : Core) (n : Nat) (f : Port → Port) : (c.updPort n f).cpath = c.cpath := rfl
@[simp] theorem Core.updPort_evlog (c : Core) (n : Nat) (f : Port → Port) : (c.updPort n f).evlog = c.evlog := rfl
@[simp] theorem Core.updPort_fx (c : Core) (n : Nat) (f : Port → Port) : (c.updPort n f).fx = c.fx := rfl
@[simp] theorem Core.updPort_free (c : Core) (n : Nat) (f : Port → Port) : (c.updPort n f).free = c.free := rfl

@[simp] theorem Core.updSlice_g (c : Core) (n : Nat) (f : Slc → Slc) : (c.updSlice n f).g = c.g := rfl
@[simp] theorem Core.updSlice_r (c : Core) (n : Nat) (f : Slc → Slc) : (c.updSlice n f).r = c.r := rfl
@[simp] theorem Core.updSlice_ports (c : Core) (n : Nat) (f : Slc → Slc) : (c.updSlice n f).ports = c.ports := rfl
@[simp] theorem Core.updSlice_slc (c : Core) (n : Nat) (f : Slc → Slc) : (c.updSlice n f).slc = Table.putD n (f (c.slice n)) {} c.slc := rfl
@[simp] theorem Core.updSlice_ring (c : Core) (n : Nat) (f : Slc → Slc) : (c.updSlice n f).ring = c.ring := rfl
@[simp] theorem Core.updSlice_cc (c : Core) (n : Nat) (f : Slc → Slc) : (c.updSlice n f).cc = c.cc := rfl
@[simp] theorem Core.updSlice_sent (c : Core) (n : Nat) (f : Slc → Slc) : (c.updSlice n f).sent = c.sent := rfl
@[simp] theorem Core.updSlice_mirror (c : Core) (n : Nat) (f : Slc → Slc) : (c.updSlice n f).mirror = c.mirror := rfl
@[simp] theorem Core.updSlice_hostLog (c : Core) (n : Nat) (f : Slc → Slc) : (c.updSlice n f).hostLog = c.hostLog := rfl
@[simp] theorem Core.updSlice_cont (c : Core) (n : Nat) (f : Slc → Slc) : (c.updSlice n f).cont = c.cont := rfl
@[simp] theorem Core.updSlice_eng (c : Core) (n : Nat) (f : Slc → Slc) : (c.updSlice n f).eng = c.eng := rfl
@[simp] theorem Core.updSlice_ent (c : Core) (n : Nat) (f : Slc → Slc) : (c.updSlice n f).ent = c.ent := rfl
@[simp] theorem Core.updSlice_siv (c : Core) (n : Nat) (f : Slc → Slc) : (c.updSlice n f).siv = c.siv := rfl
@[simp] theorem Core.updSlice_pwr (c : Core) (n : Nat) (f : Slc → Slc) : (c.updSlice n f).pwr = c.pwr := rfl
@[simp] theorem Core.updSlice_tmp (c : Core) (n : Nat) (f : Slc → Slc) : (c.updSlice n f).tmp = c.tmp := rfl
@[simp] theorem Core.updSlice_lcs (c : Core) (n : Nat) (f : Slc → Slc) : (c.updSlice n f).lcs = c.lcs := rfl
@[simp] theorem Core.updSlice_flash (c : Core) (n : Nat) (f : Slc → Slc) : (c.updSlice n f).flash = c.flash := rfl
@[simp] theorem Core.updSlice_batt (c : Core) (n : Nat) (f : Slc → Slc) : (c.updSlice n f).batt = c.batt := rfl
@[simp] theorem Core.updSlice_cpath (c : Core) (n : Nat) (f : Slc → Slc) : (c.updSlice n f).cpath = c.cpath := rfl
@[simp] theorem Core.updSlice_evlog (c : Core) (n : Nat) (f : Slc → Slc) : (c.updSlice n f).evlog = c.evlog := rfl
@[simp] theorem Core.updSlice_fx (c : Core) (n : Nat) (f : Slc → Slc) : (c.updSlice n f).fx = c.fx := rfl
@[simp] theorem Core.updSlice_free (c : Core) (n : Nat) (f : Slc → Slc) : (c.updSlice n f).free = c.free := rfl

@[simp] theorem Core.updRing_g (c : Core) (n : Nat) (f : Ring → Ring) : (c.updRing n f).g = c.g := rfl
@[simp] theorem Core.updRing_r (c : Core) (n : Nat) (f : Ring → Ring) : (c.updRing n f).r = c.r := rfl
@[simp] theorem Core.updRing_ports (c : Core) (n : Nat) (f : Ring → Ring) : (c.updRing n f).ports = c.ports := rfl
@[simp] theorem Core.updRing_slc (c : Core) (n : Nat) (f : Ring → Ring) : (c.updRing n f).slc = c.slc := rfl
@[simp] theorem Core.updRing_ring (c : Core) (n : Nat) (f : Ring → Ring) : (c.updRing n f).ring = Table.putD n (f (c.ringOf n)) {} c.ring := rfl
@[simp] theorem Core.updRing_cc (c : Core) (n : Nat) (f : Ring → Ring) : (c.updRing n f).cc = c.cc := rfl
@[simp] theorem Core.updRing_sent (c : Core) (n : Nat) (f : Ring → Ring) : (c.updRing n f).sent = c.sent := rfl
@[simp] theorem Core.updRing_mirror (c : Core) (n : Nat) (f : Ring → Ring) : (c.updRing n f).mirror = c.mirror := rfl
@[simp] theorem Core.updRing_hostLog (c : Core) (n : Nat) (f : Ring → Ring) : (c.updRing n f).hostLog = c.hostLog := rfl
@[simp] theorem Core.updRing_cont (c : Core) (n : Nat) (f : Ring → Ring) : (c.updRing n f).cont = c.cont := rfl
@[simp] theorem Core.updRing_eng (c : Core) (n : Nat) (f : Ring → Ring) : (c.updRing n f).eng = c.eng := rfl
@[simp] theorem Core.updRing_ent (c : Core) (n : Nat) (f : Ring → Ring) : (c.updRing n f).ent = c.ent := rfl
@[simp] theorem Core.updRing_siv (c : Core) (n : Nat) (f : Ring → Ring) : (c.updRing n f).siv = c.siv := rfl
@[simp] theorem Core.updRing_pwr (c : Core) (n : Nat) (f : Ring → Ring) : (c.updRing n f).pwr = c.pwr := rfl
@[simp] theorem Core.updRing_tmp (c : Core) (n : Nat) (f : Ring → Ring) : (c.updRing n f).tmp = c.tmp := rfl
@[simp] theorem Core.updRing_lcs (c : Core) (n : Nat) (f : Ring → Ring) : (c.updRing n f).lcs = c.lcs := rfl
@[simp] theorem Core.updRing_flash (c : Core) (n : Nat) (f : Ring → Ring) : (c.updRing n f).flash = c.flash := rfl
@[simp] theorem Core.updRing_batt (c : Core) (n : Nat) (f : Ring → Ring) : (c.updRing n f).batt = c.batt := rfl
@[simp] theorem Core.updRing_cpath (c : Core) (n : Nat) (f : Ring → Ring) : (c.updRing n f).cpath = c.cpath := rfl
@[simp] theorem Core.updRing_evlog (c : Core) (n : Nat) (f : Ring → Ring) : (c.updRing n f).evlog = c.evlog := rfl
@[simp] theorem Core.updRing_fx (c : Core) (n : Nat) (f : Ring → Ring) : (c.updRing n f).fx = c.fx := rfl
@[simp] theorem Core.updRing_free (c : Core) (n : Nat) (f : Ring → Ring) : (c.updRing n f).free = c.free := rfl

@[simp] theorem Core.updCC_g (c : Core) (f : CC → CC) : (c.updCC f).g = c.g := rfl
@[simp] theorem Core.updCC_r (c : Core) (f : CC → CC) : (c.updCC f).r = c.r := rfl
@[simp] theorem Core.updCC_ports (c : Core) (f : CC → CC) : (c.updCC f).ports = c.ports := rfl
@[simp] theorem Core.updCC_slc (c : Core) (f : CC → CC) : (c.updCC f).slc = c.slc := rfl
@[simp] theorem Core.updCC_ring (c : Core) (f : CC → CC) : (c.updCC f).ring = c.ring := rfl
@[simp] theorem Core.updCC_cc (c : Core) (f : CC → CC) : (c.updCC f).cc = f c.cc := rfl
@[simp] theorem Core.updCC_sent (c : Core) (f : CC → CC) : (c.updCC f).sent = c.sent := rfl
@[simp] theorem Core.updCC_mirror (c : Core) (f : CC → CC) : (c.updCC f).mirror = c.mirror := rfl
@[simp] theorem Core.updCC_hostLog (c : Core) (f : CC → CC) : (c.updCC f).hostLog = c.hostLog := rfl
@[simp] theorem Core.updCC_cont (c : Core) (f : CC → CC) : (c.updCC f).cont = c.cont := rfl
@[simp] theorem Core.updCC_eng (c : Core) (f : CC → CC) : (c.updCC f).eng = c.eng := rfl
@[simp] theorem Core.updCC_ent (c : Core) (f : CC → CC) : (c.updCC f).ent = c.ent := rfl
@[simp] theorem Core.updCC_siv (c : Core) (f : CC → CC) : (c.updCC f).siv = c.siv := rfl
@[simp] theorem Core.updCC_pwr (c : Core) (f : CC → CC) : (c.updCC f).pwr = c.pwr := rfl
@[simp] theorem Core.updCC_tmp (c : Core) (f : CC → CC) : (c.updCC f).tmp = c.tmp := rfl
@[simp] theorem Core.updCC_lcs (c : Core) (f : CC → CC) : (c.updCC f).lcs = c.lcs := rfl
@[simp] theorem Core.updCC_flash (c : Core) (f : CC → CC) : (c.updCC f).flash = c.flash := rfl
@[simp] theorem Core.updCC_batt (c : Core) (f : CC → CC) : (c.updCC f).batt = c.batt := rfl
@[simp] theorem Core.updCC_cpath (c : Core) (f : CC → CC) : (c.updCC f).cpath = c.cpath := rfl
@[simp] theorem Core.updCC_evlog (c : Core) (f : CC → CC) : (c.updCC f).evlog = c.evlog := rfl
@[simp] theorem Core.updCC_fx (c : Core) (f : CC → CC) : (c.updCC f).fx = c.fx := rfl
@[simp] theorem Core.updCC_free (c : Core) (f : CC → CC) : (c.updCC f).free = c.free := rfl

@[simp] theorem Core.updTask_g (c : Core) (n : Nat) (f : Task → Task) : (c.updTask n f).g = c.g := rfl
@[simp] theorem Core.updTask_r (c : Core) (n : Nat) (f : Task → Task) : (c.updTask n f).r = c.r := rfl
@[simp] theorem Core.updTask_ports (c : Core) (n : Nat) (f : Task → Task) : (c.updTask n f).ports = c.ports := rfl
@[simp] theorem Core.updTask_slc (c : Core) (n : Nat) (f : Task → Task) : (c.updTask n f).slc = c.slc := rfl
@[simp] theorem Core.updTask_ring (c : Core) (n : Nat) (f : Task → Task) : (c.updTask n f).ring = c.ring := rfl
@[simp] theorem Core.updTask_cc (c : Core) (n : Nat) (f : Task → Task) : (c.updTask n f).cc = c.cc.updTask n f := rfl
@[simp] theorem Core.updTask_sent (c : Core) (n : Nat) (f : Task → Task) : (c.updTask n f).sent = c.sent := rfl
@[simp] theorem Core.updTask_mirror (c : Core) (n : Nat) (f : Task → Task) : (c.updTask n f).mirror = c.mirror := rfl
@[simp] theorem Core.updTask_hostLog (c : Core) (n : Nat) (f : Task → Task) : (c.updTask n f).hostLog = c.hostLog := rfl
@[simp] theorem Core.updTask_cont (c : Core) (n : Nat) (f : Task → Task) : (c.updTask n f).cont = c.cont := rfl
@[simp] theorem Core.updTask_eng (c : Core) (n : Nat) (f : Task → Task) : (c.updTask n f).eng = c.eng := rfl
@[simp] theorem Core.updTask_ent (c : Core) (n : Nat) (f : Task → Task) : (c.updTask n f).ent = c.ent := rfl
@[simp] theorem Core.updTask_siv (c : Core) (n : Nat) (f : Task → Task) : (c.updTask n f).siv = c.siv := rfl
@[simp] theorem Core.updTask_pwr (c : Core) (n : Nat) (f : Task → Task) : (c.updTask n f).pwr = c.pwr := rfl
@[simp] theorem Core.updTask_tmp (c : Core) (n : Nat) (f : Task → Task) : (c.updTask n f).tmp = c.tmp := rfl
@[simp] theorem Core.updTask_lcs (c : Core) (n : Nat) (f : Task → Task) : (c.updTask n f).lcs = c.lcs := rfl
@[simp] theorem Core.updTask_flash (c : Core) (n : Nat) (f : Task → Task) : (c.updTask n f).flash = c.flash := rfl
@[simp] theorem Core.updTask_batt (c : Core) (n : Nat) (f : Task → Task) : (c.updTask n f).batt = c.batt := rfl
@[simp] theorem Core.updTask_cpath (c : Core) (n : Nat) (f : Task → Task) : (c.updTask n f).cpath = c.cpath := rfl
@[simp] theorem Core.updTask_evlog (c : Core) (n : Nat) (f : Task → Task) : (c.updTask n f).evlog = c.evlog := rfl
@[simp] theorem Core.updTask_fx (c : Core) (n : Nat) (f : Task → Task) : (c.updTask n f).fx = c.fx := rfl
@[simp] theorem Core.updTask_free (c : Core) (n : Nat) (f : Task → Task) : (c.updTask n f).free = c.free := rfl

@[simp] theorem Core.allCC_g (c : Core) (f : CC → CC) : (c.allCC f).g = c.g := rfl
@[simp] theorem Core.allCC_r (c : Core) (f : CC → CC) : (c.allCC f).r = c.r := rfl
@[simp] theorem Core.allCC_ports (c : Core) (f : CC → CC) : (c.allCC f).ports = c.ports := rfl
@[simp] theorem Core.allCC_slc (c : Core) (f : CC → CC) : (c.allCC f).slc = c.slc := rfl
@[simp] theorem Core.allCC_ring (c : Core) (f : CC → CC) : (c.allCC f).ring = c.ring := rfl
@[simp] theorem Core.allCC_cc (c : Core) (f : CC → CC) : (c.allCC f).cc = f c.cc := rfl
@[simp] theorem Core.allCC_mirror (c : Core) (f : CC → CC) : (c.allCC f).mirror = f c.mirror := rfl
@[simp] theorem Core.allCC_hostLog (c : Core) (f : CC → CC) : (c.allCC f).hostLog = c.hostLog := rfl
@[simp] theorem Core.allCC_cont (c : Core) (f : CC → CC) : (c.allCC f).cont = c.cont := rfl
@[simp] theorem Core.allCC_eng (c : Core) (f : CC → CC) : (c.allCC f).eng = c.eng := rfl
@[simp] theorem Core.allCC_ent (c : Core) (f : CC → CC) : (c.allCC f).ent = c.ent := rfl
@[simp] theorem Core.allCC_siv (c : Core) (f : CC → CC) : (c.allCC f).siv = c.siv := rfl
@[simp] theorem Core.allCC_pwr (c : Core) (f : CC → CC) : (c.allCC f).pwr = c.pwr := rfl
@[simp] theorem Core.allCC_tmp (c : Core) (f : CC → CC) : (c.allCC f).tmp = c.tmp := rfl
@[simp] theorem Core.allCC_lcs (c : Core) (f : CC → CC) : (c.allCC f).lcs = c.lcs := rfl
@[simp] theorem Core.allCC_flash (c : Core) (f : CC → CC) : (c.allCC f).flash = c.flash := rfl
@[simp] theorem Core.allCC_batt (c : Core) (f : CC → CC) : (c.allCC f).batt = c.batt := rfl
@[simp] theorem Core.allCC_cpath (c : Core) (f : CC → CC) : (c.allCC f).cpath = c.cpath := rfl
@[simp] theorem Core.allCC_evlog (c : Core) (f : CC → CC) : (c.allCC f).evlog = c.evlog := rfl
@[simp] theorem Core.allCC_fx (c : Core) (f : CC → CC) : (c.allCC f).fx = c.fx := rfl
@[simp] theorem Core.allCC_free (c : Core) (f : CC → CC) : (c.allCC f).free = c.free := rfl

@[simp] theorem Core.addFx_g (c : Core) (e : Fx) : (c.addFx e).g = c.g := rfl
@[simp] theorem Core.addFx_r (c : Core) (e : Fx) : (c.addFx e).r = c.r := rfl
@[simp] theorem Core.addFx_ports (c : Core) (e : Fx) : (c.addFx e).ports = c.ports := rfl
@[simp] theorem Core.addFx_slc (c : Core) (e : Fx) : (c.addFx e).slc = c.slc := rfl
@[simp] theorem Core.addFx_ring (c : Core) (e : Fx) : (c.addFx e).ring = c.ring := rfl
@[simp] theorem Core.addFx_cc (c : Core) (e : Fx) : (c.addFx e).cc = c.cc := rfl
@[simp] theorem Core.addFx_sent (c : Core) (e : Fx) : (c.addFx e).sent = c.sent := rfl
@[simp] theorem Core.addFx_mirror (c : Core) (e : Fx) : (c.addFx e).mirror = c.mirror := rfl
@[simp] theorem Core.addFx_hostLog (c : Core) (e : Fx) : (c.addFx e).hostLog = c.hostLog := rfl
@[simp] theorem Core.addFx_cont (c : Core) (e : Fx) : (c.addFx e).cont = c.cont := rfl
@[simp] theorem Core.addFx_eng (c : Core) (e : Fx) : (c.addFx e).eng = c.eng := rfl
@[simp] theorem Core.addFx_ent (c : Core) (e : Fx) : (c.addFx e).ent = c.ent := rfl
@[simp] theorem Core.addFx_siv (c : Core) (e : Fx) : (c.addFx e).siv = c.siv := rfl
@[simp] theorem Core.addFx_pwr (c : Core) (e : Fx) : (c.addFx e).pwr = c.pwr := rfl
@[simp] theorem Core.addFx_tmp (c : Core) (e : Fx) : (c.addFx e).tmp = c.tmp := rfl
@[simp] theorem Core.addFx_lcs (c : Core) (e : Fx) : (c.addFx e).lcs = c.lcs := rfl
@[simp] theorem Core.addFx_flash (c : Core) (e : Fx) : (c.addFx e).flash = c.flash := rfl
@[simp] theorem Core.addFx_batt (c : Core) (e : Fx) : (c.addFx e).batt = c.batt := rfl
@[simp] theorem Core.addFx_cpath (c : Core) (e : Fx) : (c.addFx e).cpath = c.cpath := rfl
@[simp] theorem Core.addFx_evlog (c : Core) (e : Fx) : (c.addFx e).evlog = c.evlog := rfl
@[simp] theorem Core.addFx_fx (c : Core) (e : Fx) : (c.addFx e).fx = c.fx ++ [e] := rfl
@[simp] theorem Core.addFx_free (c : Core) (e : Fx) : (c.addFx e).free = c.free := rfl

@[simp] theorem Core.send_g (c : Core) (o : Out) : (c.send o).g = c.g := rfl
@[simp] theorem Core.send_r (c : Core) (o : Out) : (c.send o).r = c.r := rfl
@[simp] theorem Core.send_ports (c : Core) (o : Out) : (c.send o).ports = c.ports := rfl
@[simp] theorem Core.send_slc (c : Core) (o : Out) : (c.send o).slc = c.slc := rfl
@[simp] theorem Core.send_ring (c : Core) (o : Out) : (c.send o).ring = c.ring := rfl
@[simp] theorem Core.send_cc (c : Core) (o : Out) : (c.send o).cc = c.cc := rfl
@[simp] theorem Core.send_sent (c : Core) (o : Out) : (c.send o).sent = c.sent := rfl
@[simp] theorem Core.send_mirror (c : Core) (o : Out) : (c.send o).mirror = c.mirror := rfl
@[simp] theorem Core.send_hostLog (c : Core) (o : Out) : (c.send o).hostLog = c.hostLog := rfl
@[simp] theorem Core.send_cont (c : Core) (o : Out) : (c.send o).cont = c.cont := rfl
@[simp] theorem Core.send_eng (c : Core) (o : Out) : (c.send o).eng = c.eng := rfl
@[simp] theorem Core.send_ent (c : Core) (o : Out) : (c.send o).ent = c.ent := rfl
@[simp] theorem Core.send_siv (c : Core) (o : Out) : (c.send o).siv = c.siv := rfl
@[simp] theorem Core.send_pwr (c : Core) (o : Out) : (c.send o).pwr = c.pwr := rfl
@[simp] theorem Core.send_tmp (c : Core) (o : Out) : (c.send o).tmp = c.tmp := rfl
@[simp] theorem Core.send_lcs (c : Core) (o : Out) : (c.send o).lcs = c.lcs := rfl
@[simp] theorem Core.send_flash (c : Core) (o : Out) : (c.send o).flash = c.flash := rfl
@[simp] theorem Core.send_batt (c : Core) (o : Out) : (c.send o).batt = c.batt := rfl
@[simp] theorem Core.send_cpath (c : Core) (o : Out) : (c.send o).cpath = c.cpath := rfl
@[simp] theorem Core.send_evlog (c : Core) (o : Out) : (c.send o).evlog = c.evlog := rfl
@[simp] theorem Core.send_fx (c : Core) (o : Out) : (c.send o).fx = c.fx ++ [.out o] := rfl
@[simp] theorem Core.send_free (c : Core) (o : Out) : (c.send o).free = c.free := rfl

@[simp] theorem Core.edge_g (c : Core) (m n : Nat) : (c.edge m n).g = c.g := rfl
@[simp] theorem Core.edge_r (c : Core) (m n : Nat) : (c.edge m n).r = c.r := rfl
@[simp] theorem Core.edge_ports (c : Core) (m n : Nat) : (c.edge m n).ports = c.ports := rfl
@[simp] theorem Core.edge_slc (c : Core) (m n : Nat) : (c.edge m n).slc = c.slc := rfl
@[simp] theorem Core.edge_ring (c : Core) (m n : Nat) : (c.edge m n).ring = c.ring := rfl
@[simp] theorem Core.edge_sent (c : Core) (m n : Nat) : (c.edge m n).sent = c.sent := rfl
@[simp] theorem Core.edge_mirror (c : Core) (m n : Nat) : (c.edge m n).mirror = c.mirror := rfl
@[simp] theorem Core.edge_hostLog (c : Core) (m n : Nat) : (c.edge m n).hostLog = c.hostLog := rfl
@[simp] theorem Core.edge_cont (c : Core) (m n : Nat) : (c.edge m n).cont = c.cont := rfl
@[simp] theorem Core.edge_eng (c : Core) (m n : Nat) : (c.edge m n).eng = c.eng := rfl
@[simp] theorem Core.edge_ent (c : Core) (m n : Nat) : (c.edge m n).ent = c.ent := rfl
@[simp] theorem Core.edge_siv (c : Core) (m n : Nat) : (c.edge m n).siv = c.siv := rfl
@[simp] theorem Core.edge_pwr (c : Core) (m n : Nat) : (c.edge m n).pwr = c.pwr := rfl
@[simp] theorem Core.edge_tmp (c : Core) (m n : Nat) : (c.edge m n).tmp = c.tmp := rfl
@[simp] theorem Core.edge_lcs (c : Core) (m n : Nat) : (c.edge m n).lcs = c.lcs := rfl
@[simp] theorem Core.edge_flash (c : Core) (m n : Nat) : (c.edge m n).flash = c.flash := rfl
@[simp] theorem Core.edge_batt (c : Core) (m n : Nat) : (c.edge m n).batt = c.batt := rfl
@[simp] theorem Core.edge_cpath (c : Core) (m n : Nat) : (c.edge m n).cpath = c.cpath := rfl
@[simp] theorem Core.edge_evlog (c : Core) (m n : Nat) : (c.edge m n).evlog = c.evlog := rfl
@[simp] theorem Core.edge_fx (c : Core) (m n : Nat) : (c.edge m n).fx = c.fx := rfl
@[simp] theorem Core.edge_free (c : Core) (m n : Nat) : (c.edge m n).free = c.free := rfl

@[simp] theorem Core.log_g (c : Core) (k v : Nat) : (c.log k v).g = c.g := rfl
@[simp] theorem Core.log_r (c : Core) (k v : Nat) : (c.log k v).r = c.r := rfl
@[simp] theorem Core.log_ports (c : Core) (k v : Nat) : (c.log k v).ports = c.ports := rfl
@[simp] theorem Core.log_slc (c : Core) (k v : Nat) : (c.log k v).slc = c.slc := rfl
@[simp] theorem Core.log_ring (c : Core) (k v : Nat) : (c.log k v).ring = c.ring := rfl
@[simp] theorem Core.log_cc (c : Core) (k v : Nat) : (c.log k v).cc = c.cc := rfl
@[simp] theorem Core.log_sent (c : Core) (k v : Nat) : (c.log k v).sent = c.sent := rfl
@[simp] theorem Core.log_mirror (c : Core) (k v : Nat) : (c.log k v).mirror = c.mirror := rfl
@[simp] theorem Core.log_hostLog (c : Core) (k v : Nat) : (c.log k v).hostLog = c.hostLog := rfl
@[simp] theorem Core.log_cont (c : Core) (k v : Nat) : (c.log k v).cont = c.cont := rfl
@[simp] theorem Core.log_eng (c : Core) (k v : Nat) : (c.log k v).eng = c.eng := rfl
@[simp] theorem Core.log_ent (c : Core) (k v : Nat) : (c.log k v).ent = c.ent := rfl
@[simp] theorem Core.log_siv (c : Core) (k v : Nat) : (c.log k v).siv = c.siv := rfl
@[simp] theorem Core.log_pwr (c : Core) (k v : Nat) : (c.log k v).pwr = c.pwr := rfl
@[simp] theorem Core.log_tmp (c : Core) (k v : Nat) : (c.log k v).tmp = c.tmp := rfl
@[simp] theorem Core.log_lcs (c : Core) (k v : Nat) : (c.log k v).lcs = c.lcs := rfl
@[simp] theorem Core.log_flash (c : Core) (k v : Nat) : (c.log k v).flash = c.flash := rfl
@[simp] theorem Core.log_batt (c : Core) (k v : Nat) : (c.log k v).batt = c.batt := rfl
@[simp] theorem Core.log_cpath (c : Core) (k v : Nat) : (c.log k v).cpath = c.cpath := rfl
@[simp] theorem Core.log_evlog (c : Core) (k v : Nat) : (c.log k v).evlog = c.evlog ++ [⟨k, c.now, v⟩] := rfl
@[simp] theorem Core.log_fx (c : Core) (k v : Nat) : (c.log k v).fx = c.fx := rfl
@[simp] theorem Core.log_free (c : Core) (k v : Nat) : (c.log k v).free = c.free := rfl

@[simp] theorem Core.logHost_g (c : Core) (p b o : Nat) (v : Option Nat) : (c.logHost p b o v).g = c.g := rfl
@[simp] theorem Core.logHost_r (c : Core) (p b o : Nat) (v : Option Nat) : (c.logHost p b o v).r = c.r := rfl
@[simp] theorem Core.logHost_ports (c : Core) (p b o : Nat) (v : Option Nat) : (c.logHost p b o v).ports = c.ports := rfl
@[simp] theorem Core.logHost_slc (c : Core) (p b o : Nat) (v : Option Nat) : (c.logHost p b o v).slc = c.slc := rfl
@[simp] theorem Core.logHost_ring (c : Core) (p b o : Nat) (v : Option Nat) : (c.logHost p b o v).ring = c.ring := rfl
@[simp] theorem Core.logHost_cc (c : Core) (p b o : Nat) (v : Option Nat) : (c.logHost p b o v).cc = c.cc := rfl
@[simp] theorem Core.logHost_sent (c : Core) (p b o : Nat) (v : Option Nat) : (c.logHost p b o v).sent = c.sent := rfl
@[simp] theorem Core.logHost_mirror (c : Core) (p b o : Nat) (v : Option Nat) : (c.logHost p b o v).mirror = c.mirror := rfl
@[simp] theorem Core.logHost_cont (c : Core) (p b o : Nat) (v : Option Nat) : (c.logHost p b o v).cont = c.cont := rfl
@[simp] theorem Core.logHost_eng (c : Core) (p b o : Nat) (v : Option Nat) : (c.logHost p b o v).eng = c.eng := rfl
@[simp] theorem Core.logHost_ent (c : Core) (p b o : Nat) (v : Option Nat) : (c.logHost p b o v).ent = c.ent := rfl
@[simp] theorem Core.logHost_siv (c : Core) (p b o : Nat) (v : Option Nat) : (c.logHost p b o v).siv = c.siv := rfl
@[simp] theorem Core.logHost_pwr (c : Core) (p b o : Nat) (v : Option Nat) : (c.logHost p b o v).pwr = c.pwr := rfl
@[simp] theorem Core.logHost_tmp (c : Core) (p b o : Nat) (v : Option Nat) : (c.logHost p b o v).tmp = c.tmp := rfl
@[simp] theorem Core.logHost_lcs (c : Core) (p b o : Nat) (v : Option Nat) : (c.logHost p b o v).lcs = c.lcs := rfl
@[simp] theorem Core.logHost_flash (c : Core) (p b o : Nat) (v : Option Nat) : (c.logHost p b o v).flash = c.flash := rfl
@[simp] theorem Core.logHost_batt (c : Core) (p b o : Nat) (v : Option Nat) : (c.logHost p b o v).batt = c.batt := rfl
@[simp] theorem Core.logHost_cpath (c : Core) (p b o : Nat) (v : Option Nat) : (c.logHost p b o v).cpath = c.cpath := rfl
@[simp] theorem Core.logHost_evlog (c : Core) (p b o : Nat) (v : Option Nat) : (c.logHost p b o v).evlog = c.evlog := rfl
@[simp] theorem Core.logHost_fx (c : Core) (p b o : Nat) (v : Option Nat) : (c.logHost p b o v).fx = c.fx := rfl
@[simp] theorem Core.logHost_free (c : Core) (p b o : Nat) (v : Option Nat) : (c.logHost p b o v).free = c.free := rfl

@[simp] theorem Core.updR_g (c : Core) (f : Regs → Regs) : (c.updR f).g = c.g := rfl
@[simp] theorem Core.updR_r (c : Core) (f : Regs → Regs) : (c.updR f).r = f c.r := rfl
@[simp] theorem Core.updR_ports (c : Core) (f : Regs → Regs) : (c.updR f).ports = c.ports := rfl
@[simp] theorem Core.updR_slc (c : Core) (f : Regs → Regs) : (c.updR f).slc = c.slc := rfl
@[simp] theorem Core.updR_ring (c : Core) (f : Regs → Regs) : (c.updR f).ring = c.ring := rfl
@[simp] theorem Core.updR_cc (c : Core) (f : Regs → Regs) : (c.updR f).cc = c.cc := rfl
@[simp] theorem Core.updR_sent (c : Core) (f : Regs → Regs) : (c.updR f).sent = c.sent := rfl
@[simp] theorem Core.updR_mirror (c : Core) (f : Regs → Regs) : (c.updR f).mirror = c.mirror := rfl
@[simp] theorem Core.updR_hostLog (c : Core) (f : Regs → Regs) : (c.updR f).hostLog = c.hostLog := rfl
@[simp] theorem Core.updR_cont (c : Core) (f : Regs → Regs) : (c.updR f).cont = c.cont := rfl
@[simp] theorem Core.updR_eng (c : Core) (f : Regs → Regs) : (c.updR f).eng = c.eng := rfl
@[simp] theorem Core.updR_ent (c : Core) (f : Regs → Regs) : (c.updR f).ent = c.ent := rfl
@[simp] theorem Core.updR_siv (c : Core) (f : Regs → Regs) : (c.updR f).siv = c.siv := rfl
@[simp] theorem Core.updR_pwr (c : Core) (f : Regs → Regs) : (c.updR f).pwr = c.pwr := rfl
@[simp] theorem Core.updR_tmp (c : Core) (f : Regs → Regs) : (c.updR f).tmp = c.tmp := rfl
@[simp] theorem Core.updR_lcs (c : Core) (f : Regs → Regs) : (c.updR f).lcs = c.lcs := rfl
@[simp] theorem Core.updR_flash (c : Core) (f : Regs → Regs) : (c.updR f).flash = c.flash := rfl
@[simp] theorem Core.updR_batt (c : Core) (f : Regs → Regs) : (c.updR f).batt = c.batt := rfl
@[simp] theorem Core.updR_cpath (c : Core) (f : Regs → Regs) : (c.updR f).cpath = c.cpath := rfl
@[simp] theorem Core.updR_evlog (c : Core) (f : Regs → Regs) : (c.updR f).evlog = c.evlog := rfl
@[simp] theorem Core.updR_fx (c : Core) (f : Regs → Regs) : (c.updR f).fx = c.fx := rfl
@[simp] theorem Core.updR_free (c : Core) (f : Regs → Regs) : (c.updR f).free = c.free := rfl

@[simp] theorem Core.updCont_g (c : Core) (f : Cont → Cont) : (c.updCont f).g = c.g := rfl
@[simp] theorem Core.updCont_r (c : Core) (f : Cont → Cont) : (c.updCont f).r = c.r := rfl
@[simp] theorem Core.updCont_ports (c : Core) (f : Cont → Cont) : (c.updCont f).ports = c.ports := rfl
@[simp] theorem Core.updCont_slc (c : Core) (f : Cont → Cont) : (c.updCont f).slc = c.slc := rfl
@[simp] theorem Core.updCont_ring (c : Core) (f : Cont → Cont) : (c.updCont f).ring = c.ring := rfl
@[simp] theorem Core.updCont_cc (c : Core) (f : Cont → Cont) : (c.updCont f).cc = c.cc := rfl
@[simp] theorem Core.updCont_sent (c : Core) (f : Cont → Cont) : (c.updCont f).sent = c.sent := rfl
@[simp] theorem Core.updCont_mirror (c : Core) (f : Cont → Cont) : (c.updCont f).mirror = c.mirror := rfl
@[simp] theorem Core.updCont_hostLog (c : Core) (f : Cont → Cont) : (c.updCont f).hostLog = c.hostLog := rfl
@[simp] theorem Core.updCont_cont (c : Core) (f : Cont → Cont) : (c.updCont f).cont = f c.cont := rfl
@[simp] theorem Core.updCont_eng (c : Core) (f : Cont → Cont) : (c.updCont f).eng = c.eng := rfl
@[simp] theorem Core.updCont_ent (c : Core) (f : Cont → Cont) : (c.updCont f).ent = c.ent := rfl
@[simp] theorem Core.updCont_siv (c : Core) (f : Cont → Cont) : (c.updCont f).siv = c.siv := rfl
@[simp] theorem Core.updCont_pwr (c : Core) (f : Cont → Cont) : (c.updCont f).pwr = c.pwr := rfl
@[simp] theorem Core.updCont_tmp (c : Core) (f : Cont → Cont) : (c.updCont f).tmp = c.tmp := rfl
@[simp] theorem Core.updCont_lcs (c : Core) (f : Cont → Cont) : (c.updCont f).lcs = c.lcs := rfl
@[simp] theorem Core.updCont_flash (c : Core) (f : Cont → Cont) : (c.updCont f).flash = c.flash := rfl
@[simp] theorem Core.updCont_batt (c : Core) (f : Cont → Cont) : (c.updCont f).batt = c.batt := rfl
@[simp] theorem Core.updCont_cpath (c : Core) (f : Cont → Cont) : (c.updCont f).cpath = c.cpath := rfl
@[simp] theorem Core.updCont_evlog (c : Core) (f : Cont → Cont) : (c.updCont f).evlog = c.evlog := rfl
@[simp] theorem Core.updCont_fx (c : Core) (f : Cont → Cont) : (c.updCont f).fx = c.fx := rfl
@[simp] theorem Core.updCont_free (c : Core) (f : Cont → Cont) : (c.updCont f).free = c.free := rfl

@[simp] theorem Core.unlock_r (c : Core) : (c.unlock).r = c.r := rfl
@[simp] theorem Core.unlock_ports (c : Core) : (c.unlock).ports = c.ports := rfl
@[simp] theorem Core.unlock_slc (c : Core) : (c.unlock).slc = c.slc := rfl
@[simp] theorem Core.unlock_ring (c : Core) : (c.unlock).ring = c.ring := rfl
@[simp] theorem Core.unlock_cc (c : Core) : (c.unlock).cc = c.cc := rfl
@[simp] theorem Core.unlock_sent (c : Core) : (c.unlock).sent = c.sent := rfl
@[simp] theorem Core.unlock_mirror (c : Core) : (c.unlock).mirror = c.mirror := rfl
@[simp] theorem Core.unlock_hostLog (c : Core) : (c.unlock).hostLog = c.hostLog := rfl
@[simp] theorem Core.unlock_cont (c : Core) : (c.unlock).cont = c.cont := rfl
@[simp] theorem Core.unlock_eng (c : Core) : (c.unlock).eng = c.eng := rfl
@[simp] theorem Core.unlock_ent (c : Core) : (c.unlock).ent = c.ent := rfl
@[simp] theorem Core.unlock_siv (c : Core) : (c.unlock).siv = c.siv := rfl
@[simp] theorem Core.unlock_pwr (c : Core) : (c.unlock).pwr = c.pwr := rfl
@[simp] theorem Core.unlock_tmp (c : Core) : (c.unlock).tmp = c.tmp := rfl
@[simp] theorem Core.unlock_lcs (c : Core) : (c.unlock).lcs = c.lcs := rfl
@[simp] theorem Core.unlock_flash (c : Core) : (c.unlock).flash = c.flash := rfl
@[simp] theorem Core.unlock_batt (c : Core) : (c.unlock).batt = c.batt := rfl
@[simp] theorem Core.unlock_cpath (c : Core) : (c.unlock).cpath = c.cpath := rfl
@[simp] theorem Core.unlock_evlog (c : Core) : (c.unlock).evlog = c.evlog := rfl
@[simp] theorem Core.unlock_fx (c : Core) : (c.unlock).fx = c.fx := rfl
@[simp] theorem Core.unlock_free (c : Core) : (c.unlock).free = c.free := rfl

/-! ### Pulses: nothing but what is handed to the I/O die -/

@[simp] theorem Core.pulse_g (c : Core) (m n : Nat) : (c.pulse m n).g = c.g := by unfold Core.pulse; split <;> rfl
@[simp] theorem Core.pulseAll_g (c : Core) (n : Nat) : (c.pulseAll n).g = c.g := Core.pulse_g c _ n
@[simp] theorem Core.pulse_r (c : Core) (m n : Nat) : (c.pulse m n).r = c.r := by unfold Core.pulse; split <;> rfl
@[simp] theorem Core.pulseAll_r (c : Core) (n : Nat) : (c.pulseAll n).r = c.r := Core.pulse_r c _ n
@[simp] theorem Core.pulse_ports (c : Core) (m n : Nat) : (c.pulse m n).ports = c.ports := by unfold Core.pulse; split <;> rfl
@[simp] theorem Core.pulseAll_ports (c : Core) (n : Nat) : (c.pulseAll n).ports = c.ports := Core.pulse_ports c _ n
@[simp] theorem Core.pulse_slc (c : Core) (m n : Nat) : (c.pulse m n).slc = c.slc := by unfold Core.pulse; split <;> rfl
@[simp] theorem Core.pulseAll_slc (c : Core) (n : Nat) : (c.pulseAll n).slc = c.slc := Core.pulse_slc c _ n
@[simp] theorem Core.pulse_ring (c : Core) (m n : Nat) : (c.pulse m n).ring = c.ring := by unfold Core.pulse; split <;> rfl
@[simp] theorem Core.pulseAll_ring (c : Core) (n : Nat) : (c.pulseAll n).ring = c.ring := Core.pulse_ring c _ n
@[simp] theorem Core.pulse_cc (c : Core) (m n : Nat) : (c.pulse m n).cc = c.cc := by unfold Core.pulse; split <;> rfl
@[simp] theorem Core.pulseAll_cc (c : Core) (n : Nat) : (c.pulseAll n).cc = c.cc := Core.pulse_cc c _ n
@[simp] theorem Core.pulse_sent (c : Core) (m n : Nat) : (c.pulse m n).sent = c.sent := by unfold Core.pulse; split <;> rfl
@[simp] theorem Core.pulseAll_sent (c : Core) (n : Nat) : (c.pulseAll n).sent = c.sent := Core.pulse_sent c _ n
@[simp] theorem Core.pulse_mirror (c : Core) (m n : Nat) : (c.pulse m n).mirror = c.mirror := by unfold Core.pulse; split <;> rfl
@[simp] theorem Core.pulseAll_mirror (c : Core) (n : Nat) : (c.pulseAll n).mirror = c.mirror := Core.pulse_mirror c _ n
@[simp] theorem Core.pulse_hostLog (c : Core) (m n : Nat) : (c.pulse m n).hostLog = c.hostLog := by unfold Core.pulse; split <;> rfl
@[simp] theorem Core.pulseAll_hostLog (c : Core) (n : Nat) : (c.pulseAll n).hostLog = c.hostLog := Core.pulse_hostLog c _ n
@[simp] theorem Core.pulse_cont (c : Core) (m n : Nat) : (c.pulse m n).cont = c.cont := by unfold Core.pulse; split <;> rfl
@[simp] theorem Core.pulseAll_cont (c : Core) (n : Nat) : (c.pulseAll n).cont = c.cont := Core.pulse_cont c _ n
@[simp] theorem Core.pulse_eng (c : Core) (m n : Nat) : (c.pulse m n).eng = c.eng := by unfold Core.pulse; split <;> rfl
@[simp] theorem Core.pulseAll_eng (c : Core) (n : Nat) : (c.pulseAll n).eng = c.eng := Core.pulse_eng c _ n
@[simp] theorem Core.pulse_ent (c : Core) (m n : Nat) : (c.pulse m n).ent = c.ent := by unfold Core.pulse; split <;> rfl
@[simp] theorem Core.pulseAll_ent (c : Core) (n : Nat) : (c.pulseAll n).ent = c.ent := Core.pulse_ent c _ n
@[simp] theorem Core.pulse_siv (c : Core) (m n : Nat) : (c.pulse m n).siv = c.siv := by unfold Core.pulse; split <;> rfl
@[simp] theorem Core.pulseAll_siv (c : Core) (n : Nat) : (c.pulseAll n).siv = c.siv := Core.pulse_siv c _ n
@[simp] theorem Core.pulse_pwr (c : Core) (m n : Nat) : (c.pulse m n).pwr = c.pwr := by unfold Core.pulse; split <;> rfl
@[simp] theorem Core.pulseAll_pwr (c : Core) (n : Nat) : (c.pulseAll n).pwr = c.pwr := Core.pulse_pwr c _ n
@[simp] theorem Core.pulse_tmp (c : Core) (m n : Nat) : (c.pulse m n).tmp = c.tmp := by unfold Core.pulse; split <;> rfl
@[simp] theorem Core.pulseAll_tmp (c : Core) (n : Nat) : (c.pulseAll n).tmp = c.tmp := Core.pulse_tmp c _ n
@[simp] theorem Core.pulse_lcs (c : Core) (m n : Nat) : (c.pulse m n).lcs = c.lcs := by unfold Core.pulse; split <;> rfl
@[simp] theorem Core.pulseAll_lcs (c : Core) (n : Nat) : (c.pulseAll n).lcs = c.lcs := Core.pulse_lcs c _ n
@[simp] theorem Core.pulse_flash (c : Core) (m n : Nat) : (c.pulse m n).flash = c.flash := by unfold Core.pulse; split <;> rfl
@[simp] theorem Core.pulseAll_flash (c : Core) (n : Nat) : (c.pulseAll n).flash = c.flash := Core.pulse_flash c _ n
@[simp] theorem Core.pulse_batt (c : Core) (m n : Nat) : (c.pulse m n).batt = c.batt := by unfold Core.pulse; split <;> rfl
@[simp] theorem Core.pulseAll_batt (c : Core) (n : Nat) : (c.pulseAll n).batt = c.batt := Core.pulse_batt c _ n
@[simp] theorem Core.pulse_cpath (c : Core) (m n : Nat) : (c.pulse m n).cpath = c.cpath := by unfold Core.pulse; split <;> rfl
@[simp] theorem Core.pulseAll_cpath (c : Core) (n : Nat) : (c.pulseAll n).cpath = c.cpath := Core.pulse_cpath c _ n
@[simp] theorem Core.pulse_evlog (c : Core) (m n : Nat) : (c.pulse m n).evlog = c.evlog := by unfold Core.pulse; split <;> rfl
@[simp] theorem Core.pulseAll_evlog (c : Core) (n : Nat) : (c.pulseAll n).evlog = c.evlog := Core.pulse_evlog c _ n
@[simp] theorem Core.pulse_free (c : Core) (m n : Nat) : (c.pulse m n).free = c.free := by unfold Core.pulse; split <;> rfl
@[simp] theorem Core.pulseAll_free (c : Core) (n : Nat) : (c.pulseAll n).free = c.free := Core.pulse_free c _ n

/-! ### Refused writes: the counter of the port, its last access and source 64 -/

@[simp] theorem Core.refuseWrite_g (c : Core) (p b o : Nat) : (c.refuseWrite p b o).g = c.g := by simp [Core.refuseWrite]
@[simp] theorem Core.refuseWrite_r (c : Core) (p b o : Nat) : (c.refuseWrite p b o).r = c.r := by simp [Core.refuseWrite]
@[simp] theorem Core.refuseWrite_slc (c : Core) (p b o : Nat) : (c.refuseWrite p b o).slc = c.slc := by simp [Core.refuseWrite]
@[simp] theorem Core.refuseWrite_ring (c : Core) (p b o : Nat) : (c.refuseWrite p b o).ring = c.ring := by simp [Core.refuseWrite]
@[simp] theorem Core.refuseWrite_cc (c : Core) (p b o : Nat) : (c.refuseWrite p b o).cc = c.cc := by simp [Core.refuseWrite]
@[simp] theorem Core.refuseWrite_sent (c : Core) (p b o : Nat) : (c.refuseWrite p b o).sent = c.sent := by simp [Core.refuseWrite]
@[simp] theorem Core.refuseWrite_mirror (c : Core) (p b o : Nat) : (c.refuseWrite p b o).mirror = c.mirror := by simp [Core.refuseWrite]
@[simp] theorem Core.refuseWrite_hostLog (c : Core) (p b o : Nat) : (c.refuseWrite p b o).hostLog = c.hostLog := by simp [Core.refuseWrite]
@[simp] theorem Core.refuseWrite_cont (c : Core) (p b o : Nat) : (c.refuseWrite p b o).cont = c.cont := by simp [Core.refuseWrite]
@[simp] theorem Core.refuseWrite_eng (c : Core) (p b o : Nat) : (c.refuseWrite p b o).eng = c.eng := by simp [Core.refuseWrite]
@[simp] theorem Core.refuseWrite_ent (c : Core) (p b o : Nat) : (c.refuseWrite p b o).ent = c.ent := by simp [Core.refuseWrite]
@[simp] theorem Core.refuseWrite_siv (c : Core) (p b o : Nat) : (c.refuseWrite p b o).siv = c.siv := by simp [Core.refuseWrite]
@[simp] theorem Core.refuseWrite_pwr (c : Core) (p b o : Nat) : (c.refuseWrite p b o).pwr = c.pwr := by simp [Core.refuseWrite]
@[simp] theorem Core.refuseWrite_tmp (c : Core) (p b o : Nat) : (c.refuseWrite p b o).tmp = c.tmp := by simp [Core.refuseWrite]
@[simp] theorem Core.refuseWrite_lcs (c : Core) (p b o : Nat) : (c.refuseWrite p b o).lcs = c.lcs := by simp [Core.refuseWrite]
@[simp] theorem Core.refuseWrite_flash (c : Core) (p b o : Nat) : (c.refuseWrite p b o).flash = c.flash := by simp [Core.refuseWrite]
@[simp] theorem Core.refuseWrite_batt (c : Core) (p b o : Nat) : (c.refuseWrite p b o).batt = c.batt := by simp [Core.refuseWrite]
@[simp] theorem Core.refuseWrite_cpath (c : Core) (p b o : Nat) : (c.refuseWrite p b o).cpath = c.cpath := by simp [Core.refuseWrite]
@[simp] theorem Core.refuseWrite_evlog (c : Core) (p b o : Nat) : (c.refuseWrite p b o).evlog = c.evlog := by simp [Core.refuseWrite]
@[simp] theorem Core.refuseWrite_free (c : Core) (p b o : Nat) : (c.refuseWrite p b o).free = c.free := by simp [Core.refuseWrite]

/-! ### The whole state -/

@[simp] theorem State.updEvc_pending (s : State) (n : Nat) (f : Evc → Evc) : (s.updEvc n f).pending = s.pending := rfl
@[simp] theorem State.updEvc_core (s : State) (n : Nat) (f : Evc → Evc) : (s.updEvc n f).core = s.core := rfl
@[simp] theorem State.updEvc_out (s : State) (n : Nat) (f : Evc → Evc) : (s.updEvc n f).out = s.out := rfl
@[simp] theorem State.updEvc_evc (s : State) (n : Nat) (f : Evc → Evc) : (s.updEvc n f).evc = upd n f s.evc := rfl

end Sys2Proof.Machine
end

