-- ==== Sys2Proof/Laws/Settle.lean ====
section
/-! SUPPORT. What the consequences of a command leave alone: settle, after and run (R35, R38, R41, R63, R95, R107, R111). -/

namespace Sys2Proof.Machine

/-- The parts of the dies that no consequence of a command touches. -/
structure Core.Kept (a b : Core) : Prop where
  ring : b.ring = a.ring
  hostLog : b.hostLog = a.hostLog
  cont : b.cont = a.cont
  pwr : b.pwr = a.pwr
  tmp : b.tmp = a.tmp
  cpath : b.cpath = a.cpath
  free : b.free = a.free

theorem Core.Kept.refl (c : Core) : Core.Kept c c := ⟨rfl, rfl, rfl, rfl, rfl, rfl, rfl⟩

theorem Core.Kept.trans {a b c : Core} (h : Core.Kept a b) (k : Core.Kept b c) : Core.Kept a c :=
  ⟨k.ring.trans h.ring, k.hostLog.trans h.hostLog, k.cont.trans h.cont, k.pwr.trans h.pwr,
   k.tmp.trans h.tmp, k.cpath.trans h.cpath, k.free.trans h.free⟩

/-- One operation after another, the later one given first. -/
theorem Core.Kept.after {a b c : Core} (k : Core.Kept b c) (h : Core.Kept a b) : Core.Kept a c := h.trans k

/-- A fold of operations that keep these parts keeps them. -/
theorem Core.Kept.foldl {α : Type} (f : Core → α → Core) (h : ∀ c x, Core.Kept c (f c x)) (l : List α) (c : Core) : Core.Kept c (l.foldl f c) := by
  induction l generalizing c with
  | nil => exact .refl c
  | cons x l ih => exact (h c x).trans (ih (f c x))

/-- Iterating such an operation keeps them. -/
theorem Core.Kept.iter (f : Core → Core) (h : ∀ c, Core.Kept c (f c)) (n : Nat) (c : Core) : Core.Kept c (iter f n c) := by
  induction n generalizing c with
  | zero => exact .refl c
  | succ n ih => exact (h c).trans (ih (f c))

theorem Core.updCC_kept (c : Core) (f : CC → CC) : Core.Kept c (c.updCC f) := ⟨rfl, rfl, rfl, rfl, rfl, rfl, rfl⟩
theorem Core.log_kept (c : Core) (k v : Nat) : Core.Kept c (c.log k v) := ⟨rfl, rfl, rfl, rfl, rfl, rfl, rfl⟩
theorem Core.edge_kept (c : Core) (m n : Nat) : Core.Kept c (c.edge m n) := ⟨rfl, rfl, rfl, rfl, rfl, rfl, rfl⟩
theorem Core.updPort_kept (c : Core) (n : Nat) (f : Port → Port) : Core.Kept c (c.updPort n f) :=
  ⟨rfl, rfl, rfl, rfl, rfl, rfl, rfl⟩
theorem Core.pulse_kept (c : Core) (m n : Nat) : Core.Kept c (c.pulse m n) := by
  unfold Core.pulse; split <;> exact ⟨rfl, rfl, rfl, rfl, rfl, rfl, rfl⟩
theorem Core.noteMode_kept (c : Core) : Core.Kept c c.noteMode := by
  unfold Core.noteMode Core.pulseAll
  exact (Core.log_kept _ _ _).after ((Core.pulse_kept _ _ _).after ⟨rfl, rfl, rfl, rfl, rfl, rfl, rfl⟩)
theorem Core.setMode_kept (c : Core) (m : Mode) : Core.Kept c (c.setMode m) := by
  unfold Core.setMode
  split
  · exact .refl c
  · exact (Core.noteMode_kept _).after ⟨rfl, rfl, rfl, rfl, rfl, rfl, rfl⟩

theorem Core.retire_kept (c : Core) (tid : Nat) : Core.Kept c (c.retire tid) := by
  unfold Core.retire
  split
  · exact .refl c
  · split
    · exact .refl c
    · dsimp only
      split <;> exact ⟨rfl, rfl, rfl, rfl, rfl, rfl, rfl⟩

theorem Core.tryRetire_kept (c : Core) (tid : Nat) : Core.Kept c (c.tryRetire tid) := by
  unfold Core.tryRetire
  split
  · split
    · exact Core.retire_kept _ _
    · exact .refl c
  · exact .refl c

/-- What a running ERASE does touches none of these parts (R411). -/
theorem Core.settleErase_kept (c : Core) : Core.Kept c c.settleErase := by
  unfold Core.settleErase
  split
  · exact .refl c
  · split
    · exact .refl c
    · split
      · exact ⟨rfl, rfl, rfl, rfl, rfl, rfl, rfl⟩
      · split <;> exact ⟨rfl, rfl, rfl, rfl, rfl, rfl, rfl⟩

theorem Core.settleFence_kept (c : Core) : Core.Kept c c.settleFence := Core.Kept.foldl _ (fun c n => c.tryRetire_kept n) _ _
theorem Core.settleGone_kept (c : Core) : Core.Kept c c.settleGone :=
  Core.Kept.foldl _ (fun c _ => (c.updPort_kept _ _).trans (Core.updCC_kept _ _)) _ _
theorem Core.settleReduced_kept (c : Core) : Core.Kept c c.settleReduced := by
  unfold Core.settleReduced
  dsimp only
  split
  · exact .refl c
  · split
    · exact (Core.setMode_kept _ _).after ⟨rfl, rfl, rfl, rfl, rfl, rfl, rfl⟩
    · exact (Core.setMode_kept _ _).after ⟨rfl, rfl, rfl, rfl, rfl, rfl, rfl⟩
    · exact (Core.pulse_kept _ _ _).after ⟨rfl, rfl, rfl, rfl, rfl, rfl, rfl⟩
theorem Core.unlock_kept (c : Core) : Core.Kept c c.unlock := ⟨rfl, rfl, rfl, rfl, rfl, rfl, rfl⟩
theorem Core.settleDrain_kept (c : Core) : Core.Kept c c.settleDrain := by
  have first : Core.Kept c (if c.everywhere CC.drained && !c.g.drained then ({ c with g := { c.g with drained := true } } : Core).noteMode else c) := by
    split
    · exact (Core.noteMode_kept _).after ⟨rfl, rfl, rfl, rfl, rfl, rfl, rfl⟩
    · exact .refl c
  unfold Core.settleDrain
  generalize (if c.everywhere CC.drained && !c.g.drained then ({ c with g := { c.g with drained := true } } : Core).noteMode else c) = d at first
  split
  · exact .refl c
  · dsimp only
    split
    · split
      · exact (Core.setMode_kept _ _).after ((Core.unlock_kept _).after first)
      · exact (Core.noteMode_kept _).after ((Core.unlock_kept _).after (first.trans ⟨rfl, rfl, rfl, rfl, rfl, rfl, rfl⟩))
    · exact first
theorem Core.settleTransit_kept (c : Core) : Core.Kept c c.settleTransit := by
  unfold Core.settleTransit
  split
  · exact .refl c
  · split
    · have h : Core.Kept c c.clearEnables.unlock := ⟨rfl, rfl, rfl, rfl, rfl, rfl, rfl⟩
      have k := h.trans (Core.setMode_kept c.clearEnables.unlock .transit)
      exact ⟨k.ring, k.hostLog, k.cont, k.pwr, k.tmp, k.cpath, k.free⟩
    · exact .refl c
theorem Core.settleLocks_kept (c : Core) : Core.Kept c c.settleLocks := ⟨rfl, rfl, rfl, rfl, rfl, rfl, rfl⟩

theorem Core.settleLoose_kept (c : Core) : Core.Kept c c.settleLoose := Core.updCC_kept c _
theorem Core.askTranslation_kept (c : Core) (port pasid iova : Nat) : Core.Kept c (c.askTranslation port pasid iova) := by
  unfold Core.askTranslation
  split
  · exact ⟨rfl, rfl, rfl, rfl, rfl, rfl, rfl⟩
  · exact .refl c
theorem Core.sendRead_kept (c : Core) (port pasid iova n : Nat) (relaxed : Bool) : Core.Kept c (c.sendRead port pasid iova n relaxed) :=
  Core.Kept.foldl (fun (c : Core) (x : Nat × Nat) => c.send (.read port pasid x.1 x.2 relaxed)) (fun _ _ => ⟨rfl, rfl, rfl, rfl, rfl, rfl, rfl⟩) _ _
theorem Core.sendMsg_kept (c : Core) (port : Nat) : Core.Kept c (c.sendMsg port) := by
  unfold Core.sendMsg
  split
  · exact .refl c
  · split
    · exact .refl c
    · exact ⟨rfl, rfl, rfl, rfl, rfl, rfl, rfl⟩
theorem Core.settleMsgs_kept (c : Core) (port : Nat) : Core.Kept c (c.settleMsgs port) := by
  unfold Core.settleMsgs
  split
  · exact Core.Kept.iter _ (fun c => c.sendMsg_kept port) _ _
  · exact .refl c
/-- Sending the reads of an operand hands effects to the I/O die and nothing else. -/
theorem Core.sendPieces_kept (t : Task) (l : List (Nat × Nat)) (c : Core) (k : Nat) : Core.Kept c (c.sendPieces t k l).1 := by
  induction l generalizing c k with
  | nil => exact .refl c
  | cons x l ih =>
    unfold Core.sendPieces
    dsimp only
    split
    · exact .refl c
    · split
      · exact Core.askTranslation_kept _ _ _ _
      · exact (Core.sendRead_kept _ _ _ _ _ _).trans (ih _ _)
theorem Core.askOperand_kept (c : Core) (tid : Nat) : Core.Kept c (c.askOperand tid) := by
  unfold Core.askOperand
  split
  · exact .refl c
  · exact (Core.sendPieces_kept _ _ _ _).trans (Core.updCC_kept _ _)
theorem Core.settlePortReads_kept (c : Core) (port : Nat) : Core.Kept c (c.settlePortReads port) :=
  Core.Kept.iter _ (fun c => by
    split
    · exact c.askOperand_kept _
    · exact .refl c) _ _
theorem Core.settleReads_kept (c : Core) : Core.Kept c c.settleReads := Core.Kept.foldl _ (fun c n => c.settlePortReads_kept n) _ _
theorem Core.settleMessages_kept (c : Core) : Core.Kept c c.settleMessages := Core.Kept.foldl _ (fun c n => c.settleMsgs_kept n) _ _
theorem Core.settleSearch_kept (c : Core) : Core.Kept c c.settleSearch := by
  unfold Core.settleSearch
  split
  · exact .refl c
  · exact ⟨rfl, rfl, rfl, rfl, rfl, rfl, rfl⟩
theorem Core.settleCores_kept (c : Core) : Core.Kept c c.settleCores := ⟨rfl, rfl, rfl, rfl, rfl, rfl, rfl⟩
theorem Core.settleTokens_kept (c : Core) : Core.Kept c c.settleTokens := by
  unfold Core.settleTokens
  split
  · exact .refl c
  · exact ⟨rfl, rfl, rfl, rfl, rfl, rfl, rfl⟩
theorem Core.settleRewrites_kept (c : Core) : Core.Kept c c.settleRewrites := by
  unfold Core.settleRewrites
  split
  · exact .refl c
  · exact ⟨rfl, rfl, rfl, rfl, rfl, rfl, rfl⟩

/-- What every consequence of a command leaves alone. -/
theorem Core.settle_kept (c : Core) : Core.Kept c c.settle :=
  (((((((((((((c.settleErase_kept.trans (Core.settleFence_kept _)).trans (Core.settleGone_kept _)).trans (Core.settleLoose_kept _)).trans
    (Core.settleReduced_kept _)).trans (Core.settleDrain_kept _)).trans (Core.settleTransit_kept _)).trans (Core.settleLocks_kept _)).trans
    (Core.settleReads_kept _)).trans (Core.settleMessages_kept _)).trans (Core.settleSearch_kept _)).trans (Core.settleCores_kept _)).trans
    (Core.settleTokens_kept _)).trans (Core.settleRewrites_kept _))

theorem Core.logPortDrains_kept (before after : Core) : Core.Kept after (before.logPortDrains after) := by
  unfold Core.logPortDrains
  exact Core.Kept.foldl _ (fun c n => by split <;> first | exact Core.log_kept _ _ _ | exact .refl c) _ _

/-! ### Effects on the I/O die change the controllers, the output and the links of ports only -/

/-- A link that wakes changes the ports of the dies and nothing else. -/
theorem State.wakeLink_core (s : State) (p : Nat) : (s.wakeLink p).core = { s.core with ports := (s.wakeLink p).core.ports } := by
  unfold State.wakeLink
  split <;> rfl
@[simp] theorem State.wakeLink_pending (s : State) (p : Nat) : (s.wakeLink p).pending = s.pending := by
  unfold State.wakeLink
  split <;> rfl
@[simp] theorem State.wakeLink_out (s : State) (p : Nat) : (s.wakeLink p).out = s.out := by
  unfold State.wakeLink
  split <;> rfl
theorem State.edgeOn_core (s : State) (n p : Nat) : (s.edgeOn n p).core = { s.core with ports := (s.edgeOn n p).core.ports } := by
  unfold State.edgeOn
  dsimp only
  split
  · exact State.wakeLink_core _ _
  · rfl
@[simp] theorem State.edgeOn_pending (s : State) (n p : Nat) : (s.edgeOn n p).pending = s.pending := by
  unfold State.edgeOn
  dsimp only
  split
  · exact State.wakeLink_pending _ _
  · rfl
@[simp] theorem State.edgeOn_out (s : State) (n p : Nat) : (s.edgeOn n p).out = s.out := by
  unfold State.edgeOn
  dsimp only
  split
  · exact State.wakeLink_out _ _
  · rfl
/-- Two changes of the ports in turn are one. -/
theorem Core.ports_trans {a b c : Core} (h : b = { a with ports := b.ports }) (k : c = { b with ports := c.ports }) : c = { a with ports := c.ports } := by
  rw [k, h]
theorem State.edges_core (s : State) (m n : Nat) : (s.edges m n).core = { s.core with ports := (s.edges m n).core.ports } := by
  unfold State.edges
  generalize setBits 4 m = l
  induction l generalizing s with
  | nil => rfl
  | cons x l ih => exact Core.ports_trans (State.edgeOn_core s n x) (ih _)
@[simp] theorem State.edges_pending (s : State) (m n : Nat) : (s.edges m n).pending = s.pending := by
  unfold State.edges
  generalize setBits 4 m = l
  induction l generalizing s with
  | nil => rfl
  | cons x l ih => exact (ih _).trans (State.edgeOn_pending s n x)
@[simp] theorem State.edges_out (s : State) (m n : Nat) : (s.edges m n).out = s.out := by
  unfold State.edges
  generalize setBits 4 m = l
  induction l generalizing s with
  | nil => rfl
  | cons x l ih => exact (ih _).trans (State.edgeOn_out s n x)
theorem State.applyFx_core (s : State) (f : Fx) : (s.applyFx f).core = { s.core with ports := (s.applyFx f).core.ports } := by
  cases f with
  | pulse m n => exact State.edges_core s m n
  | evcReset n => rfl
  | out o => rfl
@[simp] theorem State.applyFx_pending (s : State) (f : Fx) : (s.applyFx f).pending = s.pending := by
  cases f with
  | pulse m n => exact State.edges_pending s m n
  | evcReset n => rfl
  | out o => rfl
theorem State.applyAll_core (l : List Fx) (s : State) : (s.applyAll l).core = { s.core with ports := (s.applyAll l).core.ports } := by
  induction l generalizing s with
  | nil => rfl
  | cons x l ih => exact Core.ports_trans (State.applyFx_core s x) (ih _)
@[simp] theorem State.applyAll_pending (l : List Fx) (s : State) : (s.applyAll l).pending = s.pending := by
  induction l generalizing s with
  | nil => rfl
  | cons x l ih => exact (ih _).trans (State.applyFx_pending _ _)

theorem Core.aftermath_kept (before c : Core) : Core.Kept c (before.aftermath c) := by
  have h : Core.Kept c (before.logPortDrains c.settle) := c.settle_kept.trans (Core.logPortDrains_kept _ _)
  unfold Core.aftermath
  generalize before.logPortDrains c.settle = d at h
  dsimp only
  split
  · exact h.trans (Core.edge_kept d 1 113)
  · exact h

/-- The dies after a command: what its consequences left, with links that an event has brought back to L0. -/
theorem State.after_core (s : State) (c : Core) : (s.after c).core = { s.core.aftermath c with fx := [], ports := (s.after c).core.ports } :=
  State.applyAll_core _ _

theorem Core.noFx_kept (c : Core) (l : List Port) : Core.Kept c { c with fx := [], ports := l } := ⟨rfl, rfl, rfl, rfl, rfl, rfl, rfl⟩

/-- What State.after leaves of the dies it is given. -/
theorem State.after_kept (s : State) (c : Core) : Core.Kept c (s.after c).core := by
  rw [State.after_core]
  exact (Core.aftermath_kept s.core c).trans (Core.noFx_kept _ _)

theorem State.applyTo_pending (s : State) (c : Core) (l : List Fx) : (State.applyAll { s with core := c } l).pending = s.pending :=
  State.applyAll_pending _ _

/-- The queue is not State.after's business. -/
@[simp] theorem State.after_pending (s : State) (c : Core) : (s.after c).pending = s.pending := by
  unfold State.after
  exact State.applyTo_pending s _ _

/-- Everything run can do: it answers the state after the command's effect. -/
theorem run_eq (f : Core → Core) (s : State) : run f s = .next (s.after (f s.dies)) := rfl

end Sys2Proof.Machine
end

