-- ==== Sys2Proof/Laws/Table.lean ====
section
/-! SUPPORT. Tables in rising key order: what a read finds after each change, and that each change keeps the order; and lists changed at one place. -/

namespace Sys2Proof.Machine

/-- A bound below every key of a table. -/
def Table.above {α : Type} (k : Nat) (t : Table α) : Prop := ∀ e ∈ t, k < e.1

theorem Table.find_cons_self {α : Type} (k : Nat) (v : α) (t : Table α) : Table.find k ((k, v) :: t) = some v := by
  unfold Table.find; rw [if_pos rfl]

theorem Table.wf_cons {α : Type} (a : Nat) (v : α) (t : Table α) : Table.wf ((a, v) :: t) = true ↔ Table.above a t ∧ Table.wf t = true := by
  induction t generalizing a v with
  | nil => simp [Table.wf, Table.above]
  | cons e r ih =>
    obtain ⟨b, w⟩ := e
    simp only [Table.wf, Bool.and_eq_true, decide_eq_true_eq]
    constructor
    · intro h
      refine ⟨?_, h.2⟩
      intro x hx
      rcases List.mem_cons.1 hx with h1 | h1
      · subst h1; exact h.1
      · exact Nat.lt_trans h.1 (((ih b w).1 h.2).1 x h1)
    · intro h
      exact ⟨h.1 (b, w) (List.mem_cons_self ..), h.2⟩

theorem Table.find_above {α : Type} (k : Nat) (t : Table α) (h : Table.above k t) : Table.find k t = none := by
  cases t with
  | nil => rfl
  | cons e r =>
    obtain ⟨b, w⟩ := e
    have hb : k < b := h (b, w) (List.mem_cons_self ..)
    unfold Table.find
    rw [if_neg (by omega), if_pos hb]

/-- A read at the key just put finds the value. -/
@[simp] theorem Table.find_put_self {α : Type} (k : Nat) (v : α) (t : Table α) : Table.find k (Table.put k v t) = some v := by
  induction t with
  | nil => exact Table.find_cons_self k v []
  | cons e r ih =>
    obtain ⟨j, w⟩ := e
    unfold Table.put
    split
    · exact Table.find_cons_self k v r
    · split
      · exact Table.find_cons_self k v _
      · unfold Table.find
        rw [if_neg (by assumption), if_neg (by assumption)]
        exact ih

/-- A put leaves every other key as it was. -/
theorem Table.find_put_ne {α : Type} (k m : Nat) (v : α) (t : Table α) (h : m ≠ k) : Table.find m (Table.put k v t) = Table.find m t := by
  induction t with
  | nil =>
    unfold Table.put Table.find
    rw [if_neg (by omega)]
    split <;> rfl
  | cons e r ih =>
    obtain ⟨j, w⟩ := e
    unfold Table.put
    split
    · rename_i hj
      subst hj
      simp [Table.find, Ne.symm h]
    · split
      · rename_i hj hk
        by_cases hm : m < k
        · conv => lhs; unfold Table.find
          rw [if_neg (by omega), if_pos hm]
          unfold Table.find
          rw [if_neg (by omega), if_pos (by omega)]
        · conv => lhs; unfold Table.find
          rw [if_neg (by omega), if_neg hm]
      · unfold Table.find
        rw [ih]

theorem Table.mem_put {α : Type} (k : Nat) (v : α) (t : Table α) (x : Nat × α) (h : x ∈ Table.put k v t) : x = (k, v) ∨ x ∈ t := by
  induction t with
  | nil => exact Or.inl (List.mem_singleton.1 h)
  | cons e r ih =>
    obtain ⟨j, w⟩ := e
    unfold Table.put at h
    split at h
    · rcases List.mem_cons.1 h with h1 | h1
      · exact Or.inl h1
      · exact Or.inr (List.mem_cons_of_mem _ h1)
    · split at h
      · rcases List.mem_cons.1 h with h1 | h1
        · exact Or.inl h1
        · exact Or.inr h1
      · rcases List.mem_cons.1 h with h1 | h1
        · exact Or.inr (h1 ▸ List.mem_cons_self ..)
        · rcases ih h1 with h2 | h2
          · exact Or.inl h2
          · exact Or.inr (List.mem_cons_of_mem _ h2)

/-- A put keeps the order. -/
theorem Table.wf_put {α : Type} (k : Nat) (v : α) (t : Table α) (h : Table.wf t = true) : Table.wf (Table.put k v t) = true := by
  induction t with
  | nil => rfl
  | cons e r ih =>
    obtain ⟨j, w⟩ := e
    obtain ⟨h1, h2⟩ := (Table.wf_cons j w r).1 h
    unfold Table.put
    split
    · rename_i hj
      subst hj
      exact (Table.wf_cons j v r).2 ⟨h1, h2⟩
    · split
      · rename_i hk
        refine (Table.wf_cons k v _).2 ⟨?_, h⟩
        intro x hx
        rcases List.mem_cons.1 hx with hx | hx
        · subst hx; exact hk
        · exact Nat.lt_trans hk (h1 x hx)
      · refine (Table.wf_cons j w _).2 ⟨?_, ih h2⟩
        intro x hx
        rcases Table.mem_put k v r x hx with hx | hx
        · subst hx
          show j < k
          omega
        · exact h1 x hx

theorem Table.above_del {α : Type} (a k : Nat) (t : Table α) (h : Table.above a t) : Table.above a (Table.del k t) :=
  fun x hx => h x (List.mem_filter.1 hx).1

/-- A removal keeps the order. -/
theorem Table.wf_del {α : Type} (k : Nat) (t : Table α) (h : Table.wf t = true) : Table.wf (Table.del k t) = true := by
  induction t with
  | nil => rfl
  | cons e r ih =>
    obtain ⟨j, w⟩ := e
    obtain ⟨h1, h2⟩ := (Table.wf_cons j w r).1 h
    have hr := ih h2
    unfold Table.del
    rw [List.filter_cons]
    split
    · exact (Table.wf_cons j w _).2 ⟨Table.above_del j k r h1, hr⟩
    · exact hr

/-- A read at a removed key finds nothing. -/
theorem Table.find_del_self {α : Type} (k : Nat) (t : Table α) : Table.find k (Table.del k t) = none := by
  induction t with
  | nil => rfl
  | cons e r ih =>
    obtain ⟨j, w⟩ := e
    by_cases hj : j = k
    · subst hj
      simpa [Table.del] using ih
    · have : Table.del k ((j, w) :: r) = (j, w) :: Table.del k r := by simp [Table.del, hj]
      rw [this]
      unfold Table.find
      rw [if_neg hj]
      split
      · rfl
      · exact ih

/-- A removal leaves every other key of a table in order as it was. -/
theorem Table.find_del_ne {α : Type} (k m : Nat) (t : Table α) (hw : Table.wf t = true) (h : m ≠ k) : Table.find m (Table.del k t) = Table.find m t := by
  induction t with
  | nil => rfl
  | cons e r ih =>
    obtain ⟨j, w⟩ := e
    obtain ⟨h1, h2⟩ := (Table.wf_cons j w r).1 hw
    by_cases hj : j = k
    · subst hj
      have hd : Table.del j ((j, w) :: r) = Table.del j r := by simp [Table.del]
      rw [hd, ih h2]
      conv => rhs; unfold Table.find
      rw [if_neg (Ne.symm h)]
      split
      · exact Table.find_above m r (fun x hx => Nat.lt_trans (by assumption) (h1 x hx))
      · rfl
    · have hd : Table.del k ((j, w) :: r) = (j, w) :: Table.del k r := by simp [Table.del, hj]
      rw [hd]
      unfold Table.find
      rw [ih h2]

/-- What a read finds after one entry is changed. -/
theorem Table.find_upd {α : Type} (k m : Nat) (f : α → α) (t : Table α) :
    Table.find m (Table.upd k f t) = if m = k then (Table.find k t).map f else Table.find m t := by
  induction t with
  | nil => split <;> rfl
  | cons e r ih =>
    obtain ⟨j, w⟩ := e
    unfold Table.upd
    by_cases hj : j = k
    · subst hj
      rw [if_pos rfl]
      by_cases hm : m = j
      · subst hm
        rw [if_pos rfl, Table.find_cons_self, Table.find_cons_self]
        rfl
      · rw [if_neg hm]
        unfold Table.find
        rw [if_neg (Ne.symm hm), if_neg (Ne.symm hm)]
    · rw [if_neg hj]
      by_cases hm : m = k
      · subst hm
        rw [if_pos rfl] at *
        unfold Table.find
        rw [if_neg hj]
        split
        · rfl
        · exact ih
      · rw [if_neg hm] at *
        unfold Table.find
        rw [ih]

/-- The read at the changed entry. -/
@[simp] theorem Table.find_upd_self {α : Type} (k : Nat) (f : α → α) (t : Table α) : Table.find k (Table.upd k f t) = (Table.find k t).map f := by
  rw [Table.find_upd, if_pos rfl]

/-- A read elsewhere. -/
theorem Table.find_upd_ne {α : Type} (k m : Nat) (f : α → α) (t : Table α) (h : m ≠ k) : Table.find m (Table.upd k f t) = Table.find m t := by
  rw [Table.find_upd, if_neg h]

/-- The keys are the same after one entry is changed. -/
theorem Table.keys_upd {α : Type} (k : Nat) (f : α → α) (t : Table α) : (Table.upd k f t).map (·.1) = t.map (·.1) := by
  induction t with
  | nil => rfl
  | cons e r ih =>
    obtain ⟨j, w⟩ := e
    unfold Table.upd
    split
    · rfl
    · simpa using ih

/-- A read with a default at the key just written. -/
@[simp] theorem Table.findD_putD_self {α : Type} [DecidableEq α] (k : Nat) (v d : α) (t : Table α) : Table.findD k d (Table.putD k v d t) = v := by
  unfold Table.findD Table.putD
  split
  · rename_i h
    rw [Table.find_del_self, h]
    rfl
  · rw [Table.find_put_self]
    rfl

/-- A read with a default elsewhere, in a table in order. -/
theorem Table.findD_putD_ne {α : Type} [DecidableEq α] (k m : Nat) (v d : α) (t : Table α) (hw : Table.wf t = true) (h : m ≠ k) :
    Table.findD m d (Table.putD k v d t) = Table.findD m d t := by
  unfold Table.findD Table.putD
  split
  · rw [Table.find_del_ne k m t hw h]
  · rw [Table.find_put_ne k m v t h]

/-- A write with a default keeps the order. -/
theorem Table.wf_putD {α : Type} [DecidableEq α] (k : Nat) (v d : α) (t : Table α) (h : Table.wf t = true) : Table.wf (Table.putD k v d t) = true := by
  unfold Table.putD
  split
  · exact Table.wf_del k t h
  · exact Table.wf_put k v t h

@[simp] theorem upd_length {α : Type} (i : Nat) (f : α → α) (l : List α) : (upd i f l).length = l.length := by simp [upd]

/-- The element changed, in range. -/
theorem upd_getD_self {α : Type} (i : Nat) (f : α → α) (l : List α) (d : α) (h : i < l.length) : (upd i f l).getD i d = f (l.getD i d) := by
  simp [upd, List.getD, h]

/-- Any other element. -/
theorem upd_getD_ne {α : Type} (i j : Nat) (f : α → α) (l : List α) (d : α) (h : j ≠ i) : (upd i f l).getD j d = l.getD j d := by
  simp [upd, List.getD, Ne.symm h]

end Sys2Proof.Machine
end

