-- ==== Sys2Proof/Laws/Ops.lean ====
section
/-! SUPPORT. What the shared operations can do, each said once: host writes and unit writes, operations without steps, steps computed, draws and gates. -/

namespace Sys2Proof.Machine

/-! ### Host writes -/

/-- A host write that reaches a port's function is logged and then has its own effect. -/
theorem Core.hostWrite_reaches (c : Core) (port bar offset v : Nat) (f : Core → Core)
    (h : c.hostUp port = true ∧ c.scrapped = false ∧ c.cont.dead = false) : c.hostWrite port bar offset v f = f (c.logHost port bar offset v) := by
  unfold Core.hostWrite; simp [h.1, h.2.1, h.2.2]

/-- A host write that reaches no function changes nothing. -/
theorem Core.hostWrite_lost (c : Core) (port bar offset v : Nat) (f : Core → Core)
    (h : c.hostUp port = false ∨ c.scrapped = true ∨ c.cont.dead = true) : c.hostWrite port bar offset v f = c := by
  unfold Core.hostWrite; rcases h with h | h | h <;> simp [h]

/-- What the log of a host write leaves: everything the write's own conditions read. -/
theorem Core.logHost_kept (c : Core) (port bar offset v : Nat) :
    (c.logHost port bar offset v).g = c.g ∧ (c.logHost port bar offset v).r = c.r ∧ (c.logHost port bar offset v).ports = c.ports ∧
    (c.logHost port bar offset v).slc = c.slc ∧ (c.logHost port bar offset v).ring = c.ring ∧ (c.logHost port bar offset v).cc = c.cc ∧
    (c.logHost port bar offset v).cont = c.cont ∧ (c.logHost port bar offset v).fx = c.fx ∧ (c.logHost port bar offset v).frozen = c.frozen :=
  ⟨rfl, rfl, rfl, rfl, rfl, rfl, rfl, rfl, rfl⟩

/-- A write to a unit register by the manager of port 0, in an open mode and unlocked, has its own effect. -/
theorem Core.unitWrite_opens (c : Core) (offset v : Nat) (f : Core → Core) (h : c.hostUp 0 = true ∧ c.scrapped = false ∧ c.cont.dead = false)
    (hf : c.frozen = false) : c.unitWrite 0 offset v true f = f (c.logHost 0 0 offset v) := by
  have h9 := (Core.logHost_kept c 0 0 offset v).2.2.2.2.2.2.2.2
  unfold Core.unitWrite
  rw [Core.hostWrite_reaches c 0 0 offset v _ h]
  simp [h9, hf]

/-- A write to a unit register that may not be written is dropped and counted. -/
theorem Core.unitWrite_refused (c : Core) (port offset v : Nat) (o : Bool) (f : Core → Core)
    (h : c.hostUp port = true ∧ c.scrapped = false ∧ c.cont.dead = false) (hf : port ≠ 0 ∨ c.frozen = true ∨ o = false) :
    c.unitWrite port offset v o f = (c.logHost port 0 offset v).refuseWrite port 0 offset := by
  have h9 := (Core.logHost_kept c port 0 offset v).2.2.2.2.2.2.2.2
  unfold Core.unitWrite
  rw [Core.hostWrite_reaches c port 0 offset v _ h]
  apply if_pos
  rw [h9]
  rcases hf with h1 | h1 | h1
  · exact Or.inl h1
  · exact Or.inr (Or.inl h1)
  · exact Or.inr (Or.inr (by simp [h1]))

/-! ### Tasks -/

@[simp] theorem Core.task_updTask_self (c : Core) (tid : Nat) (f : Task → Task) : (c.updTask tid f).task tid = (c.task tid).map f :=
  Table.find_upd_self tid f c.cc.tasks

theorem Core.task_updTask_ne (c : Core) (tid m : Nat) (f : Task → Task) (h : m ≠ tid) : (c.updTask tid f).task m = c.task m :=
  Table.find_upd_ne tid m f c.cc.tasks h

/-- Changing a task changes the table of tasks alone. -/
theorem Core.updTask_kept (c : Core) (tid : Nat) (f : Task → Task) : Core.Kept c (c.updTask tid f) := Core.updCC_kept c _

/-- The result of a step: it is issued, and its result waits; every other task stands. -/
theorem Core.computed_task (c : Core) (tid k : Nat) (r : StepRes) (t : Task) (h : c.task tid = some t) :
    (c.computed tid k r).task tid = some { t.issue k with results := Table.put k r t.results } ∧ ∀ m, m ≠ tid → (c.computed tid k r).task m = c.task m := by
  refine ⟨?_, fun m hm => Core.task_updTask_ne c tid m _ hm⟩
  unfold Core.computed
  rw [Core.task_updTask_self, h]
  rfl

/-! ### Operations without steps -/

/-- A check that holds. -/
@[simp] theorem need_true (c : Core) (e : Ended) : need c true e = .ok () := rfl
/-- A check that fails. -/
@[simp] theorem need_false (c : Core) (e : Ended) : need c false e = .error (.refused c e) := rfl

/-- An operation at work does what its body answers. -/
theorem Core.runOp_at (c : Core) (tid cls op : Nat) (t : Task) (f : Core → Task → Op (Core × OpEnd)) (h : c.OpAt tid cls op t) :
    c.runOp tid cls op f = (match f c t with
      | .ok (d, e) => d.opEnd c.cc.cust tid e
      | .error (.refused d e) => d.opEnd c.cc.cust tid { status := e.1, detail := e.2 }
      | .error (.wait d) => d) := by
  have h1 : (t.st != .admitted || t.opclass != cls || t.opcode != op || !covers t.flags 0x5F || !c.leaseHeld || (cls == clsAdmin && !c.dispatching)
      || c.cc.behind tid t) = false := by
    have h6 := h.open_
    rw [h.st, h.kind, h.code, h.flags, h.lease, h.first]
    by_cases hc : cls = clsAdmin
    · simp [h6 hc]
    · simp [hc]
  unfold Core.runOp
  rw [h.task]
  simp only [h1]
  rfl

/-- Without an operation at work nothing happens. -/
theorem Core.runOp_off (c : Core) (tid cls op : Nat) (f : Core → Task → Op (Core × OpEnd)) (h : ∀ t, ¬ c.OpAt tid cls op t) : c.runOp tid cls op f = c := by
  unfold Core.runOp
  cases ht : c.task tid with
  | none => rfl
  | some t =>
    dsimp only
    split
    · rfl
    · rename_i hb
      simp only [Bool.or_eq_true, not_or, Bool.and_eq_true, bne_iff_ne, ne_eq, Decidable.not_not, Bool.not_eq_true', not_and] at hb
      obtain ⟨⟨⟨⟨⟨⟨h1, h2⟩, h3⟩, h4⟩, h5⟩, h6⟩, h7⟩ := hb
      exact absurd ⟨ht, h1, h2, h3, by simpa using h4, by simpa using h5, fun hc => by simpa using h6 (by simp [hc]), by simpa using h7⟩ (h t)

/-- An operation whose body succeeds. -/
theorem Core.runOp_ok (c : Core) (tid cls op : Nat) (t : Task) (f : Core → Task → Op (Core × OpEnd)) (h : c.OpAt tid cls op t) (d : Core) (e : OpEnd)
    (hf : f c t = .ok (d, e)) : c.runOp tid cls op f = d.opEnd c.cc.cust tid e := by
  rw [Core.runOp_at c tid cls op t f h, hf]

/-- An operation whose body refuses. -/
theorem Core.runOp_refused (c : Core) (tid cls op : Nat) (t : Task) (f : Core → Task → Op (Core × OpEnd)) (h : c.OpAt tid cls op t) (d : Core) (e : Ended)
    (hf : f c t = .error (.refused d e)) : c.runOp tid cls op f = d.opEnd c.cc.cust tid { status := e.1, detail := e.2 } := by
  rw [Core.runOp_at c tid cls op t f h, hf]

/-- The end of an operation that is held, waits for its glaze, or has changed custody state: its task is COMMITTING with its outcome. -/
theorem Core.opEnd_commits (c : Core) (before : Custody) (tid : Nat) (e : OpEnd) (t : Task) (h : c.task tid = some t)
    (hc : e.held = true ∨ e.atGlaze = true ∨ c.cc.cust ≠ before) :
    (c.opEnd before tid e).task tid = some (({ t with status := e.status, detail := e.detail, res0 := some e.res0, res1 := some e.res1, st := .committing, commitEpoch := if e.held then 0 else c.cc.epoch } : Task).deliver e.data) ∧ ∀ m, m ≠ tid → (c.opEnd before tid e).task m = c.task m := by
  have hb : (e.held || e.atGlaze || c.cc.cust != before) = true := by
    rcases hc with h1 | h1 | h1
    · simp [h1]
    · simp [h1]
    · simp [h1]
  unfold Core.opEnd
  simp only [hb, if_true]
  exact ⟨by rw [Core.task_updTask_self, h]; rfl, fun m hm => Core.task_updTask_ne c tid m _ hm⟩

/-- The end of any other operation is at once. -/
theorem Core.opEnd_finishes (c : Core) (before : Custody) (tid : Nat) (e : OpEnd) (h1 : e.held = false) (h2 : e.atGlaze = false) (h3 : c.cc.cust = before) :
    c.opEnd before tid e = c.finish tid e.status e.detail e.res0 e.res1 e.data := by
  unfold Core.opEnd
  simp [h1, h2, h3]

/-- Finishing a task leaves the dies outside the control complex, but for the engines' fence, as they were. -/
theorem Core.finish_kept (c : Core) (tid status detail res0 res1 : Nat) (data : Bytes) : Core.Kept c (c.finish tid status detail res0 res1 data) :=
  (Core.updTask_kept c tid _).trans (Core.tryRetire_kept _ tid)

/-- The end of an operation leaves them as they were too. -/
theorem Core.opEnd_kept (c : Core) (before : Custody) (tid : Nat) (e : OpEnd) : Core.Kept c (c.opEnd before tid e) := by
  unfold Core.opEnd
  split
  · exact Core.updTask_kept c tid _
  · exact Core.finish_kept c tid _ _ _ _ _

/-! ### Gates and draws -/

/-- The gate of a sensitive command, met: the tokens of its digest are consumed and source 130 told. -/
theorem Core.gate_met (c : Core) (g : Nat) (digest : Bytes) (h : (c.cc.cust.group g).quorum ≤ c.cc.cust.tokensFor c.now g digest) :
    c.gate g digest = .ok ((c.updCust (fun x => { x with tokens := x.tokens.filter (fun t => t.digest != digest) })).edge (c.groupPorts g) 130) := by
  unfold Core.gate; simp [h]

/-- The gate of a sensitive command, not met: CUSTODY_REQUIRED with quorum and count, no token consumed, source 131 told. -/
theorem Core.gate_unmet (c : Core) (g : Nat) (digest : Bytes) (h : c.cc.cust.tokensFor c.now g digest < (c.cc.cust.group g).quorum) :
    c.gate g digest = .error (.refused (c.edge (c.groupPorts g) 131)
      (Status.custodyRequired, (c.cc.cust.group g).quorum * 256 + c.cc.cust.tokensFor c.now g digest)) := by
  unfold Core.gate; simp [Nat.not_le.2 h]

/-- A draw of an operation: bytes, a wait for a seed that is noted with the task, or a stop that is counted. -/
theorem Core.drawFor_cases (c back stop : Core) (tid : Nat) (t : Task) (n : Nat) :
    (∃ b d, c.drawAt tid 32 n t = .got b d ∧ c.drawFor back stop tid t n = .ok (d, b)) ∨
    (c.drawAt tid 32 n t = .wait ∧ c.drawFor back stop tid t n = .error (.wait (back.awaitDraw tid 32 n))) ∨
    (c.drawAt tid 32 n t = .stopped ∧ ∃ d, c.drawFor back stop tid t n = .error (.refused d (Status.entropyUnavailable, 0))) := by
  unfold Core.drawFor
  cases h : c.drawAt tid 32 n t with
  | got b d => exact Or.inl ⟨b, d, rfl, rfl⟩
  | wait => exact Or.inr (Or.inl ⟨rfl, rfl⟩)
  | stopped => exact Or.inr (Or.inr ⟨rfl, _, rfl⟩)

/-- A step at work computes what its meaning answers. -/
theorem Core.compute_at (c : Core) (tid k op : Nat) (t : Task) (s : RStep) (f : Core → Task → RStep → Core × Option StepRes) (h : c.StepAt tid k op t s) :
    c.compute tid k (isOp op) f = (match f c t s with
      | (d, none) => d
      | (d, some r) => d.computed tid k r) := by
  have hk := h.kind
  have hs := h.step
  have ho := h.code
  have hw := h.work
  unfold Core.compute
  rw [h.task]
  subst hs
  have hi : ¬ (!isOp op t (imgStep t.image k) || !c.atWork tid t k) = true := by simp [hw, isOp, hk, ho]
  dsimp only
  rw [if_neg hi]
  rfl

end Sys2Proof.Machine
end

