-- ==== Sys2Proof/WellFormed.lean ====
section
/-! DEFINITION. Which commands are well-formed: every operand lies in the range the spec gives it in any variant. A well-formed command may still name an object that the variant or the state does not have. -/

namespace Sys2Proof

/-- An operand below a bound. -/
def below (x n : Nat) : Bool := decide (x < n)

/-- A block of 2,048 raw bits (R344). -/
def rawBlock (b : Bytes) : Bool := b.length == 256

/-- The host port a command names, if it names one. -/
def Instr.port? : Instr → Option Nat
  | .mainPowerGood => none
  | .pwrokOutRise _ => none
  | .wakeOtpLoaded => none
  | .wakeSelfTestEnd _ _ => none
  | .flashUnreadable => none
  | .keyTreeLoadComplete _ _ _ _ _ => none
  | .startupTestEnd _ _ _ => none
  | .seedComplete _ => none
  | .glbCtrlHalt p _ => some p
  | .glbCtrlQuiesce p _ => some p
  | .glbCtrlResume p _ => some p
  | .glbCtrlEnable p _ => some p
  | .glbCtrlEnableClear p _ => some p
  | .configCheckEnd _ p _ => some p
  | .portCtrlEnable p _ => some p
  | .portCtrlEnableClear p _ => some p
  | .slcCtrlEnable p _ _ => some p
  | .slcCtrlEnableClear p _ _ => some p
  | .ringCtrlEnable p _ _ => some p
  | .ringCtrlEnableClear p _ _ => some p
  | .registerWrite p _ _ _ => some p
  | .addressLoWrite p _ _ => some p
  | .misalignedAccess p _ _ _ => some p
  | .poisonedWrite p _ _ _ => some p
  | .portSplitWrite p _ _ _ => some p
  | .perstAssert p => some p
  | .functionLevelReset p => some p
  | .d3hotToD0 p => some p
  | .perstRelease p => some p
  | .linkUp p _ _ => some p
  | .readCompletionTimeout _ => none
  | .tagCtrlCommit p _ => some p
  | .tagCtrlDiscard p _ => some p
  | .tagCommitEnd => none
  | .tailDoorbell p _ _ => some p
  | .headDoorbell p _ _ => some p
  | .admissionReserve => none
  | .entryFetchComplete _ _ _ => none
  | .keyResolutionComplete _ _ => none
  | .operandReadComplete _ _ _ _ _ => none
  | .randomRequestServe _ _ => none
  | .prefetchFill _ _ => none
  | .stepComplete _ _ _ => none
  | .destinationPieceWrite _ _ => none
  | .completionWrite p _ _ => some p
  | .coalTimeExpire p _ => some p
  | .libraryCommitWrite => none
  | .dspClassDisable p _ _ => some p
  | .dspClassEnable p _ _ => some p
  | .abortZeroingEnd _ => none
  | .rcpRegister _ => none
  | .rcpRetire _ => none
  | .rcpRead _ => none
  | .move _ _ => none
  | .xor _ _ => none
  | .fill _ _ => none
  | .compare _ _ => none
  | .pack _ _ => none
  | .unpack _ _ => none
  | .decimalize _ _ => none
  | .encrypt _ _ => none
  | .decrypt _ _ => none
  | .macGen _ _ => none
  | .macVerify _ _ => none
  | .kcv _ _ => none
  | .pinTranslate _ _ => none
  | .pinDecrypt _ _ => none
  | .pinEncrypt _ _ => none
  | .pinVerifyOffset _ _ => none
  | .pinVerifyPvv _ _ => none
  | .pinOffsetGen _ _ => none
  | .pvvGen _ _ => none
  | .cvvGen _ _ => none
  | .cvvVerify _ _ => none
  | .dukptTdeaDerive _ _ => none
  | .dukptAesDerive _ _ => none
  | .emvMkDerive _ _ => none
  | .emvSkDerive _ _ => none
  | .arqcVerify _ _ => none
  | .arpcGen _ _ => none
  | .keyblockWrap _ _ => none
  | .keyblockUnwrap _ _ => none
  | .hash _ _ => none
  | .hmac _ _ => none
  | .kdf _ _ => none
  | .sign _ _ => none
  | .sigVerify _ _ => none
  | .agree _ _ => none
  | .resolve _ _ => none
  | .resolveSet _ _ => none
  | .lookup _ _ _ _ => none
  | .emit _ _ => none
  | .ktCreate _ => none
  | .ktGenerate _ _ => none
  | .ktImport _ => none
  | .ktVoid _ => none
  | .ktRoll _ _ => none
  | .ktExport _ => none
  | .ktInfo _ => none
  | .ktProvenance _ => none
  | .ktChain _ => none
  | .ktSetWrite _ => none
  | .ktRootGenerate _ => none
  | .ktRootImport _ => none
  | .ktRootVoid _ => none
  | .keyTreeCommitWrite => none
  | .journalCompactionEnd => none
  | .sweepEnd => none
  | .ktrLowMarkWrite p _ => some p
  | .cuChallenge _ => none
  | .cuAuthorize _ => none
  | .cuWithdraw _ => none
  | .cuEnroll _ => none
  | .cuRemove _ => none
  | .cuQuorum _ => none
  | .cuTransport _ => none
  | .cuComponentBegin _ => none
  | .cuComponent _ => none
  | .cuComponentCancel _ => none
  | .cuRelease _ => none
  | .cuRecommission _ => none
  | .cuDomainReset _ => none
  | .recoverySequenceEnd _ _ _ _ _ _ => none
  | .flAuthority _ => none
  | .flMember _ => none
  | .flExport _ => none
  | .flImport _ => none
  | .challengeExpire _ => none
  | .componentSessionExpire _ => none
  | .cpathRequest _ => none
  | .cpathResponse => none
  | .cpathFrameTimeout => none
  | .bkEncrypt _ => none
  | .bkDecrypt _ => none
  | .bkGcmSeal _ => none
  | .bkGcmOpen _ => none
  | .bkMacGen _ => none
  | .bkMacVerify _ => none
  | .bkHash _ => none
  | .bkHmacGen _ => none
  | .bkHmacVerify _ => none
  | .pkSign _ => none
  | .pkVerify _ => none
  | .pkAgree _ => none
  | .pkKemDecap _ => none
  | .pkKemEncap _ => none
  | .pkModexp _ => none
  | .pkModmul _ => none
  | .checkPhaseEnd _ _ => none
  | .primeSearchUnitEnd _ _ _ => none
  | .pkeRsaGenWrite p _ _ => some p
  | .svOpen _ => none
  | .svWrite _ => none
  | .svCommit _ => none
  | .svAbort _ => none
  | .svRead _ => none
  | .sieveBankLoadEnd => none
  | .sieveSearchesDrained => none
  | .healthTestFail _ _ => none
  | .seedRelease _ _ => none
  | .entCtrlRetest p _ => some p
  | .glazeEpochEnd => none
  | .glazeAck => none
  | .glazeResend => none
  | .glazeLinkCheck => none
  | .leaseLapse => none
  | .healthReportBad _ => none
  | .lozengeGrant => none
  | .takeoverEnd => none
  | .complexSelfTestEnd _ _ => none
  | .stateCopyEnd => none
  | .stateCopyTimeout => none
  | .engineStall _ _ => none
  | .dualRailInvalid _ _ => none
  | .crumbStart => none
  | .crumbEnd _ _ => none
  | .patrolScrubPass _ => none
  | .flashCopyUnreadable _ => none
  | .flashResyncEnd _ => none
  | .powerPhaseShed => none
  | .cnFwStage _ => none
  | .cnFwActivate _ => none
  | .cnHandover _ => none
  | .updateSelfTestEnd _ => none
  | .vinStateChange _ _ => none
  | .vinRestore _ => none
  | .bothInputsLost => none
  | .holdupFlushEnd _ => none
  | .retainEnter => none
  | .alarmDetect _ _ _ => none
  | .alarmGroupClose => none
  | .eraseEnd => none
  | .alarmRearm _ => none
  | .monitorStimulus _ _ _ => none
  | .retainStimulus _ _ => none
  | .retentionProtectRestore => none
  | .tmConfigure _ _ => none
  | .tmLogRead _ => none
  | .injCtrlGo p _ => some p
  | .injectionEnd _ _ => none
  | .lcRequest _ => none
  | .transitStepEnd _ _ => none
  | .evcClaim p => some p
  | .evcEoi p _ => some p
  | .evcPendWrite p _ _ => some p
  | .evcEnableWrite p _ _ => some p
  | .evcPrioWrite p _ _ => some p
  | .evcHoldWrite p _ => some p
  | .evcMaskSettle p _ => some p
  | .msixMessageSend p _ => some p
  | .mailboxWordWrite p _ _ _ _ _ => some p
  | .mailboxPost p _ _ _ _ => some p
  | .mailboxRelease p _ _ _ _ => some p
  | .slcMbxStatClear p _ _ => some p
  | .slcViolInfoClear p _ _ => some p
  | .slcNoticeClear p _ _ => some p
  | .slcWinSelWrite p _ _ => some p
  | .bypass _ => none
  | .idcode => none
  | .sample _ => none
  | .extest _ => none
  | .dbgAddr _ => none
  | .dbgAccess _ _ => none
  | .vinA _ _ => none
  | .vinB _ _ => none
  | .iin _ _ => none
  | .pin _ _ => none
  | .temp _ _ => none
  | .vbat _ _ => none
  | .status _ _ => none
  | .inputs _ _ => none
  | .smbusOtherCommand _ _ _ => none
  | .smbusWrite _ _ => none
  | .smbusClockLowTimeout => none
  | .telemetryRefresh _ _ _ _ _ _ _ => none
  | .refclkStable p => some p
  | .portResetEnd p => some p
  | .atsInvalidationRequest p _ _ => some p
  | .linkLeavesL0 p => some p
  | .d3hotEntry p => some p
  | .testLogicResetExit => none
  | .batteryDomainLoss => none

/-- Every operand of the command is in range. -/
def Instr.wf : Instr → Bool
  | .mainPowerGood => true
  | .pwrokOutRise hsplit => below hsplit 4
  | .wakeOtpLoaded => true
  | .wakeSelfTestEnd _ _ => true
  | .flashUnreadable => true
  | .keyTreeLoadComplete swkBlock dramBlocks _ _ _ => rawBlock swkBlock && dramBlocks.all rawBlock
  | .startupTestEnd source _ _ => below source 4
  | .seedComplete _ => true
  | .glbCtrlHalt p _ => below p 4
  | .glbCtrlQuiesce p _ => below p 4
  | .glbCtrlResume p _ => below p 4
  | .glbCtrlEnable p _ => below p 4
  | .glbCtrlEnableClear p _ => below p 4
  | .configCheckEnd kind p slice => below p 4 && (below kind 3 && below slice 1024)
  | .portCtrlEnable p _ => below p 4
  | .portCtrlEnableClear p _ => below p 4
  | .slcCtrlEnable p slice _ => below p 4 && below slice 1024
  | .slcCtrlEnableClear p slice _ => below p 4 && below slice 1024
  | .ringCtrlEnable p ring _ => below p 4 && below ring 4096
  | .ringCtrlEnableClear p ring _ => below p 4 && below ring 4096
  | .registerWrite p space offset _ => below p 4 && (below space 5 && below offset 0x1000000)
  | .addressLoWrite p offset _ => below p 4 && below offset 0x1000000
  | .misalignedAccess p bar offset _ => below p 4 && (below bar 5 && below offset 0x1000000)
  | .poisonedWrite p bar offset _ => below p 4 && (below bar 5 && below offset 0x1000000)
  | .portSplitWrite p target _ _ => below p 4 && below target 4
  | .perstAssert p => below p 4
  | .functionLevelReset p => below p 4
  | .d3hotToD0 p => below p 4
  | .perstRelease p => below p 4
  | .linkUp p speed width => below p 4 && (below speed 6 && below width 17)
  | .readCompletionTimeout tid => below tid 65537
  | .tagCtrlCommit p _ => below p 4
  | .tagCtrlDiscard p _ => below p 4
  | .tagCommitEnd => true
  | .tailDoorbell p ring _ => below p 4 && below ring 4096
  | .headDoorbell p ring _ => below p 4 && below ring 4096
  | .admissionReserve => true
  | .entryFetchComplete tid _ outcome => below tid 65537 && below outcome 5
  | .keyResolutionComplete tid _ => below tid 65537
  | .operandReadComplete tid _ _ _ _ => below tid 65537
  | .randomRequestServe tid _ => below tid 65537
  | .prefetchFill cls engine => below cls 8 && below engine 68
  | .stepComplete tid step _ => below tid 65537 && below step 112
  | .destinationPieceWrite tid _ => below tid 65537
  | .completionWrite p ring _ => below p 4 && below ring 4096
  | .coalTimeExpire p ring => below p 4 && below ring 4096
  | .libraryCommitWrite => true
  | .dspClassDisable p cls _ => below p 4 && below cls 8
  | .dspClassEnable p cls _ => below p 4 && below cls 8
  | .abortZeroingEnd tid => below tid 65537
  | .rcpRegister tid => below tid 65537
  | .rcpRetire tid => below tid 65537
  | .rcpRead tid => below tid 65537
  | .move tid step => below tid 65537 && below step 32
  | .xor tid step => below tid 65537 && below step 32
  | .fill tid step => below tid 65537 && below step 32
  | .compare tid step => below tid 65537 && below step 32
  | .pack tid step => below tid 65537 && below step 32
  | .unpack tid step => below tid 65537 && below step 32
  | .decimalize tid step => below tid 65537 && below step 32
  | .encrypt tid step => below tid 65537 && below step 32
  | .decrypt tid step => below tid 65537 && below step 32
  | .macGen tid step => below tid 65537 && below step 32
  | .macVerify tid step => below tid 65537 && below step 32
  | .kcv tid step => below tid 65537 && below step 32
  | .pinTranslate tid step => below tid 65537 && below step 32
  | .pinDecrypt tid step => below tid 65537 && below step 32
  | .pinEncrypt tid step => below tid 65537 && below step 32
  | .pinVerifyOffset tid step => below tid 65537 && below step 32
  | .pinVerifyPvv tid step => below tid 65537 && below step 32
  | .pinOffsetGen tid step => below tid 65537 && below step 32
  | .pvvGen tid step => below tid 65537 && below step 32
  | .cvvGen tid step => below tid 65537 && below step 32
  | .cvvVerify tid step => below tid 65537 && below step 32
  | .dukptTdeaDerive tid step => below tid 65537 && below step 32
  | .dukptAesDerive tid step => below tid 65537 && below step 32
  | .emvMkDerive tid step => below tid 65537 && below step 32
  | .emvSkDerive tid step => below tid 65537 && below step 32
  | .arqcVerify tid step => below tid 65537 && below step 32
  | .arpcGen tid step => below tid 65537 && below step 32
  | .keyblockWrap tid step => below tid 65537 && below step 32
  | .keyblockUnwrap tid step => below tid 65537 && below step 32
  | .hash tid step => below tid 65537 && below step 32
  | .hmac tid step => below tid 65537 && below step 32
  | .kdf tid step => below tid 65537 && below step 32
  | .sign tid step => below tid 65537 && below step 32
  | .sigVerify tid step => below tid 65537 && below step 32
  | .agree tid step => below tid 65537 && below step 32
  | .resolve tid step => below tid 65537 && below step 32
  | .resolveSet tid step => below tid 65537 && below step 32
  | .lookup tid step _ _ => below tid 65537 && below step 32
  | .emit tid step => below tid 65537 && below step 32
  | .ktCreate tid => below tid 65537
  | .ktGenerate tid _ => below tid 65537
  | .ktImport tid => below tid 65537
  | .ktVoid tid => below tid 65537
  | .ktRoll tid _ => below tid 65537
  | .ktExport tid => below tid 65537
  | .ktInfo tid => below tid 65537
  | .ktProvenance tid => below tid 65537
  | .ktChain tid => below tid 65537
  | .ktSetWrite tid => below tid 65537
  | .ktRootGenerate tid => below tid 65537
  | .ktRootImport tid => below tid 65537
  | .ktRootVoid tid => below tid 65537
  | .keyTreeCommitWrite => true
  | .journalCompactionEnd => true
  | .sweepEnd => true
  | .ktrLowMarkWrite p _ => below p 4
  | .cuChallenge tid => below tid 65537
  | .cuAuthorize tid => below tid 65537
  | .cuWithdraw tid => below tid 65537
  | .cuEnroll tid => below tid 65537
  | .cuRemove tid => below tid 65537
  | .cuQuorum tid => below tid 65537
  | .cuTransport tid => below tid 65537
  | .cuComponentBegin tid => below tid 65537
  | .cuComponent tid => below tid 65537
  | .cuComponentCancel tid => below tid 65537
  | .cuRelease tid => below tid 65537
  | .cuRecommission tid => below tid 65537
  | .cuDomainReset tid => below tid 65537
  | .recoverySequenceEnd _ _ swkBlock dramBlocks _ _ => rawBlock swkBlock && dramBlocks.all rawBlock
  | .flAuthority tid => below tid 65537
  | .flMember tid => below tid 65537
  | .flExport tid => below tid 65537
  | .flImport tid => below tid 65537
  | .challengeExpire challenge => below challenge 320
  | .componentSessionExpire session => below session 64
  | .cpathRequest _ => true
  | .cpathResponse => true
  | .cpathFrameTimeout => true
  | .bkEncrypt tid => below tid 65537
  | .bkDecrypt tid => below tid 65537
  | .bkGcmSeal tid => below tid 65537
  | .bkGcmOpen tid => below tid 65537
  | .bkMacGen tid => below tid 65537
  | .bkMacVerify tid => below tid 65537
  | .bkHash tid => below tid 65537
  | .bkHmacGen tid => below tid 65537
  | .bkHmacVerify tid => below tid 65537
  | .pkSign tid => below tid 65537
  | .pkVerify tid => below tid 65537
  | .pkAgree tid => below tid 65537
  | .pkKemDecap tid => below tid 65537
  | .pkKemEncap tid => below tid 65537
  | .pkModexp tid => below tid 65537
  | .pkModmul tid => below tid 65537
  | .checkPhaseEnd tid step => below tid 65537 && below step 32
  | .primeSearchUnitEnd core entry _ => below core 68 && below entry 4
  | .pkeRsaGenWrite p entry _ => below p 4 && below entry 4
  | .svOpen tid => below tid 65537
  | .svWrite tid => below tid 65537
  | .svCommit tid => below tid 65537
  | .svAbort tid => below tid 65537
  | .svRead tid => below tid 65537
  | .sieveBankLoadEnd => true
  | .sieveSearchesDrained => true
  | .healthTestFail source _ => below source 4
  | .seedRelease source block => below source 4 && rawBlock block
  | .entCtrlRetest p _ => below p 4
  | .glazeEpochEnd => true
  | .glazeAck => true
  | .glazeResend => true
  | .glazeLinkCheck => true
  | .leaseLapse => true
  | .healthReportBad complex => below complex 2
  | .lozengeGrant => true
  | .takeoverEnd => true
  | .complexSelfTestEnd complex _ => below complex 2
  | .stateCopyEnd => true
  | .stateCopyTimeout => true
  | .engineStall cls engine => below cls 8 && below engine 68
  | .dualRailInvalid cls engine => below cls 8 && below engine 68
  | .crumbStart => true
  | .crumbEnd slot _ => below slot 2
  | .patrolScrubPass _ => true
  | .flashCopyUnreadable copy => below copy 2
  | .flashResyncEnd copy => below copy 2
  | .powerPhaseShed => true
  | .cnFwStage tid => below tid 65537
  | .cnFwActivate tid => below tid 65537
  | .cnHandover tid => below tid 65537
  | .updateSelfTestEnd _ => true
  | .vinStateChange input _ => below input 2
  | .vinRestore input => below input 2
  | .bothInputsLost => true
  | .holdupFlushEnd _ => true
  | .retainEnter => true
  | .alarmDetect source _ input => below source 29 && below input 2
  | .alarmGroupClose => true
  | .eraseEnd => true
  | .alarmRearm source => below source 29
  | .monitorStimulus source channel _ => below source 29 && below channel 2
  | .retainStimulus _ _ => true
  | .retentionProtectRestore => true
  | .tmConfigure tid _ => below tid 65537
  | .tmLogRead tid => below tid 65537
  | .injCtrlGo p _ => below p 4
  | .injectionEnd _ _ => true
  | .lcRequest tid => below tid 65537
  | .transitStepEnd outcome _ => below outcome 4
  | .evcClaim p => below p 4
  | .evcEoi p _ => below p 4
  | .evcPendWrite p index _ => below p 4 && below index 6
  | .evcEnableWrite p index _ => below p 4 && below index 6
  | .evcPrioWrite p index _ => below p 4 && below index 22
  | .evcHoldWrite p _ => below p 4
  | .evcMaskSettle p source => below p 4 && below source 256
  | .msixMessageSend p vector => below p 4 && below vector 16
  | .mailboxWordWrite p _ slice slot word _ => below p 4 && (below slice 1024 && below slot 4 && below word 8)
  | .mailboxPost p _ slice slot _ => below p 4 && (below slice 1024 && below slot 4)
  | .mailboxRelease p _ slice slot _ => below p 4 && (below slice 1024 && below slot 4)
  | .slcMbxStatClear p slice _ => below p 4 && below slice 1024
  | .slcViolInfoClear p slice _ => below p 4 && below slice 1024
  | .slcNoticeClear p slice _ => below p 4 && below slice 1024
  | .slcWinSelWrite p slice _ => below p 4 && below slice 1024
  | .bypass code => below code 256
  | .idcode => true
  | .sample _ => true
  | .extest _ => true
  | .dbgAddr _ => true
  | .dbgAccess _ _ => true
  | .vinA _ _ => true
  | .vinB _ _ => true
  | .iin _ _ => true
  | .pin _ _ => true
  | .temp _ _ => true
  | .vbat _ _ => true
  | .status _ _ => true
  | .inputs _ _ => true
  | .smbusOtherCommand code _ _ => below code 256
  | .smbusWrite code _ => below code 256
  | .smbusClockLowTimeout => true
  | .telemetryRefresh _ _ _ _ _ _ _ => true
  | .refclkStable p => below p 4
  | .portResetEnd p => below p 4
  | .atsInvalidationRequest p pasid page => below p 4 && (below pasid 0x100000 && below page 0x10000000000000)
  | .linkLeavesL0 p => below p 4
  | .d3hotEntry p => below p 4
  | .testLogicResetExit => true
  | .batteryDomainLoss => true

end Sys2Proof
end

