-- ==== Sys2Proof/Laws/PerInstr.lean ====
section
/-! SUPPORT. Statements for all commands, command by command: a well-formed command names only host ports that a unit can have (R61). -/

namespace Sys2Proof.Laws.Port

/-- A well-formed command that names a host port names one of the four. -/
def Statement (i : Instr) : Prop := i.wf = true → ∀ p, i.port? = some p → p < 4

/-- A command that names no port. -/
theorem of_none (i : Instr) (h : i.port? = none) : Statement i := by
  intro _ p hp
  rw [h] at hp
  cases hp

/-- A command whose well-formedness is the bound on the port it names. -/
theorem of_port (i : Instr) (p : Nat) (h : i.port? = some p) (hw : i.wf = below p 4) : Statement i := by
  intro w q hq
  rw [h] at hq
  cases hq
  rw [hw] at w
  exact of_decide_eq_true w

/-- A command whose well-formedness bounds the port it names, and more. -/
theorem of_port_and (i : Instr) (p : Nat) (rest : Bool) (h : i.port? = some p) (hw : i.wf = (below p 4 && rest)) : Statement i := by
  intro w q hq
  rw [h] at hq
  cases hq
  rw [hw] at w
  exact of_decide_eq_true (Bool.and_eq_true_iff.mp w).1

theorem mainPowerGood : Statement .mainPowerGood := of_none _ rfl
theorem pwrokOutRise (a0 : Nat) : Statement (.pwrokOutRise a0) := of_none _ rfl
theorem wakeOtpLoaded : Statement .wakeOtpLoaded := of_none _ rfl
theorem wakeSelfTestEnd (a0 : Bool) (a1 : Bool) : Statement (.wakeSelfTestEnd a0 a1) := of_none _ rfl
theorem flashUnreadable : Statement .flashUnreadable := of_none _ rfl
theorem keyTreeLoadComplete (a0 : Bytes) (a1 : List Bytes) (a2 : List Nat) (a3 : List Nat) (a4 : List Nat) : Statement (.keyTreeLoadComplete a0 a1 a2 a3 a4) := of_none _ rfl
theorem startupTestEnd (a0 : Nat) (a1 : Nat) (a2 : Nat) : Statement (.startupTestEnd a0 a1 a2) := of_none _ rfl
theorem seedComplete (a0 : List Nat) : Statement (.seedComplete a0) := of_none _ rfl
theorem glbCtrlHalt (a0 : Nat) (a1 : W64) : Statement (.glbCtrlHalt a0 a1) := of_port _ a0 rfl rfl
theorem glbCtrlQuiesce (a0 : Nat) (a1 : W64) : Statement (.glbCtrlQuiesce a0 a1) := of_port _ a0 rfl rfl
theorem glbCtrlResume (a0 : Nat) (a1 : W64) : Statement (.glbCtrlResume a0 a1) := of_port _ a0 rfl rfl
theorem glbCtrlEnable (a0 : Nat) (a1 : W64) : Statement (.glbCtrlEnable a0 a1) := of_port _ a0 rfl rfl
theorem glbCtrlEnableClear (a0 : Nat) (a1 : W64) : Statement (.glbCtrlEnableClear a0 a1) := of_port _ a0 rfl rfl
theorem configCheckEnd (a0 : Nat) (a1 : Nat) (a2 : Nat) : Statement (.configCheckEnd a0 a1 a2) := of_port_and _ a1 _ rfl rfl
theorem portCtrlEnable (a0 : Nat) (a1 : W64) : Statement (.portCtrlEnable a0 a1) := of_port _ a0 rfl rfl
theorem portCtrlEnableClear (a0 : Nat) (a1 : W64) : Statement (.portCtrlEnableClear a0 a1) := of_port _ a0 rfl rfl
theorem slcCtrlEnable (a0 : Nat) (a1 : Nat) (a2 : W64) : Statement (.slcCtrlEnable a0 a1 a2) := of_port_and _ a0 _ rfl rfl
theorem slcCtrlEnableClear (a0 : Nat) (a1 : Nat) (a2 : W64) : Statement (.slcCtrlEnableClear a0 a1 a2) := of_port_and _ a0 _ rfl rfl
theorem ringCtrlEnable (a0 : Nat) (a1 : Nat) (a2 : W64) : Statement (.ringCtrlEnable a0 a1 a2) := of_port_and _ a0 _ rfl rfl
theorem ringCtrlEnableClear (a0 : Nat) (a1 : Nat) (a2 : W64) : Statement (.ringCtrlEnableClear a0 a1 a2) := of_port_and _ a0 _ rfl rfl
theorem registerWrite (a0 : Nat) (a1 : Nat) (a2 : Nat) (a3 : W64) : Statement (.registerWrite a0 a1 a2 a3) := of_port_and _ a0 _ rfl rfl
theorem addressLoWrite (a0 : Nat) (a1 : Nat) (a2 : W64) : Statement (.addressLoWrite a0 a1 a2) := of_port_and _ a0 _ rfl rfl
theorem misalignedAccess (a0 : Nat) (a1 : Nat) (a2 : Nat) (a3 : Bool) : Statement (.misalignedAccess a0 a1 a2 a3) := of_port_and _ a0 _ rfl rfl
theorem poisonedWrite (a0 : Nat) (a1 : Nat) (a2 : Nat) (a3 : Bool) : Statement (.poisonedWrite a0 a1 a2 a3) := of_port_and _ a0 _ rfl rfl
theorem portSplitWrite (a0 : Nat) (a1 : Nat) (a2 : Bool) (a3 : W64) : Statement (.portSplitWrite a0 a1 a2 a3) := of_port_and _ a0 _ rfl rfl
theorem perstAssert (a0 : Nat) : Statement (.perstAssert a0) := of_port _ a0 rfl rfl
theorem functionLevelReset (a0 : Nat) : Statement (.functionLevelReset a0) := of_port _ a0 rfl rfl
theorem d3hotToD0 (a0 : Nat) : Statement (.d3hotToD0 a0) := of_port _ a0 rfl rfl
theorem perstRelease (a0 : Nat) : Statement (.perstRelease a0) := of_port _ a0 rfl rfl
theorem linkUp (a0 : Nat) (a1 : Nat) (a2 : Nat) : Statement (.linkUp a0 a1 a2) := of_port_and _ a0 _ rfl rfl
theorem readCompletionTimeout (a0 : Nat) : Statement (.readCompletionTimeout a0) := of_none _ rfl
theorem tagCtrlCommit (a0 : Nat) (a1 : W64) : Statement (.tagCtrlCommit a0 a1) := of_port _ a0 rfl rfl
theorem tagCtrlDiscard (a0 : Nat) (a1 : W64) : Statement (.tagCtrlDiscard a0 a1) := of_port _ a0 rfl rfl
theorem tagCommitEnd : Statement .tagCommitEnd := of_none _ rfl
theorem tailDoorbell (a0 : Nat) (a1 : Nat) (a2 : W64) : Statement (.tailDoorbell a0 a1 a2) := of_port_and _ a0 _ rfl rfl
theorem headDoorbell (a0 : Nat) (a1 : Nat) (a2 : W64) : Statement (.headDoorbell a0 a1 a2) := of_port_and _ a0 _ rfl rfl
theorem admissionReserve : Statement .admissionReserve := of_none _ rfl
theorem entryFetchComplete (a0 : Nat) (a1 : Bytes) (a2 : Nat) : Statement (.entryFetchComplete a0 a1 a2) := of_none _ rfl
theorem keyResolutionComplete (a0 : Nat) (a1 : Bool) : Statement (.keyResolutionComplete a0 a1) := of_none _ rfl
theorem operandReadComplete (a0 : Nat) (a1 : Bytes) (a2 : List Nat) (a3 : List Nat) (a4 : List Nat) : Statement (.operandReadComplete a0 a1 a2 a3 a4) := of_none _ rfl
theorem randomRequestServe (a0 : Nat) (a1 : Bool) : Statement (.randomRequestServe a0 a1) := of_none _ rfl
theorem prefetchFill (a0 : Nat) (a1 : Nat) : Statement (.prefetchFill a0 a1) := of_none _ rfl
theorem stepComplete (a0 : Nat) (a1 : Nat) (a2 : Bool) : Statement (.stepComplete a0 a1 a2) := of_none _ rfl
theorem destinationPieceWrite (a0 : Nat) (a1 : List Nat) : Statement (.destinationPieceWrite a0 a1) := of_none _ rfl
theorem completionWrite (a0 : Nat) (a1 : Nat) (a2 : Bool) : Statement (.completionWrite a0 a1 a2) := of_port_and _ a0 _ rfl rfl
theorem coalTimeExpire (a0 : Nat) (a1 : Nat) : Statement (.coalTimeExpire a0 a1) := of_port_and _ a0 _ rfl rfl
theorem libraryCommitWrite : Statement .libraryCommitWrite := of_none _ rfl
theorem dspClassDisable (a0 : Nat) (a1 : Nat) (a2 : W64) : Statement (.dspClassDisable a0 a1 a2) := of_port_and _ a0 _ rfl rfl
theorem dspClassEnable (a0 : Nat) (a1 : Nat) (a2 : W64) : Statement (.dspClassEnable a0 a1 a2) := of_port_and _ a0 _ rfl rfl
theorem abortZeroingEnd (a0 : Nat) : Statement (.abortZeroingEnd a0) := of_none _ rfl
theorem rcpRegister (a0 : Nat) : Statement (.rcpRegister a0) := of_none _ rfl
theorem rcpRetire (a0 : Nat) : Statement (.rcpRetire a0) := of_none _ rfl
theorem rcpRead (a0 : Nat) : Statement (.rcpRead a0) := of_none _ rfl
theorem move (a0 : Nat) (a1 : Nat) : Statement (.move a0 a1) := of_none _ rfl
theorem xor (a0 : Nat) (a1 : Nat) : Statement (.xor a0 a1) := of_none _ rfl
theorem fill (a0 : Nat) (a1 : Nat) : Statement (.fill a0 a1) := of_none _ rfl
theorem compare (a0 : Nat) (a1 : Nat) : Statement (.compare a0 a1) := of_none _ rfl
theorem pack (a0 : Nat) (a1 : Nat) : Statement (.pack a0 a1) := of_none _ rfl
theorem unpack (a0 : Nat) (a1 : Nat) : Statement (.unpack a0 a1) := of_none _ rfl
theorem decimalize (a0 : Nat) (a1 : Nat) : Statement (.decimalize a0 a1) := of_none _ rfl
theorem encrypt (a0 : Nat) (a1 : Nat) : Statement (.encrypt a0 a1) := of_none _ rfl
theorem decrypt (a0 : Nat) (a1 : Nat) : Statement (.decrypt a0 a1) := of_none _ rfl
theorem macGen (a0 : Nat) (a1 : Nat) : Statement (.macGen a0 a1) := of_none _ rfl
theorem macVerify (a0 : Nat) (a1 : Nat) : Statement (.macVerify a0 a1) := of_none _ rfl
theorem kcv (a0 : Nat) (a1 : Nat) : Statement (.kcv a0 a1) := of_none _ rfl
theorem pinTranslate (a0 : Nat) (a1 : Nat) : Statement (.pinTranslate a0 a1) := of_none _ rfl
theorem pinDecrypt (a0 : Nat) (a1 : Nat) : Statement (.pinDecrypt a0 a1) := of_none _ rfl
theorem pinEncrypt (a0 : Nat) (a1 : Nat) : Statement (.pinEncrypt a0 a1) := of_none _ rfl
theorem pinVerifyOffset (a0 : Nat) (a1 : Nat) : Statement (.pinVerifyOffset a0 a1) := of_none _ rfl
theorem pinVerifyPvv (a0 : Nat) (a1 : Nat) : Statement (.pinVerifyPvv a0 a1) := of_none _ rfl
theorem pinOffsetGen (a0 : Nat) (a1 : Nat) : Statement (.pinOffsetGen a0 a1) := of_none _ rfl
theorem pvvGen (a0 : Nat) (a1 : Nat) : Statement (.pvvGen a0 a1) := of_none _ rfl
theorem cvvGen (a0 : Nat) (a1 : Nat) : Statement (.cvvGen a0 a1) := of_none _ rfl
theorem cvvVerify (a0 : Nat) (a1 : Nat) : Statement (.cvvVerify a0 a1) := of_none _ rfl
theorem dukptTdeaDerive (a0 : Nat) (a1 : Nat) : Statement (.dukptTdeaDerive a0 a1) := of_none _ rfl
theorem dukptAesDerive (a0 : Nat) (a1 : Nat) : Statement (.dukptAesDerive a0 a1) := of_none _ rfl
theorem emvMkDerive (a0 : Nat) (a1 : Nat) : Statement (.emvMkDerive a0 a1) := of_none _ rfl
theorem emvSkDerive (a0 : Nat) (a1 : Nat) : Statement (.emvSkDerive a0 a1) := of_none _ rfl
theorem arqcVerify (a0 : Nat) (a1 : Nat) : Statement (.arqcVerify a0 a1) := of_none _ rfl
theorem arpcGen (a0 : Nat) (a1 : Nat) : Statement (.arpcGen a0 a1) := of_none _ rfl
theorem keyblockWrap (a0 : Nat) (a1 : Nat) : Statement (.keyblockWrap a0 a1) := of_none _ rfl
theorem keyblockUnwrap (a0 : Nat) (a1 : Nat) : Statement (.keyblockUnwrap a0 a1) := of_none _ rfl
theorem hash (a0 : Nat) (a1 : Nat) : Statement (.hash a0 a1) := of_none _ rfl
theorem hmac (a0 : Nat) (a1 : Nat) : Statement (.hmac a0 a1) := of_none _ rfl
theorem kdf (a0 : Nat) (a1 : Nat) : Statement (.kdf a0 a1) := of_none _ rfl
theorem sign (a0 : Nat) (a1 : Nat) : Statement (.sign a0 a1) := of_none _ rfl
theorem sigVerify (a0 : Nat) (a1 : Nat) : Statement (.sigVerify a0 a1) := of_none _ rfl
theorem agree (a0 : Nat) (a1 : Nat) : Statement (.agree a0 a1) := of_none _ rfl
theorem resolve (a0 : Nat) (a1 : Nat) : Statement (.resolve a0 a1) := of_none _ rfl
theorem resolveSet (a0 : Nat) (a1 : Nat) : Statement (.resolveSet a0 a1) := of_none _ rfl
theorem lookup (a0 : Nat) (a1 : Nat) (a2 : Bool) (a3 : List (List Nat)) : Statement (.lookup a0 a1 a2 a3) := of_none _ rfl
theorem emit (a0 : Nat) (a1 : Nat) : Statement (.emit a0 a1) := of_none _ rfl
theorem ktCreate (a0 : Nat) : Statement (.ktCreate a0) := of_none _ rfl
theorem ktGenerate (a0 : Nat) (a1 : List Nat) : Statement (.ktGenerate a0 a1) := of_none _ rfl
theorem ktImport (a0 : Nat) : Statement (.ktImport a0) := of_none _ rfl
theorem ktVoid (a0 : Nat) : Statement (.ktVoid a0) := of_none _ rfl
theorem ktRoll (a0 : Nat) (a1 : List Nat) : Statement (.ktRoll a0 a1) := of_none _ rfl
theorem ktExport (a0 : Nat) : Statement (.ktExport a0) := of_none _ rfl
theorem ktInfo (a0 : Nat) : Statement (.ktInfo a0) := of_none _ rfl
theorem ktProvenance (a0 : Nat) : Statement (.ktProvenance a0) := of_none _ rfl
theorem ktChain (a0 : Nat) : Statement (.ktChain a0) := of_none _ rfl
theorem ktSetWrite (a0 : Nat) : Statement (.ktSetWrite a0) := of_none _ rfl
theorem ktRootGenerate (a0 : Nat) : Statement (.ktRootGenerate a0) := of_none _ rfl
theorem ktRootImport (a0 : Nat) : Statement (.ktRootImport a0) := of_none _ rfl
theorem ktRootVoid (a0 : Nat) : Statement (.ktRootVoid a0) := of_none _ rfl
theorem keyTreeCommitWrite : Statement .keyTreeCommitWrite := of_none _ rfl
theorem journalCompactionEnd : Statement .journalCompactionEnd := of_none _ rfl
theorem sweepEnd : Statement .sweepEnd := of_none _ rfl
theorem ktrLowMarkWrite (a0 : Nat) (a1 : W64) : Statement (.ktrLowMarkWrite a0 a1) := of_port _ a0 rfl rfl
theorem cuChallenge (a0 : Nat) : Statement (.cuChallenge a0) := of_none _ rfl
theorem cuAuthorize (a0 : Nat) : Statement (.cuAuthorize a0) := of_none _ rfl
theorem cuWithdraw (a0 : Nat) : Statement (.cuWithdraw a0) := of_none _ rfl
theorem cuEnroll (a0 : Nat) : Statement (.cuEnroll a0) := of_none _ rfl
theorem cuRemove (a0 : Nat) : Statement (.cuRemove a0) := of_none _ rfl
theorem cuQuorum (a0 : Nat) : Statement (.cuQuorum a0) := of_none _ rfl
theorem cuTransport (a0 : Nat) : Statement (.cuTransport a0) := of_none _ rfl
theorem cuComponentBegin (a0 : Nat) : Statement (.cuComponentBegin a0) := of_none _ rfl
theorem cuComponent (a0 : Nat) : Statement (.cuComponent a0) := of_none _ rfl
theorem cuComponentCancel (a0 : Nat) : Statement (.cuComponentCancel a0) := of_none _ rfl
theorem cuRelease (a0 : Nat) : Statement (.cuRelease a0) := of_none _ rfl
theorem cuRecommission (a0 : Nat) : Statement (.cuRecommission a0) := of_none _ rfl
theorem cuDomainReset (a0 : Nat) : Statement (.cuDomainReset a0) := of_none _ rfl
theorem recoverySequenceEnd (a0 : Bool) (a1 : Bool) (a2 : Bytes) (a3 : List Bytes) (a4 : List Nat) (a5 : List Nat) : Statement (.recoverySequenceEnd a0 a1 a2 a3 a4 a5) := of_none _ rfl
theorem flAuthority (a0 : Nat) : Statement (.flAuthority a0) := of_none _ rfl
theorem flMember (a0 : Nat) : Statement (.flMember a0) := of_none _ rfl
theorem flExport (a0 : Nat) : Statement (.flExport a0) := of_none _ rfl
theorem flImport (a0 : Nat) : Statement (.flImport a0) := of_none _ rfl
theorem challengeExpire (a0 : Nat) : Statement (.challengeExpire a0) := of_none _ rfl
theorem componentSessionExpire (a0 : Nat) : Statement (.componentSessionExpire a0) := of_none _ rfl
theorem cpathRequest (a0 : Bytes) : Statement (.cpathRequest a0) := of_none _ rfl
theorem cpathResponse : Statement .cpathResponse := of_none _ rfl
theorem cpathFrameTimeout : Statement .cpathFrameTimeout := of_none _ rfl
theorem bkEncrypt (a0 : Nat) : Statement (.bkEncrypt a0) := of_none _ rfl
theorem bkDecrypt (a0 : Nat) : Statement (.bkDecrypt a0) := of_none _ rfl
theorem bkGcmSeal (a0 : Nat) : Statement (.bkGcmSeal a0) := of_none _ rfl
theorem bkGcmOpen (a0 : Nat) : Statement (.bkGcmOpen a0) := of_none _ rfl
theorem bkMacGen (a0 : Nat) : Statement (.bkMacGen a0) := of_none _ rfl
theorem bkMacVerify (a0 : Nat) : Statement (.bkMacVerify a0) := of_none _ rfl
theorem bkHash (a0 : Nat) : Statement (.bkHash a0) := of_none _ rfl
theorem bkHmacGen (a0 : Nat) : Statement (.bkHmacGen a0) := of_none _ rfl
theorem bkHmacVerify (a0 : Nat) : Statement (.bkHmacVerify a0) := of_none _ rfl
theorem pkSign (a0 : Nat) : Statement (.pkSign a0) := of_none _ rfl
theorem pkVerify (a0 : Nat) : Statement (.pkVerify a0) := of_none _ rfl
theorem pkAgree (a0 : Nat) : Statement (.pkAgree a0) := of_none _ rfl
theorem pkKemDecap (a0 : Nat) : Statement (.pkKemDecap a0) := of_none _ rfl
theorem pkKemEncap (a0 : Nat) : Statement (.pkKemEncap a0) := of_none _ rfl
theorem pkModexp (a0 : Nat) : Statement (.pkModexp a0) := of_none _ rfl
theorem pkModmul (a0 : Nat) : Statement (.pkModmul a0) := of_none _ rfl
theorem checkPhaseEnd (a0 : Nat) (a1 : Nat) : Statement (.checkPhaseEnd a0 a1) := of_none _ rfl
theorem primeSearchUnitEnd (a0 : Nat) (a1 : Nat) (a2 : Option Nat) : Statement (.primeSearchUnitEnd a0 a1 a2) := of_none _ rfl
theorem pkeRsaGenWrite (a0 : Nat) (a1 : Nat) (a2 : W64) : Statement (.pkeRsaGenWrite a0 a1 a2) := of_port_and _ a0 _ rfl rfl
theorem svOpen (a0 : Nat) : Statement (.svOpen a0) := of_none _ rfl
theorem svWrite (a0 : Nat) : Statement (.svWrite a0) := of_none _ rfl
theorem svCommit (a0 : Nat) : Statement (.svCommit a0) := of_none _ rfl
theorem svAbort (a0 : Nat) : Statement (.svAbort a0) := of_none _ rfl
theorem svRead (a0 : Nat) : Statement (.svRead a0) := of_none _ rfl
theorem sieveBankLoadEnd : Statement .sieveBankLoadEnd := of_none _ rfl
theorem sieveSearchesDrained : Statement .sieveSearchesDrained := of_none _ rfl
theorem healthTestFail (a0 : Nat) (a1 : Bool) : Statement (.healthTestFail a0 a1) := of_none _ rfl
theorem seedRelease (a0 : Nat) (a1 : Bytes) : Statement (.seedRelease a0 a1) := of_none _ rfl
theorem entCtrlRetest (a0 : Nat) (a1 : W64) : Statement (.entCtrlRetest a0 a1) := of_port _ a0 rfl rfl
theorem glazeEpochEnd : Statement .glazeEpochEnd := of_none _ rfl
theorem glazeAck : Statement .glazeAck := of_none _ rfl
theorem glazeResend : Statement .glazeResend := of_none _ rfl
theorem glazeLinkCheck : Statement .glazeLinkCheck := of_none _ rfl
theorem leaseLapse : Statement .leaseLapse := of_none _ rfl
theorem healthReportBad (a0 : Nat) : Statement (.healthReportBad a0) := of_none _ rfl
theorem lozengeGrant : Statement .lozengeGrant := of_none _ rfl
theorem takeoverEnd : Statement .takeoverEnd := of_none _ rfl
theorem complexSelfTestEnd (a0 : Nat) (a1 : Bool) : Statement (.complexSelfTestEnd a0 a1) := of_none _ rfl
theorem stateCopyEnd : Statement .stateCopyEnd := of_none _ rfl
theorem stateCopyTimeout : Statement .stateCopyTimeout := of_none _ rfl
theorem engineStall (a0 : Nat) (a1 : Nat) : Statement (.engineStall a0 a1) := of_none _ rfl
theorem dualRailInvalid (a0 : Nat) (a1 : Nat) : Statement (.dualRailInvalid a0 a1) := of_none _ rfl
theorem crumbStart : Statement .crumbStart := of_none _ rfl
theorem crumbEnd (a0 : Nat) (a1 : Bool) : Statement (.crumbEnd a0 a1) := of_none _ rfl
theorem patrolScrubPass (a0 : List Nat) : Statement (.patrolScrubPass a0) := of_none _ rfl
theorem flashCopyUnreadable (a0 : Nat) : Statement (.flashCopyUnreadable a0) := of_none _ rfl
theorem flashResyncEnd (a0 : Nat) : Statement (.flashResyncEnd a0) := of_none _ rfl
theorem powerPhaseShed : Statement .powerPhaseShed := of_none _ rfl
theorem cnFwStage (a0 : Nat) : Statement (.cnFwStage a0) := of_none _ rfl
theorem cnFwActivate (a0 : Nat) : Statement (.cnFwActivate a0) := of_none _ rfl
theorem cnHandover (a0 : Nat) : Statement (.cnHandover a0) := of_none _ rfl
theorem updateSelfTestEnd (a0 : Bool) : Statement (.updateSelfTestEnd a0) := of_none _ rfl
theorem vinStateChange (a0 : Nat) (a1 : Int) : Statement (.vinStateChange a0 a1) := of_none _ rfl
theorem vinRestore (a0 : Nat) : Statement (.vinRestore a0) := of_none _ rfl
theorem bothInputsLost : Statement .bothInputsLost := of_none _ rfl
theorem holdupFlushEnd (a0 : Nat) : Statement (.holdupFlushEnd a0) := of_none _ rfl
theorem retainEnter : Statement .retainEnter := of_none _ rfl
theorem alarmDetect (a0 : Nat) (a1 : Nat) (a2 : Nat) : Statement (.alarmDetect a0 a1 a2) := of_none _ rfl
theorem alarmGroupClose : Statement .alarmGroupClose := of_none _ rfl
theorem eraseEnd : Statement .eraseEnd := of_none _ rfl
theorem alarmRearm (a0 : Nat) : Statement (.alarmRearm a0) := of_none _ rfl
theorem monitorStimulus (a0 : Nat) (a1 : Nat) (a2 : Bool) : Statement (.monitorStimulus a0 a1 a2) := of_none _ rfl
theorem retainStimulus (a0 : List Nat) (a1 : Nat) : Statement (.retainStimulus a0 a1) := of_none _ rfl
theorem retentionProtectRestore : Statement .retentionProtectRestore := of_none _ rfl
theorem tmConfigure (a0 : Nat) (a1 : List Nat) : Statement (.tmConfigure a0 a1) := of_none _ rfl
theorem tmLogRead (a0 : Nat) : Statement (.tmLogRead a0) := of_none _ rfl
theorem injCtrlGo (a0 : Nat) (a1 : W64) : Statement (.injCtrlGo a0 a1) := of_port _ a0 rfl rfl
theorem injectionEnd (a0 : Bool) (a1 : Nat) : Statement (.injectionEnd a0 a1) := of_none _ rfl
theorem lcRequest (a0 : Nat) : Statement (.lcRequest a0) := of_none _ rfl
theorem transitStepEnd (a0 : Nat) (a1 : Nat) : Statement (.transitStepEnd a0 a1) := of_none _ rfl
theorem evcClaim (a0 : Nat) : Statement (.evcClaim a0) := of_port _ a0 rfl rfl
theorem evcEoi (a0 : Nat) (a1 : W64) : Statement (.evcEoi a0 a1) := of_port _ a0 rfl rfl
theorem evcPendWrite (a0 : Nat) (a1 : Nat) (a2 : W64) : Statement (.evcPendWrite a0 a1 a2) := of_port_and _ a0 _ rfl rfl
theorem evcEnableWrite (a0 : Nat) (a1 : Nat) (a2 : W64) : Statement (.evcEnableWrite a0 a1 a2) := of_port_and _ a0 _ rfl rfl
theorem evcPrioWrite (a0 : Nat) (a1 : Nat) (a2 : W64) : Statement (.evcPrioWrite a0 a1 a2) := of_port_and _ a0 _ rfl rfl
theorem evcHoldWrite (a0 : Nat) (a1 : W64) : Statement (.evcHoldWrite a0 a1) := of_port _ a0 rfl rfl
theorem evcMaskSettle (a0 : Nat) (a1 : Nat) : Statement (.evcMaskSettle a0 a1) := of_port_and _ a0 _ rfl rfl
theorem msixMessageSend (a0 : Nat) (a1 : Nat) : Statement (.msixMessageSend a0 a1) := of_port_and _ a0 _ rfl rfl
theorem mailboxWordWrite (a0 : Nat) (a1 : Bool) (a2 : Nat) (a3 : Nat) (a4 : Nat) (a5 : W64) : Statement (.mailboxWordWrite a0 a1 a2 a3 a4 a5) := of_port_and _ a0 _ rfl rfl
theorem mailboxPost (a0 : Nat) (a1 : Bool) (a2 : Nat) (a3 : Nat) (a4 : W64) : Statement (.mailboxPost a0 a1 a2 a3 a4) := of_port_and _ a0 _ rfl rfl
theorem mailboxRelease (a0 : Nat) (a1 : Bool) (a2 : Nat) (a3 : Nat) (a4 : W64) : Statement (.mailboxRelease a0 a1 a2 a3 a4) := of_port_and _ a0 _ rfl rfl
theorem slcMbxStatClear (a0 : Nat) (a1 : Nat) (a2 : W64) : Statement (.slcMbxStatClear a0 a1 a2) := of_port_and _ a0 _ rfl rfl
theorem slcViolInfoClear (a0 : Nat) (a1 : Nat) (a2 : W64) : Statement (.slcViolInfoClear a0 a1 a2) := of_port_and _ a0 _ rfl rfl
theorem slcNoticeClear (a0 : Nat) (a1 : Nat) (a2 : W64) : Statement (.slcNoticeClear a0 a1 a2) := of_port_and _ a0 _ rfl rfl
theorem slcWinSelWrite (a0 : Nat) (a1 : Nat) (a2 : W64) : Statement (.slcWinSelWrite a0 a1 a2) := of_port_and _ a0 _ rfl rfl
theorem bypass (a0 : Nat) : Statement (.bypass a0) := of_none _ rfl
theorem idcode : Statement .idcode := of_none _ rfl
theorem sample (a0 : Nat) : Statement (.sample a0) := of_none _ rfl
theorem extest (a0 : Nat) : Statement (.extest a0) := of_none _ rfl
theorem dbgAddr (a0 : W64) : Statement (.dbgAddr a0) := of_none _ rfl
theorem dbgAccess (a0 : Bool) (a1 : W64) : Statement (.dbgAccess a0 a1) := of_none _ rfl
theorem vinA (a0 : Bool) (a1 : Bool) : Statement (.vinA a0 a1) := of_none _ rfl
theorem vinB (a0 : Bool) (a1 : Bool) : Statement (.vinB a0 a1) := of_none _ rfl
theorem iin (a0 : Bool) (a1 : Bool) : Statement (.iin a0 a1) := of_none _ rfl
theorem pin (a0 : Bool) (a1 : Bool) : Statement (.pin a0 a1) := of_none _ rfl
theorem temp (a0 : Bool) (a1 : Bool) : Statement (.temp a0 a1) := of_none _ rfl
theorem vbat (a0 : Bool) (a1 : Bool) : Statement (.vbat a0 a1) := of_none _ rfl
theorem status (a0 : Bool) (a1 : Bool) : Statement (.status a0 a1) := of_none _ rfl
theorem inputs (a0 : Bool) (a1 : Bool) : Statement (.inputs a0 a1) := of_none _ rfl
theorem smbusOtherCommand (a0 : Nat) (a1 : Bool) (a2 : Bool) : Statement (.smbusOtherCommand a0 a1 a2) := of_none _ rfl
theorem smbusWrite (a0 : Nat) (a1 : Bytes) : Statement (.smbusWrite a0 a1) := of_none _ rfl
theorem smbusClockLowTimeout : Statement .smbusClockLowTimeout := of_none _ rfl
theorem telemetryRefresh (a0 : List Nat) (a1 : List Nat) (a2 : Nat) (a3 : Int) (a4 : Nat) (a5 : List Nat) (a6 : List Nat) : Statement (.telemetryRefresh a0 a1 a2 a3 a4 a5 a6) := of_none _ rfl
theorem refclkStable (a0 : Nat) : Statement (.refclkStable a0) := of_port _ a0 rfl rfl
theorem portResetEnd (a0 : Nat) : Statement (.portResetEnd a0) := of_port _ a0 rfl rfl
theorem atsInvalidationRequest (a0 : Nat) (a1 : Nat) (a2 : Nat) : Statement (.atsInvalidationRequest a0 a1 a2) := of_port_and _ a0 _ rfl rfl
theorem linkLeavesL0 (a0 : Nat) : Statement (.linkLeavesL0 a0) := of_port _ a0 rfl rfl
theorem d3hotEntry (a0 : Nat) : Statement (.d3hotEntry a0) := of_port _ a0 rfl rfl
theorem testLogicResetExit : Statement .testLogicResetExit := of_none _ rfl
theorem batteryDomainLoss : Statement .batteryDomainLoss := of_none _ rfl

end Sys2Proof.Laws.Port
end

