-- ==== Sys2Proof/Tests/Slice0.lean ====
section
/-! SUPPORT. Tests of the model on small states: the states first, then for each statement of the obligations a state and operands that meet what it supposes, clause by clause, then single steps whose results the spec gives, then the ill-formed terms that the check of WellFormed.lean refuses. -/

set_option maxRecDepth 100000
set_option Elab.async false

namespace Sys2Proof.Tests
open Sys2Proof Sys2Proof.Machine

/-! ### States -/

/-- The state right after reset with other dies. -/
def at_ (c : Core) : State := { State.reset with core := c }

/-- Reset with the link of port 0 in L0 and its function in service. -/
def wired : Core :=
  { State.reset.core with
    ports := upd 0 (fun p => { p with perstLow := false, refStable := true, link := .l0, speed := 5, width := 16 }) State.reset.core.ports }

/-- The dies in a mode. -/
def inMode (c : Core) (m : Mode) : Core := { c with g := { c.g with mode := m } }

/-- SETUP, reached over the link of port 0, with the Lozenge at CC-A. -/
def setup : Core :=
  { inMode wired .setup with
    g := { wired.g with mode := .setup, reducedWas := false }
    cont := { holder := some 0, expiry := 2400, cx := [.active, .standby] }
    ent := { src := List.replicate 4 { st := .healthy }, run := true, seeded := true }
    tmp := { wired.tmp with cfgRead := true }
    batt := { wired.batt with swk := some (zeros 32) } }

/-- The ring positions of ring pair 0 in service: three entries submitted, one fetched. -/
def ringAt : RingPos := { t := 3, f := 1, w := 2, c := 1, started := true }

/-- SERVE, with port 0, its slice 0 and ring pair 0 of 64 slots in service. -/
def serve : Core :=
  { inMode setup .serve with
    g := { setup.g with mode := .serve, prev := 3, enable := true, locked := true }
    ports := upd 0 (fun p => { p with enable := true, locked := true }) setup.ports
    slc := [(0, { enable := true, started := true, locked := true, report := true, pasid := 5, home := some 0
                  windows := [(0, { base := 0x10000, len := 0x10000, attr := 0x3F })] })]
    ring := [(0, { sq := 0x10000, cq := 0x11000, log2 := 6, slice := 0, enable := true })]
    cc := { rings := [(0, ringAt)] }
    mirror := { rings := [(0, ringAt)] } }

/-- The same block with one task in staging slot 0. -/
def withTask (c : Core) (t : Task) : Core := { c with cc := { c.cc with tasks := [(0, t)] } }

/-- A work-queue entry of a class with a code, PARAM, KEY0 and lengths. -/
def entry (cls op param key0 src dst : Nat) : Bytes :=
  [byte cls, 0] ++ leBytes 2 op ++ leBytes 4 7 ++ zeros 4 ++ leBytes 4 param ++ leBytes 6 key0 ++ zeros 6 ++ zeros 4 ++
    leBytes 8 0x12000 ++ leBytes 8 0x13000 ++ leBytes 3 src ++ leBytes 3 dst ++ zeros 10

/-- An operation at work: admitted on port 0 with every request met. -/
def opTask (cls op param key0 : Nat) (src : Bytes) (dst : Nat) : Task :=
  { st := .admitted, entry := entry cls op param key0 src.length dst, flags := 0xFF, work := src, deadline := 1000, seq := 1 }

/-- A recipe image of steps, each an opcode with its KSEL2, KSEL, LEN, D, B, A and ARG word. -/
def image (steps : List (Nat × Nat)) : Bytes :=
  [0, 0, byte steps.length] ++ zeros 125 ++ (steps.map (fun s => leBytes 8 (s.1 * 2 ^ 32) ++ leBytes 8 s.2)).flatten

/-- The second word of a step. -/
def word (arg ksel len d b a : Nat) : Nat := arg * 2 ^ 48 + ksel * 2 ^ 36 + len * 2 ^ 27 + d * 2 ^ 18 + b * 2 ^ 9 + a

/-- A recipe task with its trays. -/
def recipe (steps : List (Nat × Nat)) (trays : Bytes) : Task :=
  { st := .running, entry := entry 1 0 0 0 0 0, flags := 0xFF, image := image steps, trays := trays ++ zeros (384 - trays.length), deadline := 1000, seq := 1 }

/-- The block with step 0 of a recipe at work on engine n of a class. -/
def stepping (cls n : Nat) (t : Task) : Core :=
  { withTask serve { t with disp := 1 } with eng := { jobs := [(256 * cls + n, { run := some { tid := 0, step := 0 } })] } }

/-- The block with step 0 of a recipe ready for the control complex of its cluster, or for its output. -/
def readyStep (t : Task) : Core := withTask serve t

/-! ### The machine itself -/

theorem witness_StepRunsFront : ({ State.reset with pending := [Instr.smbusClockLowTimeout, .retainEnter] } : State).pending = .smbusClockLowTimeout :: [.retainEnter] := rfl

theorem witness_EveryStepAnswers : State.reset.pending = [] ∧ (∃ t, exec .eraseEnd State.reset = .next t) := ⟨rfl, _, rfl⟩

theorem witness_HalfRangeRule : 2 ^ 47 ≤ ((2 ^ 47 : W48) - 0).toNat ∧ ¬ 2 ^ 47 ≤ ((2 ^ 47 - 1 : W48) - 0).toNat := by decide

/-- SERVE with no prime reserve open. -/
def quiet : Core := { serve with r := { serve.r with rsaBits := [0, 0, 0, 0] } }

theorem witness_ConsequencesOnlyWhereDue : Core.Quiet quiet quiet :=
  { erase := fun t h => nomatch h
    fence := by decide +kernel
    gone := by decide +kernel
    reduced := by decide +kernel
    serving := by decide +kernel
    transit := rfl
    ports := by decide +kernel
    slices := by decide +kernel
    loose := by decide +kernel
    reads := by decide +kernel
    messages := fun n h => .inl ((by decide +kernel : ∀ n < 4, (quiet.port n).msgs = []) n h)
    search := .inl (by decide +kernel)
    cores := fun x h => nomatch h
    tokens := fun t h => nomatch h
    rewrites := fun e h => nomatch h
    drains := fun _ _ _ h => h
    low := fun h => h }

theorem witness_ResetState : 1 ≤ 3 ∧ 3 < 4 := by decide

/-- A controller with source 7 at level 2 pending under a claim of source 5 at level 1. -/
def claimed : Evc :=
  { pend := 2 ^ 7, enable := 2 ^ 7 + 2 ^ 5, active := 2 ^ 5, prio := [(5, 1), (7, 2)], stack := [{ source := 5, level := 1, saved := none }] }

theorem claimed_ok : claimed.Ok :=
  ⟨by decide, by decide, by decide, rfl, by decide, by decide, fun n => by
    constructor
    · intro h
      refine ⟨_, List.mem_singleton.2 rfl, ?_⟩
      by_cases hn : n = 5
      · exact hn.symm
      · exact absurd h (by
          show ¬ Nat.testBit (2 ^ 5) n = true
          simp [Nat.testBit_two_pow_of_ne (Ne.symm hn)])
    · rintro ⟨x, hx, rfl⟩
      rw [List.mem_singleton.1 hx]
      decide⟩

theorem idle_ok : ({} : Evc).Ok :=
  ⟨by decide, by decide, by decide, trivial, by decide, by decide, fun n => by simp⟩

/-- Reset with port 0 reached and a claim in its controller. -/
def interrupted : State := { at_ wired with evc := [claimed, {}, {}, {}] }

theorem interrupted_ok : interrupted.EvcOk := by
  refine ⟨rfl, fun e h => ?_⟩
  have h' : e ∈ [claimed, {}, {}, {}] := h
  rcases List.mem_cons.1 h' with rfl | h''
  · exact claimed_ok
  · have : e = {} := by simpa using h''
    exact this ▸ idle_ok

theorem witness_StepKeepsControllersCoherent : interrupted.EvcOk ∧ (∃ t, step interrupted = .next t) := ⟨interrupted_ok, _, rfl⟩

theorem witness_ClaimTakesHighest :
    interrupted.EvcOk ∧ interrupted.evcReach 0 = true ∧ (interrupted.evcOf 0).lingering interrupted.core.now = [] ∧ (interrupted.evcOf 0).deliverable 7 = true :=
  ⟨interrupted_ok, by decide, by decide, by decide⟩

theorem witness_StackNeverOverflows : claimed.Ok ∧ claimed.deliverable 7 = true := ⟨claimed_ok, by decide⟩

theorem witness_EndOfInterrupt :
    interrupted.EvcOk ∧ interrupted.evcReach 0 = true ∧ (interrupted.evcOf 0).stack = { source := 5, level := 1, saved := none } :: [] ∧
    (interrupted.evcOf 0).active.testBit 9 = false :=
  ⟨interrupted_ok, by decide, rfl, by decide⟩

/-- Two claims, the later one of source 7. -/
theorem witness_EndOfInterrupt_earlier :
    let e : Evc := claimed.take 7
    e.stack = [{ source := 7, level := 2, saved := some 1 }, { source := 5, level := 1, saved := none }] ∧ e.active.testBit 5 = true := by decide

theorem witness_ControllerWrites : 0 < interrupted.evc.length ∧ interrupted.evcReach 0 = true ∧ 5 < 6 ∧ 21 < 22 ∧ Table.wf (interrupted.evcOf 0).prio = true := by decide

theorem witness_EdgesMaskingAndMessages :
    claimed.settling = [] ∧ claimed.deliverable 7 = true ∧ 7 / 48 = 0 ∧ (0 : W48).toNat.testBit (7 % 48) = false ∧
    Table.find 7 (claimed.enableWrite 0 0 0).settling = some 25 := by decide

/-- Port 0 with MSI-X on and vector 2 unmasked and asked for. -/
def messaging : State :=
  { at_ { wired with ports := upd 0 (fun p => { p with msixEnable := true, msix := upd 2 (fun _ => { addr := 0xFEE00000, data := 2, masked := false }) p.msix }) wired.ports } with
    evc := [{ req := 4 }, {}, {}, {}] }

theorem witness_EdgesMaskingAndMessages_message :
    (messaging.evcOf 0).req.testBit 2 = true ∧ (messaging.core.port 0).msixEnable = true ∧ (messaging.core.port 0).funcMask = false ∧
    ((messaging.core.port 0).msix.getD 2 {}).masked = false ∧ (messaging.core.port 0).link = .l0 ∧ messaging.core.hostUp 0 = true ∧
    (interrupted.core.port 0).msixEnable = false := by decide

/-! ### Doorbells, mailboxes, slice registers -/

theorem serve_reached : (at_ serve).reaches 0 := by decide

theorem witness_DoorbellRule :
    (at_ serve).reaches 0 ∧ serve.ringNo 0 0 = some 0 ∧ serve.doorbellLive 0 0 = true ∧ (serve.cc.faults.getD 0 {}).on = false ∧ (serve.ringOf 0).n = 64 ∧
    (0 < 64 ∧ ringDist 64 3 1 ≤ ringDist 64 0 1) ∧ 64 ≤ 64 ∧ (2 < 64 ∧ ringDist 64 2 1 < ringDist 64 3 1) ∧
    (2 < 64 ∧ ringDist 64 2 1 ≤ ringDist 64 2 1) ∧ (3 < 64 ∧ ringDist 64 2 1 < ringDist 64 3 1) := by decide

theorem witness_DoorbellFaultAndDrop :
    0 < serve.cc.faults.length ∧ (serve.cc.faults.getD 0 {}).on = false ∧ (at_ serve).reaches 0 ∧ serve.ringNo 0 1 = some 1 ∧ serve.doorbellLive 0 1 = false := by decide

/-- The slice with a full slot in each direction. -/
def posted : Core :=
  { serve with slc := serve.slc.map (fun e => (e.1, { e.2 with mbx := [{ full := true }, {}, { full := true }, {}] })) }

theorem witness_MailboxAccess :
    posted.hostUp 0 = true ∧ posted.scrapped = false ∧ posted.slcNo 0 0 = some 0 ∧ (posted.slice 0).started = true ∧ (posted.slice 0).home.isSome = true ∧
    (outbound true 3 = true ∧ ((posted.slice 0).slotAt 3).full = false) ∧ (outbound true 2 = true ∧ ((posted.slice 0).slotAt 2).full = true) ∧
    (outbound true 0 = false ∧ ((posted.slice 0).slotAt 0).full = true) ∧ (outbound true 1 = false ∧ ((posted.slice 0).slotAt 1).full = false) ∧
    (outbound false 1 = true ∧ outbound false 2 = false) := by decide

/-- A captured violation and a notice of slice 0, glazed. -/
def captured : Core :=
  let v (posted : Bool) : Viol := { seq := 0, epoch := 1, posted := posted, access := 2, cause := 1, ring := 0, tag := 7, iova := 0x9000 }
  let cap : SlcCap := { valid := true, cause := 1, nValid := true, nCount := 1, recent := [v true, v false] }
  { serve with cc := { serve.cc with caps := [(0, cap)] }, mirror := { serve.mirror with caps := [(0, cap)] } }

theorem witness_SliceRegisterWrites :
    (at_ captured).reaches 0 ∧ captured.slcNo 0 0 = some 0 ∧ captured.frozen = false ∧ (captured.mirror.cap 0).valid = true ∧ (captured.mirror.cap 0).nValid = true ∧
    Table.wf captured.cc.caps = true ∧ (captured.cc.cap 0).recent.filter (fun y => !y.posted) ≠ [] ∧ (captured.cc.cap 0).recent.filter (fun y => y.posted) ≠ [] ∧
    (∀ x ∈ (captured.cc.cap 5).recent, x.posted = true) ∧ (at_ serve).reaches 0 ∧ (serve.mirror.cap 0).valid = false ∧ (serve.mirror.cap 0).nValid = false := by decide

/-- Port 1 created and reached, under a split in two. -/
def split : Core :=
  { serve with g := { serve.g with split := 1 }, ports := upd 1 (fun p => { p with perstLow := false, refStable := true, link := .l0 }) serve.ports }

/-- The unit scrapped. -/
def scrapped : Core := { wired with g := { wired.g with wakeFault := 2 } }

theorem witness_WritesThatFindNoRegister :
    scrapped.hostUp 0 = true ∧ scrapped.scrapped = true ∧
    0 < serve.ports.length ∧ State.reset.core.hostUp 0 = false ∧ (1 ≠ 0 ∧ (at_ split).reaches 1) ∧ serve.hostUp 0 = true ∧ serve.scrapped = false ∧ serve.cont.dead = false ∧
    (0x3F8 % 8 = 0 ∧ 0x3F8 < 2 ^ 24 ∧ serve.regAt 0 0x3F8 = none) ∧ (0xFFFFF8 < 2 ^ 24 ∧ serve.doorAt 0 0xFFFFF8 = none) ∧ 4 ≠ 0 ∧ 4 ≠ 2 := by decide

/-! ### GLB_CTRL, the check, the enables -/

/-- A task whose big-number step is left. -/
def bnTask : Task := { recipe [(0x60, word 0 0 0 0 0 0)] [] with st := .admitted }

theorem witness_HaltQuiesceAndResume :
    (at_ (withTask serve bnTask)).reaches 0 ∧ serve.g.mode ≠ .zeroized ∧ serve.g.mode ≠ .retain ∧ serve.g.mode ≠ .wake ∧ serve.g.mode ≠ .safeHalt ∧
    bnTask.st ≠ .fetching ∧ bnTask.dropped = false ∧ bnTask.hasBn = true ∧ (withTask serve bnTask).task 0 = some bnTask ∧ serve.linkMask ≠ 0 ∧
    (at_ (inMode serve .safeHalt)).reaches 0 ∧ (0x10 : W64).toNat.testBit 4 = true := by decide

theorem witness_HaltQuiesceAndResume_quiesce :
    (0xA : W64).toNat.testBit 4 = false ∧ (0xA : W64).toNat.testBit 3 = true ∧ serve.g.mode = .serve ∧
    (at_ (inMode serve .analysis)).reaches 0 ∧ ({ inMode serve .analysis with g := { serve.g with mode := .analysis, phase := .serving } } : Core).g.phase = .serving := by decide

theorem witness_HaltQuiesceAndResume_resume :
    (at_ (inMode serve .quiesce)).reaches 0 ∧ (5 : W64).toNat.testBit 4 = false ∧ (5 : W64).toNat.testBit 0 = true ∧ serve.g.enable = true ∧ setup.g.checks = [] ∧ (inMode serve .quiesce).g.mode = .quiesce ∧
    (4 : W64).toNat.testBit 0 = false ∧ (inMode serve .quiesce).quiesced = true ∧
    ({ serve with g := { serve.g with mode := .analysis, phase := .quiesced } } : Core).quiesced = true := by decide

/-- SETUP with the global check at work. -/
def checkingAll : Core := { setup with g := { setup.g with checks := [⟨0, 0, 0⟩] } }

theorem witness_EnableWhileChecking :
    (at_ checkingAll).reaches 0 ∧ checkingAll.g.mode = .setup ∧ checkingAll.globalChecking = true ∧ (1 : W64).toNat.testBit 4 = false := by decide

/-- QUIESCE drained. -/
def drained : Core := { serve with g := { serve.g with mode := .quiesce, drained := true, enable := false } }

theorem witness_EnableWrites :
    (at_ setup).reaches 0 ∧ (1 : W64).toNat.testBit 4 = false ∧ setup.g.mode = .setup ∧ setup.globalChecking = false ∧
    (at_ (inMode serve .quiesce)).reaches 0 ∧ (1 : W64).toNat.testBit 2 = false ∧ (at_ serve).reaches 0 ∧ serve.g.mode = .serve ∧
    (at_ drained).reaches 0 ∧ drained.g.mode = .quiesce ∧ drained.g.drained = true ∧ drained.g.lcTarget = none := by decide

/-- SETUP with registers that pass the check of unit, port 0 and slice 0. -/
def readySetup : Core :=
  { setup with
    ports := upd 0 (fun p => { p with enable := true }) setup.ports
    slc := serve.slc.map (fun e => (e.1, { e.2 with locked := false, started := false }))
    ring := serve.ring }

/-- A check of the scope at work, over dies. -/
def checkAt (c : Core) (kind : Nat) : Core := { c with g := { c.g with checks := [⟨kind, 0, 0⟩] } }

theorem witness_CheckEnds_passes :
    (checkAt readySetup 0).g.checks.contains ⟨0, 0, 0⟩ = true ∧ readySetup.check { kind := 0, port := 0, slice := 0 } = none ∧ readySetup.g.mode = .setup ∧
    (checkAt serve 1).g.checks.contains ⟨1, 0, 0⟩ = true ∧ serve.check { kind := 1, port := 0, slice := 0 } = none ∧
    serve.check { kind := 2, port := 0, slice := 0 } = none := by decide

/-- A slice without a window in service. -/
def badSlice : Core := { serve with slc := serve.slc.map (fun e => (e.1, { e.2 with windows := [(0, { base := 0x10001, len := 0x10000, attr := 0x3F })] })) }

theorem witness_CheckEnds_fails :
    (badSlice.check { kind := 0, port := 0, slice := 0 }).isSome = true ∧ (badSlice.check { kind := 1, port := 0, slice := 0 }).isSome = true ∧
    (badSlice.check { kind := 2, port := 0, slice := 0 }).isSome = true ∧ serve.g.checks.contains ⟨0, 0, 0⟩ = false := by decide

theorem witness_SliceStartAndEnable :
    (at_ serve).reaches 0 ∧ serve.frozen = false ∧ serve.globalChecking = false ∧ serve.slcNo 0 1 = some 1 ∧ (serve.slice 1).enable = false ∧ serve.g.locked = true ∧
    (serve.port 0).enable = true ∧ (setup.port 0).enable = false ∧ serve.checking 2 0 1 = false ∧ (checkAt serve 2).checking 2 0 0 = true ∧ (at_ setup).reaches 0 ∧ setup.g.locked = false ∧ setup.slcNo 0 1023 = some 1023 ∧
    (serve.slice 0).enable = true ∧ serve.otherSliceOn 0 = false ∧ 0 ∈ serve.sliceRings 0 0 ∧ 1 ∉ serve.sliceRings 0 0 ∧ Table.wf serve.cc.rings = true := by decide

theorem witness_PortAndRingEnable :
    (at_ serve).reaches 0 ∧ serve.frozen = false ∧ 0 < serve.ports.length ∧ serve.globalChecking = false ∧ (serve.port 0).enable = true ∧ serve.checking 1 0 0 = false ∧
    (readySetup.port 0).enable = true ∧ checkingAll.globalChecking = true ∧ (setup.port 0).enable = false ∧ setup.checking 1 0 0 = false ∧ (checkAt setup 1).checking 1 0 0 = true ∧
    (checkAt setup 1).globalChecking = false := by decide

theorem witness_PortAndRingEnable_ring :
    (at_ serve).reaches 0 ∧ serve.frozen = false ∧ serve.ringNo 0 0 = some 0 ∧ serve.ringSlice 0 0 = some 0 ∧ (serve.ringOf 0).enable = true ∧
    (serve.slice 0).locked = true ∧ (0 : W64).toNat.testBit 4 = (serve.ringOf 0).msgEn ∧ (readySetup.slice 0).locked = false ∧ readySetup.ringNo 0 0 = some 0 ∧
    (serve.slice 0).on = true ∧ (readySetup.slice 0).on = false ∧ (0x10 : W64).toNat.testBit 4 ≠ (serve.ringOf 0).msgEn ∧ (serve.ringOf 0).armedAt = none ∧
    (at_ (inMode serve .safeHalt)).reaches 0 ∧ (inMode serve .safeHalt).frozen = true ∧ serve.ringNo 0 4095 = some 4095 ∧ serve.ringSlice 0 4095 = some 0 ∧
    (serve.ringOf 4095).enable = false ∧ Table.wf (withTask serve bnTask).cc.tasks = true ∧
    (0, bnTask) ∈ (withTask serve bnTask).cc.tasks := by decide

/-- A second slice of port 0 in service. -/
def twoSlices : Core := { serve with slc := serve.slc ++ [(1023, { enable := true })] }

theorem witness_ManagerSliceHeld :
    (at_ twoSlices).reaches 0 ∧ twoSlices.slcNo 0 0 = some 0 ∧
    (1 ≤ 1023 ∧ 1023 < (twoSlices.port 0).slcCount ∧ (twoSlices.slice ((twoSlices.port 0).slcBase + 1023)).enable = true) := by decide

/-! ### Register writes, the split and tag areas, port events -/

theorem witness_UnitRegisterWrites :
    (at_ serve).manages ∧ serve.g.locked = true ∧ (at_ setup).manages ∧ setup.g.locked = false ∧ 341 < 342 ∧ 3 < 4 ∧ Table.wf serve.r.domPorts = true := by decide

theorem witness_AddressPairs :
    (at_ readySetup).reaches 0 ∧ readySetup.frozen = false ∧ readySetup.ringNo 0 1023 = some 1023 ∧ readySetup.slcNo 0 1023 = some 1023 ∧ 1023 < 1024 ∧
    readySetup.sliceLocked 0 (readySetup.ringOf 1023).slice = false ∧ (readySetup.slice 1023).locked = false ∧ 2 ^ 16 - 1 < 2 ^ 16 := by decide

/-- The tag write in progress. -/
def tagging : Core := { setup with r := { setup.r with tagBusy := true } }

theorem witness_SplitAndTag :
    (at_ setup).reaches 0 ∧ setup.frozen = false ∧ setup.g.locked = false ∧ 3 < 4 ∧ setup.ports.length = 4 ∧ serve.g.locked = true ∧ setup.g.mode ≠ .zeroized ∧
    setup.r.tagBusy = false ∧ (0 : W64).toNat.testBit 1 = false ∧ 0 < setup.flash.writesLeft ∧ (0 : W64).toNat.testBit 0 = false ∧ 42 ≤ 42 ∧ setup.r.tagStaged.length = 256 ∧
    (at_ tagging).reaches 0 ∧ tagging.r.tagBusy = true ∧ ({ setup.flash with writesLeft := 0 } : Flash).writesLeft = 0 := by decide

/-- The state of port 0 under a change. -/
def port0 (c : Core) (f : Port → Port) : Core := { c with ports := upd 0 f c.ports }

theorem witness_LinksAndPortResets :
    serve.ports.length = 4 ∧ serve.cc.faults.length = 4 ∧ Table.wf (withTask serve bnTask).cc.tasks = true ∧ serve.portOn 0 = true ∧ (split.portOn 1 = true ∧ 1 < 4) ∧
    (serve.port 0).perstLow = false ∧ (serve.port 0).link ≠ .down ∧ ((port0 serve (fun p => { p with d3 := true })).port 0).d3 = true ∧
    ((port0 serve (fun p => { p with resetting := true })).port 0).resetting = true ∧ (serve.port 0).resetting = false := by decide

/-- The unit before port 0's reference clock is stable. -/
def unclocked : Core := port0 State.reset.core (fun p => { p with refStable := false })

theorem witness_LinksAndPortResets_link :
    State.reset.core.portOn 0 = true ∧ (State.reset.core.port 0).detect ≠ 1 ∧ (State.reset.core.port 0).link = .down ∧ (State.reset.core.port 0).refStable = true ∧ (unclocked.port 0).refStable = false ∧
    (State.reset.core.port 0).perstLow = true ∧ ((port0 unclocked (fun p => { p with refStable := true })).port 0).refStable = true ∧
    ((port0 State.reset.core (fun p => { p with perstLow := false })).port 0).perstLow = false ∧
    (1 ≤ 5 ∧ 5 ≤ 5 ∧ 1 ≤ 16 ∧ 16 ≤ wired.lanes) ∧ ((port0 wired (fun p => { p with link := .down, training := true })).port 0).training = true ∧
    ((port0 wired (fun p => { p with link := .low })).port 0).link = .low ∧ (wired.port 0).training = false ∧ (wired.port 0).link = .l0 ∧ (wired.port 0).resetting = false ∧
    wired.hostUp 0 = true ∧ ((port0 wired (fun p => { p with ats := true })).port 0).ats = true ∧ (wired.port 0).ats = false := by decide

/-! ### Admission, dispatch and transfers -/

/-- A recipe of one FILL step that has run, one of ENCRYPT at work, and the same whose check has failed before. -/
def fillTask : Task := { recipe [(0x03, word 0xA5 0 8 0 0 0)] [] with disp := 1, results := [(0, { writes := [(0, [0xA5])] })] }
def encTask : Task := recipe [(0x20, word 0 1 16 0 0 0)] []

/-- A task with one destination piece to write, inside the window and outside it. -/
def writing (iova : Nat) : Task := { fillTask with pieces := [{ iova := iova, data := [1, 2], zero := false, xfer := 1 }] }

theorem witness_PiecesAndReservations :
    2 ^ 64 - 1 < 2 ^ 64 ∧ serve.leaseHeld = true ∧ setup.leaseHeld = true ∧ setup.nextTurn = none ∧ wired.leaseHeld = false ∧
    serve.nextTurn.map (fun (x : Nat × Nat × Core) => (x.1, x.2.1)) = some (0, 0) ∧ serve.tagFree 0 = true ∧ serve.cc.fetchOf 0 0 = none ∧ serve.offersLeft = false ∧ serve.fetchTurn 0 = true ∧ (withTask serve { encTask with st := .admitted }).offersLeft = true ∧ (withTask serve (writing 0x1FFFF)).fetchTurn 0 = false ∧ (serve.slice 0).cause 0x10040 0 2 true = 0 ∧ serve.granted 0 5 0x10040 [0x10] = true ∧
    (∃ g, serve.grant 0 = some g) ∧ serve.halted = false ∧ serve.cont.memOut = [] ∧
    (∃ w, (serve.slice 0).windowAt 0x1FFFF = some w) ∧ (serve.slice 0).windowAt 0x20000 = none := by
  refine ⟨by decide, by decide, by decide, by decide, by decide, by decide +kernel, by decide +kernel, by decide, by decide, by decide +kernel, by decide +kernel, by decide +kernel, by decide, by decide, ⟨_, rfl⟩, by decide, by decide, ⟨_, rfl⟩, by decide⟩

/-- The reserved task of an entry fetch. -/
def reserved : Task := { credits := 64 }

/-- An entry of KT_CHAIN, which its class takes on the manager slice. -/
def goodEntry : Bytes := entry 2 0x208 0 0 0 0

/-- The same entry in two slots, and one of an undefined class. -/
def extEntry : Bytes := patch 1 [1] goodEntry
def badEntry : Bytes := entry 9 0 0 0 0 0

theorem witness_EntryArrives :
    let c := withTask serve reserved
    Table.wf c.cc.rings = true ∧ c.task 0 = some reserved ∧
    reserved = { port := reserved.port, ring := reserved.ring, slice := reserved.slice, domain := reserved.domain, cluster := reserved.cluster, credits := reserved.credits } ∧
    c.leaseHeld = true ∧ c.halted = false ∧ c.fetchAllowed 0 0 = true ∧ goodEntry.length = 64 ∧ c.granted 0 5 0x10040 [0x10] = true ∧
    ({ reserved with entry := goodEntry } : Task).ext = false ∧ (∃ x, c.entryCheck { reserved with entry := goodEntry } true = .ok x) ∧
    badEntry.length = 64 ∧ ({ reserved with entry := badEntry } : Task).ext = false ∧ (∃ e, c.entryCheck { reserved with entry := badEntry } true = .error e) ∧
    extEntry.length = 64 ∧ ({ reserved with entry := extEntry } : Task).ext = true := by
  refine ⟨by decide, by decide, by decide, by decide, by decide, by decide, by decide, by decide, by decide, ⟨_, rfl⟩, by decide, by decide, ⟨_, rfl⟩, by decide, by decide⟩

theorem witness_EntryArrives_failures :
    let c := withTask { serve with cc := { serve.cc with rings := [(0, { ringAt with t := 2 })] } } reserved
    (2 ≤ (withTask serve reserved).waiting 0 ∧ (serve.slice 0).cause 0x10080 0 2 true = 0 ∧ serve.granted 0 5 0x10080 [0x10] = true) ∧ c.waiting 0 < 2 ∧ 0 < c.cc.faults.length ∧ (c.cc.cap 0).valid = false ∧ 1 ≤ 5 ∧ 5 ≠ 4 ∧
    (port0 c (fun p => { p with ats := true })).granted 0 5 0x10040 [0x10] = false := by decide

/-- A task whose source is still to be read, and one whose random bytes are. -/
def sourceTask : Task := { opTask 1 0 0 0 [] 0 with entry := entry 1 0 0 0 0x1000 0, flags := 0xFD }
def randomTask : Task := { opTask clsAdmin 0x201 0 0 [] 0 with flags := 0xEF }

/-- The source task once k of the pieces of its part are sent, and the same on a port with ATS on. -/
def askedTask (k : Nat) : Task := { sourceTask with asked := some (0, 0x1000, k) }
def atsServe : Core := port0 serve (fun p => { p with ats := true })

theorem witness_OperandAndRandom :
    let c := withTask serve sourceTask
    c.task 0 = some sourceTask ∧ sourceTask.awaitsSource = true ∧ c.leaseHeld = true ∧ sourceTask.gone = false ∧ (c.port 0).ats = false ∧
    splitPieces (sourceTask.srcIova + sourceTask.nextPart.1) sourceTask.nextPart.2 = [] ++ (0x12000, 0x1000) :: [] ∧ (c.slice 0).cause 0x12000 0 3 true = 0 ∧ ([0x12] : List Nat).contains (0x12000 / 4096) = true ∧
    (badSlice.slice 5).cause 0x12000 0 3 true ≠ 0 ∧ Table.wf c.cc.tasks = true ∧
    (askedTask 0).asked = some (0, 0x1000, 0) ∧ (askedTask 0).awaitsSource = true ∧
    (let all := splitPieces ((askedTask 0).srcIova + 0) 0x1000
     all.drop 0 = [] ++ (0x12000, 0x1000) :: [] ∧ all.take 1 = [] ++ (0x12000, 0x1000) :: [] ∧ (∀ p ∈ all, (c.slice 0).cause p.1 0 3 true = 0) ∧
     (∀ p ∈ all, ([] : List Nat).contains (p.1 / 4096) = false)) ∧
    (c.port 0).ecrcCheck = false ∧ ((port0 c (fun p => { p with ecrcCheck := true })).port 0).ecrcCheck = true ∧
    (atsServe.port 0).ats = true ∧ (atsServe.port 0).translations.contains ((atsServe.slice 0).pasid, 0x12000 / 4096) = false := by decide

theorem witness_OperandAndRandom_random :
    let c := withTask serve randomTask
    c.task 0 = some randomTask ∧ randomTask.awaitsRandom = true ∧ randomTask.rndSizes = [64] ∧ c.halted = false ∧ c.ent.run = true ∧ (c.ent.inst 0).due = false ∧
    (({ calls := 2 ^ 16 } : Drbg).due = true) ∧ (c.ent.inst 0).lost = false ∧ c.ent.pools.getD 0 [] = [] ∧ wired.ent.run = false := by decide

theorem witness_BestIsPicked :
    let x : Ready := { tid := 0, deadline := 2 ^ 46 - 1, seq := 5, step := 0 }
    ((x.deadline - 0).toNat < 2 ^ 46 ∨ ((0 : W48) - x.deadline).toNat ≤ 2 ^ 46) ∧ x.seq < 2 ^ 48 ∧ (x.seq + 2 ^ 48 - 5 % 2 ^ 48) % 2 ^ 48 < 2 ^ 47 ∧
    ({ deadline := 9, due := 9 } : Task).deadline = BitVec.ofNat 48 9 ∧ 9 < serve.clock + 2 ^ 46 ∧ serve.clock ≤ 9 + 2 ^ 46 ∧
    (let e : SvEntry := { digits := [4] ++ List.replicate 18 15 }
     e.fits [4, 5] 0 = true ∧ e.fits [5, 5] 0 = false ∧ ([(0, e)] : Table SvEntry)[0]? = some (0, e)) := by decide

theorem witness_EngineWork_offer :
    serve.dispatching = true ∧ (serve.enginesUp 1).contains 0 = true ∧ (serve.enginesUp 5).contains 0 = true ∧ serve.underTest 1 0 = false ∧
    (Table.findD (engKey 1 0) {} serve.eng.jobs).pre = none ∧ serve.offer 1 0 = none ∧
    (∃ r, (withTask serve { encTask with st := .admitted }).offer 1 0 = some r) := by
  refine ⟨by decide, by decide, by decide, by decide, by decide, by decide, ⟨_, rfl⟩⟩

theorem witness_EngineWork_completes :
    (withTask serve fillTask).task 0 = some fillTask ∧ fillTask.runningSteps.contains 0 = true ∧ fillTask.st = .running ∧
    Table.find 0 fillTask.results = some { writes := [(0, [0xA5])] } ∧ fillTask.opclass = clsRecipe ∧ earlyEnd (imgStep fillTask.image 0) 0 .plain = none ∧
    (∃ e, earlyEnd (imgStep fillTask.image 0) 0 (.sub 3) = some e) ∧
    (stepping 1 0 encTask).eng.runner 0 0 = some (1, 0) ∧ ({ encTask with disp := 1 } : Task).runningSteps.contains 0 = true ∧ encTask.failed.testBit 0 = false ∧
    ({ encTask with failed := 1 } : Task).failed.testBit 0 = true ∧ (stepping 1 0 encTask).eng.isBad 1 0 = false ∧ ({ fillTask with st := .ending } : Task).st = .ending ∧ encTask.drawsIv = false ∧
    ({ withTask serve encTask with eng := { jobs := [(engKey 3 0, { run := some { tid := 0, step := 65 } })] } } : Core).eng.runner 0 65 = some (3, 0) := by
  refine ⟨by decide, by decide, by decide, by decide, by decide, by decide, ⟨_, rfl⟩, by decide, by decide, by decide, by decide, by decide, by decide, by decide, by decide⟩

/-- A task that has ended, with its completion staged. -/
def ended : Task := { entry := goodEntry, st := .retired, staged := some 0, hasRecord := false, res0 := some 0, res1 := some 0 }

theorem witness_RetirementFixes :
    (withTask serve fillTask).task 0 = some fillTask ∧ fillTask.st ≠ .retired ∧ fillTask.strictFail = none ∧ Table.wf (withTask serve fillTask).cc.tasks = true ∧
    ended.status < 256 ∧ ended.detail < 2 ^ 16 ∧ ended.res0.getD 0 < 2 ^ 64 ∧ ended.res1.getD 0 < 2 ^ 64 ∧ ended.zeroed < 2 ^ 64 := by decide

theorem witness_WritesLeave_piece :
    let c := withTask serve (writing 0x1FFFF)
    c.leaseHeld = true ∧ Table.wf c.cc.tasks = true ∧ c.task 0 = some (writing 0x1FFFF) ∧ c.pieceTurn 0 = some 0 ∧ (withTask serve fillTask).pieceTurn 0 ≠ some 0 ∧ (c.port 0).ats = false ∧
    (c.slice 0).cause 0x1FFFF 1 4 true = 0 ∧ (c.slice 0).cause 0x20000 1 4 true ≠ 0 ∧ (withTask serve (writing 0x20000)).task 0 = some (writing 0x20000) ∧
    (c.cc.cap 0).valid = false ∧ (c.cc.cap 0).nValid = false := by decide

theorem witness_WritesLeave_completion :
    let c := withTask serve ended
    c.ringNo 0 0 = some 0 ∧ c.cc.stagedOf 0 0 = (0, ended) :: [] ∧ Table.wf c.cc.rings = true ∧ c.ringClosed 0 0 = false ∧ c.completionTurn 0 = some 0 ∧
    c.linkTakes 0 = true ∧ c.unreleased 0 + 1 < (c.ringOf 0).n ∧ (c.slice 0).cause 0x11040 1 2 true = 0 ∧ (c.slice 7).cause 0x11040 1 2 true ≠ 0 ∧
    ({ c with ring := [] } : Core).ringClosed 0 0 = true ∧ (c.cont.glazed < ({ ended with staged := some 1 } : Task).staged.getD 0) := by decide +kernel

theorem witness_WritesLeave_coalescing :
    let c : Core := { serve with ring := [(0, { (serve.ringOf 0) with armedAt := some 7, coalTime := 1, msgEn := true })] }
    c.ringNo 0 0 = some 0 ∧ (c.ringOf 0).armedAt = some 7 ∧ (c.ringOf 0).coalTime ≠ 0 ∧ c.linkTakes 0 = true := by decide

theorem witness_AbortAndClassEnables :
    let t : Task := { bnTask with st := .aborting }
    (withTask serve t).task 0 = some t ∧ t.st = .aborting ∧ (withTask serve t).eng.runsElse 0 = false ∧ (stepping 1 0 t).eng.runsElse 0 = true ∧ t.gone = false ∧ ({ t with gone := true } : Task).gone = true ∧
    (at_ serve).manages ∧ classSwitch serve.g.variant 3 = true ∧ classSwitch serve.g.variant 0 = false ∧ 7 < 8 := by decide

/-! ### Steps of recipes, and the operations PK_DIRECT and BULK -/

/-- A step of a recipe is at work. -/
def stepAt (c : Core) (op : Nat) (t : Task) : Bool :=
  decide (c.task 0 = some t) && decide (t.opclass = clsRecipe) && decide ((imgStep t.image 0).op = op) && c.atWork 0 t 0

theorem stepAt_sound {c : Core} {op : Nat} {t : Task} (h : stepAt c op t = true) : c.StepAt 0 0 op t (imgStep t.image 0) := by
  simp only [stepAt, Bool.and_eq_true, decide_eq_true_eq] at h
  exact ⟨h.1.1.1, h.1.1.2, rfl, h.1.2, h.2⟩

/-- A recipe of one step, of an opcode with an ARG, on trays, with KEY0 and KEY1 resolved. -/
def stepTask (op arg : Nat) (trays : Bytes) (keys : List Ctx) : Task :=
  { recipe [(op, word arg (1 + 32 * 2) 16 64 32 0)] trays with ctxs := (List.range keys.length).map (fun i => (i + 1, keys.getD i {})) }

/-- The block with that step at work: in the control complex of the cluster, in the output of the task, or on engine 0 of its class. -/
def stepCore (op : Nat) (t : Task) : Core :=
  match opClass op with
  | some 0 => readyStep t
  | some 6 => readyStep t
  | some k => stepping k 0 t
  | none => serve

/-- The step of an opcode is at work. -/
def works (op arg : Nat) (trays : Bytes) (keys : List Ctx) : Bool :=
  let t := stepTask op arg trays keys
  let u := if opClass op = some 0 ∨ opClass op = some 6 then t else { t with disp := 1 }
  stepAt (stepCore op t) op u

theorem witness_TraySteps :
    (∀ op ∈ [0x01, 0x02, 0x03, 0x04, 0x05, 0x06, 0x07, 0x50, 0x90], works op 0 (List.replicate 48 0x39) [] = true) ∧
    (∀ x ∈ (stepTask 5 0 (List.replicate 48 0x39) []).rd 0 16, 0x30 ≤ x.toNat ∧ x.toNat ≤ 0x39) ∧
    (∃ x ∈ (stepTask 5 0 (List.replicate 48 0x3A) []).rd 0 16, x.toNat < 0x30 ∨ 0x39 < x.toNat) ∧
    (∀ i, i < 16 → nib i ((stepTask 6 0 (List.replicate 48 0x39) []).rd 0 8) ≤ 9) ∧
    (∃ i, i < 16 ∧ 9 < nib i ((stepTask 6 0 (List.replicate 48 0x3A) []).rd 0 8)) ∧
    (∀ x ∈ (stepTask 7 0 (List.replicate 48 9) []).rd 32 16, x.toNat ≤ 9) ∧
    (∃ x ∈ (stepTask 7 0 (List.replicate 48 10) []).rd 32 16, 9 < x.toNat) := by decide +kernel

/-- Keys of usage classes and algorithms, all zero. -/
def key (usage alg : Nat) : Ctx := { index := 0x1000, gen := 1, isNode := true, usage := usage, alg := alg, bitLen := algBits alg, attrs := 1, key := zeros (symKeyBytes alg) }

/-- An answer is a value. -/
def good {α β : Type} (x : Except α β) : Bool :=
  match x with
  | .ok _ => true
  | .error _ => false

theorem witness_KeyedSteps_selectors :
    (∀ op ∈ [0x20, 0x21, 0x22, 0x23, 0x24, 0x30, 0x31, 0x32, 0x33, 0x34, 0x35, 0x36, 0x38, 0x39, 0x3A, 0x3B, 0x3C, 0x3D, 0x3E, 0x3F, 0x40, 0x41, 0x51, 0x52],
      works op 0 [] [] = true ∧ works op 0 [] [key 1 2, key 3 2] = true) ∧
    (stepTask 0x20 0 [] []).ksel 1 = none ∧ (stepTask 0x30 0 [] [key 1 2]).ksel 2 = none ∧ (stepTask 0x30 0 [] [key 3 2, key 3 2]).ksel 2 = some (key 3 2) ∧
    (∀ u ∈ [1, 2, 3, 5, 6, 7, 0x20, 0x21, 8, 9], (key 0x13 2).usage ≠ u ∧ (key u 2).usage = u) ∧ (key 0x0A 2).usage = 0x0A ∧ (key 0x0B 2).usage = 0x0B := by decide +kernel

/-- A PAN of 16 digits, a table, a PIN record of 1234. -/
def pan : Bytes := [0x41, 0x23, 0x45, 0x67, 0x89, 0x01, 0x23, 0x45, 0xFF, 0xFF]
def decTable : Bytes := [0, 1, 2, 3, 4, 5, 6, 7, 8, 9, 0, 1, 2, 3, 4, 5]
def pinRec : Bytes := pinRecord [1, 2, 3, 4]

def vrec4 : Bytes := pan ++ [4] ++ [0] ++ zeros 20

/-- A PIN block of 1234 in format 0, under the zero key. -/
def block0 : Bytes := (pinEncrypt (key 3 0) 0 pinRec pan (zeros 8)).toOption.getD []

theorem witness_KeyedSteps_values :
    (zeros 16).length % blockBytes 2 = 0 ∧ (zeros 17).length % blockBytes 2 ≠ 0 ∧
    good (pinEncrypt (key 3 0) 0 pinRec pan (zeros 8)) = true ∧ good (pinEncrypt (key 2 0) 0 pinRec pan (zeros 8)) = false ∧
    good (pinDecrypt (key 3 0) 0 block0 pan) = true ∧ good (pinDecrypt (key 3 0) 0 (zeros 8) pan) = false ∧
    good (pinTranslate (key 3 0) (key 3 2) 0 4 block0 pan (zeros 16)) = true ∧
    good (cvvOf (key 5 0) 0 (pan ++ [0x25, 0x12, 0x10, 0x1F, 0xFF, 0xFF])) = true ∧ good (cvvOf (key 5 2) 0 (zeros 16)) = false ∧
    good (digitsOf 3 [0x12, 0x3F]) = true ∧ good (dukptTdea (key 6 0) 1 [0xFF, 0xFF, 0x98, 0x76, 0x54, 0x32, 0x10, 0xE0, 0, 1]) = true ∧
    good (dukptAes (key 6 2) 0 2 (zeros 11 ++ [1])) = true ∧ good (emvMk (key 7 0) false pan [0]) = true ∧ good (emvSk (key 0x20 0) 0 [0, 1] (zeros 4)) = true ∧
    good (arqcVerify (key 0x21 0) 0 (zeros 16) (zeros 8)) = true ∧ good (arpcOf (key 0x21 0) 0 (zeros 8) [0, 0] (zeros 4)) = true ∧
    good (pinVerifyOffset (key 3 0) (key 4 0) 0 block0 vrec4 decTable) = true ∧ good (pinOffsetGen (key 3 0) (key 4 0) 0 block0 vrec4 decTable) = true ∧
    good (pvvMethod (key 3 0) (key 4 0) 0 block0 (pan ++ [1, 0, 0x12, 0x34] ++ zeros 18) true) = true ∧ vrec4.length = 32 ∧ (∀ x ∈ decTable.take 16, x.toNat ≤ 9) := by decide +kernel

theorem witness_KeyedSteps_complete :
    (key 3 0).alg ∈ pinAlgs 0 ∧ (key 3 2).alg ∈ pinAlgs 4 ∧ good (pinOfBlock (key 3 0) 0 block0 pan) = true ∧ good (pinOfRecord pinRec) = true ∧ good (panFor [0] pan) = true ∧
    good (panFor [0, 4] pan) = true ∧ good (pinOfField 0 (pinDecipher (CKey.of 0 (zeros 16)) 0 block0 (panField 0 ((panFor [0, 4] pan).toOption.getD [])))) = true ∧
    good (panDigits (cut 0 10 (pan ++ [0x25, 0x12]))) = true ∧ good (digitsOf 4 [0x25, 0x12]) = true ∧ good (digitsOf 3 [0x10, 0x1F]) = true ∧ good (digitsOf 2 [0]) = true ∧
    (setBits 21 1).length ≤ 10 ∧ (setBits 32 1).length ≤ 16 ∧ algBits 2 ≤ algBits 4 ∧ byteAt 10 vrec4 = 4 ∧ good (digitsOf 4 (cut 20 6 vrec4)) = true := by decide +kernel

/-- The header of a key block of a PIN encryption key, and such a block under a KEK. -/
def kbHead : Bytes := ascii "D0144P0AB00E0000"
def kbBlock : Bytes := kbWrap (key 8 4) (key 3 2) kbHead (zeros 30)

/-- Bytes that a draw gave. -/
def drew (d : Draw) : Option Nat :=
  match d with
  | .got b _ => some b.length
  | _ => none

theorem witness_KeyedSteps_blocks :
    good (kbWrapChecks (key 8 4) (key 3 2) kbHead 144) = true ∧ good (kbWrapChecks (key 8 4) (key 3 2) kbHead 143) = false ∧
    good (kbUnwrap (key 8 4) kbBlock 144 (some 3)) = true ∧ good (kbUnwrap (key 8 4) kbBlock 144 (some 1)) = false ∧
    drew (serve.draw 0 (kbPad 0x44 (key 3 2))) = some 30 ∧ drew (wired.draw 0 1) = none := by decide +kernel

/-- A tree of one root and one key below it and below a branch, in domain 0, and the handle of the key. -/
def rootNode : Node := { level := 2, usage := 0x0B, alg := 4, bitLen := 256, attrs := 1, wrapped := kwpWrap (derive (zeros 32) 0 1 0xFF 256) (zeros 32) }
def branchNode : Node := { level := 3, parent := 0, parentGen := 1, usage := 0x0A, alg := 4, bitLen := 256, attrs := 1, label := 1 }
def leafNode (usage alg : Nat) : Node :=
  { level := 4, parent := 0x1000, parentGen := 1, usage := usage, alg := alg, bitLen := algBits alg, attrs := 9, label := 1 }
def live (n : Node) : KSlot := { state := .live, gen := 1, node := some n }
def tree : KeyTree := { slots := [(0, live rootNode), (0x1000, live branchNode), (0x1001, live (leafNode 3 2)), (0x1002, live (leafNode 8 4)), (0x1003, live { leafNode 3 2 with attrs := 4, limit := 9 })] }
def handle (i : Nat) : Nat := handleOf i 1 0

/-- SERVE with that tree and two sets, of domain 0 and of domain 1. -/
def planted : Core :=
  { serve with cc := { serve.cc with kt := { tree with sets := [(3, { domain := 0, members := [handle 0x1001, 0, 0, 0, 0, 0, 0, 0] }), (4, { domain := 1 })] } } }

/-- What came of a resolution. -/
def outcome (r : Resolved) : Nat :=
  match r with
  | .ok _ _ => 0
  | .wait _ => 1
  | .fail _ => 2

/-- The dies of a step on the planted tree. -/
def plantedStep (op : Nat) (t : Task) : Core := { stepCore op t with cc := { (stepCore op t).cc with kt := planted.cc.kt } }

theorem witness_ResolvingSteps :
    (∀ op ∈ [0x70, 0x71, 0x80], works op 0 [] [] = true) ∧
    stepAt (plantedStep 0x70 (stepTask 0x70 0 (leBytes 6 (handle 0x1001)) [])) 0x70 { stepTask 0x70 0 (leBytes 6 (handle 0x1001)) [] with disp := 1 } = true ∧
    outcome (planted.resolve (0, 17) (handle 0x1001) 0 0 0 { use := true, random := 0, counter := 0 }) = 0 ∧
    outcome (planted.resolve (0, 17) (handle 0x1003) 0 0 0 { use := true, random := 0, counter := 0 }) = 1 ∧
    outcome (planted.resolve (0, 17) 0 0 0 0 { use := true, random := 0, counter := 0 }) = 2 ∧
    (2 ^ 47 + 3 : Nat).testBit 47 = true ∧ Table.find 3 planted.cc.kt.sets = some { domain := 0, members := [handle 0x1001, 0, 0, 0, 0, 0, 0, 0] } ∧
    Table.find 5 planted.cc.kt.sets = none ∧ (Table.find 4 planted.cc.kt.sets).map (·.domain) = some 1 := by decide +kernel

/-- The digits of an entry of one prefix digit. -/
def prefix_ (d : Nat) : List Nat := d :: List.replicate 18 15

/-- SERVE with a route of domain 0 and one of domain 1 in the Sieve, and with no usable bank. -/
def routed : Core := { serve with siv := { serve.siv with table := [(0, { digits := prefix_ 4, keyset := 3 }), (1, { digits := prefix_ 5, domain := 1 })] } }
def bankless : Core := { serve with siv := { serve.siv with usable := [false, false] } }

theorem witness_ResolvingSteps_lookup :
    good (panDigits (zeros 10)) = false ∧ good (panDigits pan) = true ∧ (bankless.lookupWord 0 [4] 0 false []).2 = none ∧
    (routed.lookupWord 0 [6] 0 false []).2 = some 0 ∧ ((routed.lookupWord 0 [4] 0 false []).2.map (fun w => w / 2 ^ 18 % 2 ^ 12)) = some 0 ∧
    ((routed.lookupWord 0 [5] 0 false []).2.map (fun w => w / 2 ^ 18 % 2 ^ 12)) = some 1 := by decide +kernel

theorem witness_RoundTripsOfData :
    (4 ≤ [1, 2, 3, 4].length ∧ [1, 2, 3, 4].length ≤ 12 ∧ ∀ d ∈ [1, 2, 3, 4], d ≤ 9) ∧ 5 ≤ 5 ∧ (zeros 32).length % (CKey.of 2 (zeros 16)).n = 0 ∧
    (zeros 16).length = (CKey.of 2 (zeros 16)).n ∧ (2 ^ 48 - 1 < 2 ^ 48) := by decide +kernel

/-- A block cipher under an AES key answers as many bytes as it takes. -/
theorem witness_RoundTripsOfData_length : ((CKey.of 2 (zeros 16)).enc (zeros 16)).length = (CKey.of 2 (zeros 16)).n := by decide +kernel

/-- Keys of public-key algorithms on P-256, and a signature under the private one. -/
def ecPub : Bytes := beBytes 1 4 ++ beBytes 32 p256.gx ++ beBytes 32 p256.gy
def ecKey (usage : Nat) : Ctx := { key usage 0x11 with bitLen := 256, key := beBytes 32 1, pub := ecPub }

/-- A PK_DIRECT task on a big-number core. -/
def pkTask (op param key0 : Nat) (src : Bytes) (keys : List Ctx) : Task :=
  { opTask clsPk op param key0 src 4096 with st := .running, disp := 1, ctxs := (List.range keys.length).map (fun i => (i + 1, keys.getD i {})) }

/-- The block with the first step of a task on a core. -/
def onCore (t : Task) : Core := { withTask serve t with eng := { jobs := [(256 * 3, { run := some { tid := 0, step := 0 } })] } }

/-- An operation of PK_DIRECT at work with its check passed. -/
def pkWorks (op : Nat) (t : Task) : Bool :=
  decide ((onCore t).task 0 = some t) && (onCore t).atWork 0 t 0 && decide (t.opclass = clsPk) && decide (t.opcode = op) && t.checked.testBit 0

theorem witness_BigNumberWork :
    (∀ op ∈ [0x400, 0x401, 0x402, 0x403, 0x404, 0x405, 0x406], pkWorks op { pkTask op 7 0 [] [ecKey 0x10] with checked := 1 } = true) ∧
    (pkTask 0x400 7 0 [] [ecKey 0x10]).ksel 1 = some (ecKey 0x10) ∧ (pkTask 0x400 7 0 [] [ecKey 0x10]).stepClass 0 = some 3 ∧
    (pkTask 0x400 7 0 [] [ecKey 0x10]).checked.testBit 0 = false ∧ (pkTask 0x405 (8 * 2 ^ 16) 0 (zeros 24) []).pkPhase ≠ none ∧
    (pkTask 0x400 7 0 [] [ecKey 0x10]).pkPhase = none := by decide +kernel

theorem witness_BigNumberWork_steps :
    (∀ op ∈ [0x60, 0x61, 0x62], works op 7 [] [ecKey 0x10] = true) ∧
    good ((stepTask 0x60 7 [] [ecKey 0x10]).bnKey (imgStep (stepTask 0x60 7 [] []).image 0)) = true ∧
    good ((stepTask 0x61 7 [] [ecKey 0x11]).bnKey (imgStep (stepTask 0x61 7 [] []).image 0)) = true ∧
    good ((stepTask 0x62 1 [] [ecKey 0x12]).bnKey (imgStep (stepTask 0x62 1 [] []).image 0)) = true ∧
    (stepTask 0x60 7 [] [ecKey 0x11]).stepPhase (imgStep (stepTask 0x60 7 [] []).image 0) ≠ none ∧
    (stepTask 0x60 7 [] [ecKey 0x10]).stepPhase (imgStep (stepTask 0x60 7 [] []).image 0) = none ∧
    (withTask serve { pkTask 0x400 7 0 [] [] with disp := 1, done := 1, flags := 0x1FF }).atWork 0 { pkTask 0x400 7 0 [] [] with disp := 1, done := 1, flags := 0x1FF } 1 = true := by decide +kernel

/-- A BULK task at work on an engine. -/
def bkTask (op param : Nat) (src inl : Bytes) (keys : List Ctx) : Task :=
  { opTask clsBulk op param 0 src 65536 with
    st := .running, disp := 1, ctxs := (List.range keys.length).map (fun i => (i + 1, keys.getD i {}))
    entry := patch 54 ([byte inl.length] ++ zeros 1 ++ inl) (entry clsBulk op param 0 src.length 65536) }
def bulkCore (t : Task) : Core :=
  { withTask serve t with eng := { jobs := [(256 * (if t.bkHash then 2 else 1), { run := some { tid := 0, step := 0 } })] } }
def bkWorks (op : Nat) (t : Task) : Bool :=
  decide ((bulkCore t).task 0 = some t) && (bulkCore t).atWork 0 t 0 && decide (t.opclass = clsBulk) && decide (t.opcode = op)

theorem witness_BulkSegments :
    (∀ op ∈ [0x500, 0x501, 0x502, 0x503, 0x504, 0x505, 0x506, 0x507, 0x508], bkWorks op (bkTask op 0 (zeros 16) [] [key 1 2]) = true) ∧
    (bkTask 0x500 0 (zeros 16) [] [key 1 2]).ksel 1 = some (key 1 2) ∧ ((bulkCore (bkTask 0x500 0 (zeros 16) [] [key 1 2])).bulkIv 0 (bkTask 0x500 0 (zeros 16) [] [key 1 2]) (key 1 2)).2.isSome = true ∧
    (bkTask 0x500 1 (zeros 16) [] []).bkLast = true ∧ (bkTask 0x506 0 (zeros 4097) [] []).bkLast = false ∧
    ((bulkCore (bkTask 0x500 0x10 (zeros 16) [] [key 1 2])).bulkIv 0 (bkTask 0x500 0x10 (zeros 16) [] [key 1 2]) (key 1 2)).2 = none ∧ (bkTask 0x501 0 [] [] []).drawsIv = false ∧
    (bkTask 0x500 0x10 [] [] []).bkIvsrc = 1 ∧ (bkTask 0x500 0x20 [] [] []).bkIvsrc = 2 ∧ (bkTask 0x500 0x10 [] [] []).rnd = [] := by decide +kernel

/-- A GCM message sealed under the zero key with a 16-byte tag, and one whose tag is wrong. -/
def sealed : Bytes := gcmCrypt (CKey.of 2 (zeros 16)) (zeros 12) 0 (zeros 16) ++
  gcmTag (CKey.of 2 (zeros 16)) (zeros 12) ((bkTask 0x503 (16 * 256) (zeros 32) (zeros 12) []).gcmEnd (CKey.of 2 (zeros 16))
    ((bkTask 0x503 (16 * 256) (zeros 32) (zeros 12) []).gcmAcc (CKey.of 2 (zeros 16)) (gcmCrypt (CKey.of 2 (zeros 16)) (zeros 12) 0 (zeros 16))))

theorem witness_BulkSegments_gcm :
    let t := { bkTask 0x503 (16 * 256) sealed (zeros 12) [key 1 2] with tagIn := sealed.drop 16 }
    bkWorks 0x503 t = true ∧ t.bkLast = true ∧ t.pass2 = false ∧ t.bkTwoPass = false ∧
    (gcmTag (CKey.of 2 (zeros 16)) (zeros 12) (t.gcmEnd (CKey.of 2 (zeros 16)) (t.gcmAcc (CKey.of 2 (zeros 16)) t.bkSeg))).take t.bkTlen = t.tagIn ∧
    (gcmTag (CKey.of 2 (zeros 16)) (zeros 12) (t.gcmEnd (CKey.of 2 (zeros 16)) (t.gcmAcc (CKey.of 2 (zeros 16)) t.bkSeg))).take t.bkTlen ≠ zeros 16 := by decide +kernel

/-- A long message whose tag has been checked: the second pass. -/
def longOpen : Task := { bkTask 0x503 (16 * 256) [] (zeros 12) [key 1 2] with entry := patch 54 ([byte 12] ++ zeros 1 ++ zeros 12) (entry clsBulk 0x503 (16 * 256) 0 65553 65537) }
theorem witness_BulkSegments_second_pass :
    longOpen.bkTwoPass = true ∧ longOpen.bkLast = false ∧ (bkWorks 0x503 { longOpen with pass2 := true } = true) ∧
    ({ longOpen with seg := longOpen.bkSegments - 1, pass2 := true } : Task).bkLast = true := by decide +kernel

/-! ### Operations without steps, the recipe library, the key tree -/

/-- An operation of a class and code at work. -/
def opAt (c : Core) (cls op : Nat) (t : Task) : Bool :=
  decide (c.task 0 = some t) && decide (t.st = .admitted) && decide (t.opclass = cls) && decide (t.opcode = op) && covers t.flags 0x5F && c.leaseHeld &&
    (decide (cls ≠ clsAdmin) || c.dispatching) && !c.cc.behind 0 t

theorem opAt_sound {c : Core} {cls op : Nat} {t : Task} (h : opAt c cls op t = true) : c.OpAt 0 cls op t := by
  simp only [opAt, Bool.and_eq_true, Bool.or_eq_true, Bool.not_eq_true', decide_eq_true_eq] at h
  obtain ⟨⟨⟨⟨⟨⟨⟨h1, h2⟩, h3⟩, h4⟩, h5⟩, h6⟩, h7⟩, h8⟩ := h
  exact ⟨h1, h2, h3, h4, h5, h6, fun x => h7.resolve_left (fun n => n x), h8⟩

theorem witness_OperationsEnd :
    (∀ op ∈ [0x100, 0x101, 0x102, 0x200, 0x201, 0x202, 0x203, 0x204, 0x205, 0x206, 0x207, 0x208, 0x209, 0x210, 0x211, 0x212, 0x600, 0x601, 0x602, 0x603, 0x604],
      opAt (withTask serve (opTask clsAdmin op 0 0 [] 0)) clsAdmin op (opTask clsAdmin op 0 0 [] 0) = true) ∧
    (∀ op ∈ [0x300, 0x301, 0x302, 0x303, 0x304, 0x305, 0x306, 0x307, 0x308, 0x309, 0x30A, 0x30B, 0x30C, 0x310, 0x311, 0x312, 0x313, 0x320, 0x321, 0x330, 0x331, 0x332, 0x340],
      opAt (withTask serve (opTask clsCustody op 0 0 [] 0)) clsCustody op (opTask clsCustody op 0 0 [] 0) = true) ∧
    (opTask clsCustody 0x300 0 0 [] 0).strictFail = none ∧ (opTask clsCustody 0x300 0 0 [] 0).expanding = false ∧ Table.wf (withTask serve (opTask clsCustody 0x300 0 0 [] 0)).cc.tasks = true ∧
    serve.cc.cust = serve.cc.cust ∧ ({ serve.cc.cust with xfer := 1 } : Custody) ≠ serve.cc.cust := by decide +kernel

/-- With no task there is no operation at work. -/
theorem witness_OperationsEnd_idle (cls op : Nat) : ∀ t, ¬ serve.OpAt 0 cls op t := fun t h => by
  have e : serve.task 0 = none := by decide
  have e' := h.task
  rw [e] at e'
  exact absurd e' (by simp)

/-- A recipe of one step that fills eight bytes and is accepted at registration, and a library that holds it. -/
def goodRecipe : Bytes := [1, 0, 1, 1] ++ zeros 124 ++ leBytes 8 (0x03 * 2 ^ 32) ++ leBytes 8 (word 0xA5 0 8 0 0 0)
def stocked : Core := { serve with cc := { serve.cc with lib := [(2, { image := goodRecipe }), (3, { image := goodRecipe, retiring := true })] } }

theorem witness_LibraryOperations :
    serve.registerTests 0 2 goodRecipe = none ∧ (serve.registerTests 0 2 (zeros 8)).isSome = true ∧ Table.find 2 serve.cc.lib = none ∧
    (Table.find 2 stocked.cc.lib).isSome = true ∧ stocked.registerTests 0 2 goodRecipe = none ∧ (Table.find 3 stocked.cc.lib).map (·.retiring) = some true ∧
    (imgPorts goodRecipe).testBit 0 = true ∧ (imgPorts goodRecipe).testBit 1 = false ∧ (goodRecipe ++ sha256 goodRecipe).length ≤ 176 ∧ 175 < (goodRecipe ++ sha256 goodRecipe).length ∧
    (opTask clsAdmin 0x100 2 0 goodRecipe 0).source = goodRecipe := by decide +kernel

/-- A commit of the library that is glazed, for a task that waits for it. -/
def libTask : Task := { opTask clsAdmin 0x100 2 0 goodRecipe 0 with st := .committing }
def registered : Core :=
  let c := withTask stocked libTask
  { c with cc := { c.cc with libCommits := [{ epoch := 0, tid := 0, slot := 2, gen := 1, image := some goodRecipe }] } }

theorem witness_LibraryOperations_commit :
    registered.cc.libCommits = { epoch := 0, tid := 0, slot := 2, gen := 1, image := some goodRecipe } :: [] ∧ registered.leaseHeld = true ∧ 0 ≤ registered.cont.glazed ∧
    registered.cont.glazed < 1 ∧ registered.task 0 = some libTask ∧ libTask.st = .committing ∧ libTask.opclass = clsAdmin ∧ libTask.strictFail = none ∧ libTask.fenced = false ∧
    libTask.runningSteps = [] ∧ libTask.expanding = false ∧ Table.wf registered.cc.tasks = true ∧ serve.cc.libCommits = [] := by decide +kernel

/-- A creation request (R250). -/
def request (label usage alg size flags limit : Nat) : Bytes :=
  beBytes 8 label ++ [byte usage, byte alg] ++ leBytes 2 size ++ [byte flags] ++ zeros 3 ++ leBytes 5 limit ++ zeros 3 ++ zeros 8

/-- An operation of the key tree on the planted tree. -/
def ktTask (op param key0 : Nat) (src : Bytes) (dst : Nat) : Task := opTask clsAdmin op param key0 src dst
def ktCore (t : Task) : Core := withTask planted t

/-- The parent that a node of the planted tree is. -/
def parentAt (i : Nat) : Parent := { index := i, gen := 1, node := (planted.cc.kt.slot i).node.getD {} }

/-- The request of some bytes. -/
def reqOf (b : Bytes) : Req := (readReq b).getD { label := 0, usage := 0, alg := 0, bitLen := 0, flags := 0, limit := 0, owner := [], raw := [] }

/-- A child with a label has the raw request. -/
def childRaw (c : Core) (p : Parent) (r : Req) : Option Bool := (c.cc.kt.childWith p r.label).map (fun y => y.2.2.request == r.raw)

theorem witness_KeyCreation :
    let b := request 7 3 2 0 0 0
    let t := ktTask 0x200 0 (handle 0x1000) b 0
    opAt (ktCore t) clsAdmin 0x200 t = true ∧ planted.domainAllowed 0 0 = true ∧ t.formOk 0xFFF true false (some 32) 0 = true ∧ readReq t.source = some (reqOf b) ∧
    good ((ktCore t).opKey 0 t t.key0 0 1) = true ∧ good (planted.levelChecks (parentAt 0x1000) (reqOf b) .derived false) = true ∧
    good (planted.attrChecks (parentAt 0x1000) (reqOf b) true) = true ∧ childRaw planted (parentAt 0x1000) (reqOf b) = none ∧ good planted.takeSlot = true ∧
    childRaw planted (parentAt 0x1000) (reqOf (request 1 3 2 0 0 0)) = some false := by decide +kernel

/-- The planted tree with a key whose request is known. -/
def again : Core :=
  { planted with cc := { planted.cc with kt := { planted.cc.kt with slots := planted.cc.kt.slots.map (fun e =>
      if e.1 = 0x1001 then (e.1, live { leafNode 3 2 with request := request 1 3 2 0 0 0 }) else e) } } }

theorem witness_KeyCreation_again : childRaw again (parentAt 0x1000) (reqOf (request 1 3 2 0 0 0)) = some true := by decide +kernel

/-- The planted tree with core 0 and the given spares alone usable, and the same once core 0's pairwise check has failed. -/
def lastCore (spares : List Nat) : Core :=
  { planted with eng := { planted.eng with bad := ((classEngines planted.g.variant 3).filter (fun n => n != 0 && !spares.contains n)).map (engKey 3) } }
def pairwiseMarked (c : Core) : Core := (c.countCheck 3 0 false).markBad 3 0

theorem witness_KeyCreation_generated :
    let b := request 7 0x10 0x11 0 0 0
    let t := { ktTask 0x201 0 (handle 0x1000) b 65 with rnd := zeros 64 }
    opAt (ktCore t) clsAdmin 0x201 t = true ∧ good (planted.levelChecks (parentAt 0x1000) (reqOf b) .generated false) = true ∧
    good (planted.attrChecks (parentAt 0x1000) (reqOf b) true) = true ∧ pubBytes (reqOf b).alg (reqOf b).bitLen ≤ t.dstLen ∧ algSymmetric 2 = true ∧
    t.rnd ≠ [] ∧ good (planted.genKey 0x11 256 t.rnd) = true ∧ good (planted.pairwise 0 t []) = true ∧ good (planted.pairwise 0 t [0]) = true ∧ good (planted.pairwise 0 t [0, 1]) = false ∧
    good (planted.pairwise 0 { t with failed := 2 ^ 32 } [0]) = false ∧ (let a := pairwiseMarked (lastCore []); a.enginesUp 3 = [] ∧ a.capCount 3 = 0) ∧
    (let a := pairwiseMarked (lastCore (planted.sparesLeft 3)); a.enginesUp 3 = [] ∧ a.capCount 3 ≠ 0) ∧
    ([0, 1] : List Nat).filter ((planted.enginesUp 3).contains ·) = 0 :: [1] ∧ childRaw planted (parentAt 0x1000) (reqOf b) = none ∧ readReq t.source = some (reqOf b) := by decide +kernel

theorem witness_KeyCreation_rolled :
    let b := request 7 3 2 0 0 0
    let t := ktTask 0x204 0 (handle 0x1001) b 0
    opAt (ktCore t) clsAdmin 0x204 t = true ∧ 3 ≤ (leafNode 3 2).level ∧ (planted.cc.kt.slot 0x1000).node = some branchNode ∧
    good ((ktCore t).material 0 t (reqOf b) .derived []) = true ∧ (planted.cc.kt.slot 0x1000).state = .live ∧ (planted.cc.kt.slot 0x1000).gen = 1 := by decide +kernel

theorem witness_KeyCreation_imported :
    let b := request 7 3 2 0 1 0 ++ kbBlock
    let t := { ktTask 0x202 0 (handle 0x1000) b 0 with entry := patch 24 (leBytes 6 (handle 0x1002)) (entry clsAdmin 0x202 0 (handle 0x1000) b.length 0) }
    let pub := request 7 0x11 0x11 0 0 0 ++ ecPub
    let u := ktTask 0x202 0x10000 (handle 0x1000) pub 0
    opAt (ktCore t) clsAdmin 0x202 t = true ∧ 32 ≤ t.srcLen ∧ t.formOk 0xF0FFF true true none 0 = true ∧ good ((ktCore t).opKeys 0 t 0) = true ∧
    (readReq (t.source.take 32)).isSome = true ∧ byteAt 11 (t.source.drop 32) = 0x45 ∧ good (kbUnwrap (key 8 4) (t.source.drop 32) 144 (some 3)) = true ∧
    good (planted.levelChecks (parentAt 0x1000) (reqOf (b.take 32)) .imported false) = true ∧ good (planted.attrChecks (parentAt 0x1000) (reqOf (b.take 32)) true) = true ∧
    opAt (ktCore u) clsAdmin 0x202 u = true ∧ u.param / 2 ^ 16 % 16 = 1 ∧ u.formOk 0xF0FFF true false none 0 = true ∧ ecPub.length = pubBytes 0x11 256 ∧
    good (planted.levelChecks (parentAt 0x1000) (reqOf (pub.take 32)) .imported true) = true ∧ importFault (reqOf (pub.take 32)) ecPub = none := by decide +kernel

theorem witness_KeyCreation_placed : Table.wf planted.cc.kt.slots = true ∧ 0x1004 ≠ 0x1000 ∧ 3 ≤ branchNode.level + 1 ∧ (planted.cc.kt.slot 0x1000).lastGen = 1 := by decide +kernel

/-- The planted tree with the quorum of the domain met by two tokens of a digest. -/
def quorate (digest : Bytes) (c : Core) : Core :=
  { c with cc := { c.cc with cust := { c.cc.cust with
      groups := [(0, { keys := [(0, zeros 96), (1, zeros 96)] }), (0xFFFF, { keys := [(0, zeros 96), (1, zeros 96)] })]
      tokens := [{ group := 0, position := 0, digest := digest, challenge := [], expiry := 5 }, { group := 0, position := 1, digest := digest, challenge := [], expiry := 5 },
        { group := 0xFFFF, position := 0, digest := digest, challenge := [], expiry := 5 }, { group := 0xFFFF, position := 1, digest := digest, challenge := [], expiry := 5 }] } } }

/-- The same for a task's own command. -/
def backed (c : Core) (t : Task) : Core := quorate (t.commandDigest t.source) c

theorem witness_KeyOperations_voids :
    let t := ktTask 0x203 0 (handle 0x1001) [] 0
    let u := ktTask 0x212 0 (handle 0) [] 0
    opAt (ktCore t) clsAdmin 0x203 t = true ∧ t.formOk 0xFFF true false (some 0) 0 = true ∧ good ((ktCore t).opKey 0 t t.key0 0 1) = true ∧ (leafNode 3 2).level ≠ 2 ∧
    opAt (ktCore u) clsAdmin 0x212 u = true ∧ good ((ktCore u).opKey 0 u u.key0 0 1) = true ∧ rootNode.level = 2 ∧ good ((backed (ktCore u) u).gateTask u 0) = true ∧
    good ((ktCore u).gateTask u 0) = false ∧ good ((ktCore t).opKey 0 t 0 0 1) = false := by decide +kernel

/-- A task of two handles. -/
def twoKeys (op k0 k1 : Nat) (src : Bytes) (dst : Nat) : Task :=
  { ktTask op 0 k0 src dst with entry := patch 24 (leBytes 6 k1) (entry clsAdmin op 0 k0 src.length dst) }

/-- The planted tree with an exportable key. -/
def exporting : Core :=
  { planted with cc := { planted.cc with kt := { planted.cc.kt with slots := planted.cc.kt.slots.map (fun e =>
      if e.1 = 0x1001 then (e.1, live { leafNode 3 2 with attrs := 1 }) else e) } } }

theorem witness_KeyOperations_export :
    let t := twoKeys 0x205 (handle 0x1001) (handle 0x1002) kbHead 144
    let u := twoKeys 0x205 (handle 0x1000) (handle 0x1002) kbHead 144
    opAt (withTask exporting t) clsAdmin 0x205 t = true ∧ t.formOk 0xFFF true true (some 16) 0 = true ∧ good ((withTask exporting t).opKeys 0 t 0) = true ∧
    good (kbWrapChecks (key 8 4) (key 3 2) t.source t.dstLen) = true ∧ drew ((withTask exporting t).draw 0 30) = some 30 ∧ Table.find 32 t.draws = none ∧ branchNode.usage = Usage.branch ∧
    good ((withTask exporting u).opKeys 0 u 0) = true := by decide +kernel

theorem witness_KeyOperations_inquiries :
    let t := ktTask 0x206 0 (handle 0x1001) [] 64
    let u := ktTask 0x207 0 (handle 0x1001) (zeros 32) 224
    opAt (ktCore t) clsAdmin 0x206 t = true ∧ good (planted.findNode (handle 0x1001) 0 0) = true ∧ t.formOk 0xFFF true false (some 0) 64 = true ∧
    opAt (ktCore u) clsAdmin 0x207 u = true ∧ planted.g.mode ≠ .analysis ∧ u.formOk 0xFFF true false (some 32) 224 = true ∧ hGen (handle 0x1001) = 1 ∧
    planted.cc.kt.chainOk 4 (leafNode 3 2) = true ∧ (leafNode 3 2).attrs.testBit 3 = true ∧ (1 : Nat).testBit 3 = false ∧ hGen (handleOf 0x1001 2 0) ≠ 1 ∧
    opAt (ktCore (ktTask 0x208 0 0 [] 0)) clsAdmin 0x208 (ktTask 0x208 0 0 [] 0) = true := by decide +kernel

/-- KT_CHAIN's form, whatever the vendor's chain is long: a supported length is a length of 24 bits. -/
theorem witness_KeyOperations_chain : (ktTask 0x208 0 0 [] (2 ^ 24 - 1)).dstLen = 2 ^ 24 - 1 ∧ (ktTask 0x208 0 0 [] 0).param = 0 := by decide +kernel

/-- The source of KT_SET_WRITE. -/
def setSource (i d : Nat) (members : List Nat) : Bytes := leBytes 4 i ++ leBytes 2 d ++ zeros 2 ++ (members.map (leBytes 6)).flatten ++ zeros 8

theorem witness_KeyOperations_sets :
    let t := ktTask 0x209 0 0 (setSource 9 0 ([handle 0x1001] ++ List.replicate 7 0)) 0
    opAt (ktCore t) clsAdmin 0x209 t = true ∧ t.formOk 0xFFF false false (some 64) 0 = true ∧ allZero (cut 6 2 t.source) = true ∧ allZero (cut 56 8 t.source) = true ∧
    leNat (cut 4 2 t.source) = 0 ∧ leNat (cut 0 4 t.source) < Config.sieveEntries planted.g.variant ∧ leNat (cut 8 6 t.source) = handle 0x1001 ∧
    good (planted.liveNode (handle 0x1001) 0 0) = true := by decide +kernel

/-- SERVE with a complete component session for the root of domain 0, and the source that names it. -/
def rooting : Core :=
  { serve with cc := { serve.cc with cust := { serve.cc.cust with
      sessions := [(2, { domain := 0, parent := 0, parentGen := 0, request := request 0 0x0B 4 0 0 0, count := 2, given := [0, 1], acc := zeros 32, expiry := 9, complete := true })] } } }
def rootSource : Bytes := leBytes 4 2 ++ kcvOf 4 (zeros 32) ++ zeros 9

theorem witness_KeyOperations_roots :
    let t := ktTask 0x210 0 0 (request 0 0x0B 4 0 0 0) 0
    let u := ktTask 0x211 0 0 rootSource 0
    let v := { rooting with cc := { rooting.cc with cust := { (backed rooting u).cc.cust with sessions := rooting.cc.cust.sessions } } }
    opAt (withTask serve t) clsAdmin 0x210 t = true ∧ t.formOk 0xFFF false false (some 32) 0 = true ∧ (readReq t.source).isSome = true ∧
    good (serve.rootChecks (reqOf (request 0 0x0B 4 0 0 0))) = true ∧ (serve.cc.kt.slot 0).state ≠ .live ∧ (serve.cc.kt.slot 0).state ≠ .retired ∧
    good ((backed (withTask serve t) t).gateTask t 0) = true ∧ t.strictFail = none ∧
    opAt (withTask v u) clsAdmin 0x211 u = true ∧ u.formOk 0xFFF false false (some 16) 0 = true ∧ allZero (cut 7 9 u.source) = true ∧
    (Table.find (leNat (cut 0 4 u.source)) v.cc.cust.sessions).map (fun x => x.complete && later x.expiry v.now) = some true ∧
    kcvOf 4 (zeros 32) = cut 4 3 u.source ∧ good (v.gateTask u 0) = true ∧ v.g.mode ≠ .analysis := by decide +kernel

theorem witness_KeyOperations_voids_and_gate :
    Table.wf planted.cc.kt.slots = true ∧ (planted.cc.kt.slot 0x1001).gen ≠ 0xFFFF ∧ (live (leafNode 3 2)).gen = 1 ∧ ({ live (leafNode 3 2) with gen := 0xFFFF } : KSlot).gen = 0xFFFF ∧
    2 ≤ (quorate [1] planted).cc.cust.tokensFor planted.now 0 [1] ∧ (quorate [1] planted).cc.cust.tokensFor planted.now 0 [2] < 2 := by decide +kernel

/-- The planted tree with a commit of a creation that is glazed. -/
def ktWaiting : Task := { ktTask 0x200 0 (handle 0x1000) [] 0 with st := .committing }
def committing : Core :=
  let c := ktCore ktWaiting
  { c with cc := { c.cc with ktCommits := [{ no := 1, epoch := 0, tid := some 0, node := none, recs := [voidRec 0x1001 1 (leafNode 3 2)] }], kt := { c.cc.kt with sweeps := [(0x1000, 1, 3)] } } }

theorem witness_KeyTreeEvents :
    committing.cc.ktCommits = { no := 1, epoch := 0, tid := some 0, node := none, recs := [voidRec 0x1001 1 (leafNode 3 2)] } :: [] ∧ committing.flash.commitNo < 1 ∧ committing.leaseHeld = true ∧ 0 ≤ committing.cont.glazed ∧
    committing.cont.glazed < 1 ∧ committing.task 0 = some ktWaiting ∧ ktWaiting.st = .committing ∧ ktWaiting.fenced = false ∧ ktWaiting.runningSteps = [] ∧
    Table.wf committing.cc.tasks = true ∧ ktWaiting.expanding = false ∧
    ({ planted.flash with journals := [{ next := some [] }, {}] } : Flash).journals.any (·.next.isSome) = true ∧ planted.flash.journals.any (·.next.isSome) = false ∧
    committing.cc.kt.sweeps = (0x1000, 1, 3) :: [] ∧ (committing.cc.kt.slot 0x1000).node = some branchNode ∧ 0x1001 ∈ committing.cc.kt.descendants 0x1000 1 3 ∧
    0 ∉ committing.cc.kt.descendants 0x1000 1 3 ∧ Table.wf committing.cc.kt.slots = true ∧ serve.cc.kt.sweeps = [] ∧ (at_ serve).manages ∧
    (1 ≠ 0 ∧ (at_ split).reaches 1) := by decide +kernel

/-- A recipe that needs KEY0, and one whose key is of the wrong kind. -/
def keyed (h : Nat) : Task := { recipe [(0x20, word 0 1 16 0 0 0)] [] with st := .admitted, flags := 0xF3, entry := entry 1 0 0 h 0 0 }

theorem witness_KeyTreeEvents_resolution :
    let u := { opTask clsPk 0x400 0 (handle 0x1001) [] 0 with flags := 0xF3 }
    (ktCore (keyed (handle 0x1001))).task 0 = some (keyed (handle 0x1001)) ∧ (ktCore (keyed 0)).dispatching = true ∧ (keyed 0).flags.testBit 2 = false ∧ (keyed 0).flags.testBit 3 = false ∧
    outcome (planted.resolve (0, 1) (handle 0x1001) 0 0 0 ((keyed 0).uses 1)) = 0 ∧ (keyed 0).keyCheck (key 3 2) = none ∧ u.keyCheck (key 3 2) ≠ none ∧
    outcome (planted.resolve (0, 1) (handle 0x1003) 0 0 0 { use := true, random := 0, counter := 0 }) = 1 ∧ outcome (planted.resolve (0, 1) 5 0 0 0 ((keyed 0).uses 1)) = 2 := by decide +kernel

/-! ### Custody, fleet transfer, the trusted path, the Sieve -/

/-- A custodian's public key, of private scalar 1; an object with its signature of 96 bytes. -/
def custodian : Bytes := beBytes 48 p384.gx ++ beBytes 48 p384.gy
def signed (sig : Nat) (m : Bytes) : Bytes := m ++ beBytes 96 sig

/-- A CUSTODY operation of port 0. -/
def cuTask (op param key0 : Nat) (src : Bytes) (dst : Nat) : Task := opTask clsCustody op param key0 src dst

/-- SERVE with two custodians of domain 0 and of the unit group, and one challenge. -/
def challenge : Challenge := { value := zeros 32, expiry := 7, port := 0 }
def staffed : Core :=
  { serve with cc := { serve.cc with cust := { serve.cc.cust with
      groups := [(0, { keys := [(0, custodian), (1, custodian)] }), (0xFFFF, { keys := [(0, custodian), (1, custodian), (2, custodian)] })]
      challenges := [(5, challenge)] } } }

/-- A token of a group, position and purpose for a digest, with its signature. -/
def token (group position purpose : Nat) (digest : Bytes) (sig : Nat) : Bytes :=
  signed sig (ascii "CAT1" ++ beBytes 12 serve.lcs.serial ++ beBytes 2 group ++ [byte position, byte purpose] ++ zeros 32 ++ digest ++ zeros 4)

def token011 : Bytes := token 0 1 1 (zeros 48)
  0x97c1209a665effa46d5b41cbaebdffde585e7d75f2c0f86c95b4d36b597afb875631eca66a5ea0b415d5f9910d1b011b3f61f37d4061a539587fb894068cdeadb9d8c647a810a4d458ef519c2eb64f48ea2b296f011f6c1816ab3579cc244687

theorem witness_CustodianOperations_challenges :
    opAt (withTask serve (cuTask 0x300 0 0 [] 32)) clsCustody 0x300 (cuTask 0x300 0 0 [] 32) = true ∧ (cuTask 0x300 0 0 [] 32).formOk 0 false false (some 0) 32 = true ∧
    (staffed.cc.cust.openChallenges staffed.now).length < 256 ∧ Table.freeKey 256 (staffed.cc.cust.openChallenges staffed.now) = some 0 ∧ serve.constructed = false ∧
    drew (serve.draw 0 32) = some 32 ∧ wired.ent.run = false ∧ (inMode serve .safeHalt).constructed = true ∧
    ((List.replicate 64 (0, challenge)).filter (fun e => e.2.port == 0)).length = 64 ∧ Table.find 5 staffed.cc.cust.challenges = some challenge ∧
    Table.find 6 staffed.cc.cust.challenges = none := by decide +kernel

theorem witness_CustodianOperations_tokens :
    let t := cuTask 0x301 0 0 token011 0
    let u := cuTask 0x302 0 0 (zeros 48) 0
    opAt (withTask staffed t) clsCustody 0x301 t = true ∧ t.formOk 0 false false none 0 = true ∧ tokenForm t.source 1 = true ∧ tokenForm (zeros 200) 1 = false ∧
    (staffed.cc.cust.validTokens staffed.now).length < 64 ∧ good (staffed.checkObject t.source 0 1 104 (zeros 32) none) = true ∧
    opAt (withTask staffed u) clsCustody 0x302 u = true ∧ u.formOk 0 false false (some 48) 0 = true := by decide +kernel

theorem witness_CustodianOperations_objects :
    let b := token011
    cut 4 12 b = staffed.serialBytes ∧ cut 4 12 (zeros 200) ≠ staffed.serialBytes ∧ staffed.cc.cust.challengeOf staffed.now (zeros 32) = some (5, challenge) ∧
    serve.cc.cust.challengeOf serve.now (zeros 32) = none ∧ Table.find 9 (staffed.cc.cust.group 0).keys = none ∧ Table.find 1 (staffed.cc.cust.group 0).keys = some custodian ∧
    (p384Valid ((4 : Byte) :: custodian) && p384Verify ((4 : Byte) :: custodian) (b.take 104) (cut 104 96 b)) = true ∧
    (p384Valid ((4 : Byte) :: custodian) && p384Verify ((4 : Byte) :: custodian) (b.take 103) (cut 104 96 b)) = false := by decide +kernel

/-- An enrolment of a third custodian, with its proof of possession. -/
def enrolment (g : Nat) : Task :=
  let t := cuTask 0x303 (g + 2 * 2 ^ 16) 0 (zeros 296) 0
  cuTask 0x303 (g + 2 * 2 ^ 16) 0 (custodian ++ token g 2 2 (t.commandDigest (custodian ++ zeros 200))
    0xb99292aa171fa69cca1ea8c9edb07ac4fe39bd91b8d7d460d9c7c9a34db8c911c311097e8fac7b4888592bff328d5b2d3fb4d28e0e4e507886ef92388c6129c3c3d854a488822c3cc8f2c9157f2569fc74d94e3dd86669d6fa1a560cd0578c1a) 0

theorem witness_CustodianOperations_enrolment :
    let t := enrolment 0
    opAt (withTask staffed t) clsCustody 0x303 t = true ∧ t.formOk 0xFFFFF false false (some 296) 0 = true ∧ Table.find 2 (staffed.cc.cust.group 0).keys = none ∧
    tokenForm (t.source.drop 96) 2 = true ∧ beNat (cut 16 2 (t.source.drop 96)) = 0 ∧ byteAt 18 (t.source.drop 96) = 2 ∧
    good (staffed.checkObject (t.source.drop 96) 0 2 104 (zeros 32) (some custodian)) = true ∧ cut 52 48 (t.source.drop 96) = t.commandDigest (custodian ++ zeros 200) ∧
    good ((backed staffed t).gateGroup t 0 true) = true ∧ (Table.find 1 (staffed.cc.cust.group 0).keys).isSome = true ∧ staffed.domainAllowed 0 0 = true := by decide +kernel

theorem witness_CustodianOperations_groups :
    let t := cuTask 0x304 (0xFFFF + 2 * 2 ^ 16) 0 [] 0
    let u := cuTask 0x305 (0xFFFF + 2 * 2 ^ 16) 0 [] 0
    let v := cuTask 0x30C 0 0 [] 0
    opAt (withTask staffed t) clsCustody 0x304 t = true ∧ t.formOk 0xFFFFF false false (some 0) 0 = true ∧ (Table.find 2 (staffed.cc.cust.group 0xFFFF).keys).isSome = true ∧
    (staffed.cc.cust.group 0xFFFF).quorum ≤ (staffed.cc.cust.group 0xFFFF).keys.length - 1 ∧ (staffed.cc.cust.group 0).keys.length - 1 < (staffed.cc.cust.group 0).quorum ∧
    Table.find 9 (staffed.cc.cust.group 0xFFFF).keys = none ∧ opAt (withTask staffed u) clsCustody 0x305 u = true ∧ (2 ≤ 2 ∧ 2 ≤ 5 ∧ 2 ≤ (staffed.cc.cust.group 0xFFFF).keys.length) ∧
    (staffed.cc.cust.group 0xFFFF).keys.length < 5 ∧ good ((backed staffed t).gateGroup t 0xFFFF false) = true ∧ good ((backed staffed u).gateGroup u 0xFFFF false) = true ∧
    opAt (withTask staffed v) clsCustody 0x30C v = true ∧ (planted.cc.kt.slot 0).state = .live ∧ (staffed.cc.kt.slot 0).state ≠ .live ∧
    good ((backed staffed v).gateTask v 0xFFFF) = true := by decide +kernel

theorem witness_CustodianOperations_first :
    ((serve.cc.cust.group 0xFFFF).keys.length < 2 ∧ serve.lcState = 1) ∧ ¬ (staffed.cc.cust.group 0xFFFF).keys.length < 2 ∧ Table.wf staffed.cc.cust.groups = true := by decide +kernel

/-- A component session of an L4 key below the branch, with one component given. -/
def session : Session :=
  { domain := 0, parent := 0x1000, parentGen := 1, request := request 7 3 2 0 0 0, count := 2, given := [1], acc := zeros 16, expiry := 9, complete := false }

/-- The planted tree with custodians, a challenge and that session. -/
def joining : Core := { planted with cc := { planted.cc with cust := { staffed.cc.cust with sessions := [(3, session)] } } }

/-- A component envelope of a custodian, signed, with any wrapped component. -/
def envelope (position n : Nat) : Bytes :=
  signed 0xfe3f46e3995dfafc1fc1d67dfae6b7416584366917b74dc347cbf9526c96f0c852e1de01b8787ec4dad432b618955812e87a3bb245a391c2f55eff155852d463851b667097ad476818615c788229c59d2f2fc47ee9aa25f8a0bf627e535e01bf
    (ascii "CCE1" ++ beBytes 12 serve.lcs.serial ++ beBytes 2 0 ++ [byte position, byte n] ++ zeros 32 ++ custodian ++ beBytes 2 24 ++ zeros 50)

/-- The key a session is for resolves, and the session's request suits it. -/
def targetOk (c : Core) (t : Task) (r : Req) : Bool :=
  match c.opKey 0 t t.key0 0 1 with
  | .ok (c1, x) => good (c1.sessionTarget (some x) r)
  | .error _ => false

theorem witness_ComponentsAndRecovery_sessions :
    let t := cuTask 0x307 0 (handle 0x1000) (request 7 3 2 0 0 0 ++ [2] ++ zeros 7) 0
    let u := cuTask 0x306 0 0 [] 224
    let v := cuTask 0x309 3 0 [] 0
    opAt (withTask planted u) clsCustody 0x306 u = true ∧ u.formOk 0 false false (some 0) 224 = true ∧
    opAt (withTask planted t) clsCustody 0x307 t = true ∧ t.formOk 0xFFF true false (some 40) 0 = true ∧ byteAt 32 t.source = 2 ∧ allZero (cut 33 7 t.source) = true ∧
    (readReq (t.source.take 32)).isSome = true ∧ targetOk (withTask planted t) t (reqOf (request 7 3 2 0 0 0)) = true ∧ good (planted.sessionTarget none (reqOf (request 0 Usage.root 4 0 0 0))) = true ∧
    Table.freeKey 4 (joining.cc.cust.openSessions joining.now) = some 0 ∧
    Table.freeKey 4 [(0, session), (1, session), (2, session), (3, session)] = none ∧
    opAt (withTask joining v) clsCustody 0x309 v = true ∧ v.formOk 3 false false (some 0) 0 = true ∧ Table.find 3 (joining.cc.cust.openSessions joining.now) = some session ∧
    joining.domainAllowed session.domain 0 = true ∧ Table.find 0 (joining.cc.cust.openSessions joining.now) = none := by decide +kernel

/-- A component of an open session: what precedes the opening of the envelope, which rests on the transport key, a free value. -/
theorem witness_ComponentsAndRecovery_component :
    let t := cuTask 0x308 3 0 (envelope 0 3) 0
    opAt (withTask joining t) clsCustody 0x308 t = true ∧ t.formOk 3 false false none 0 = true ∧ envelopeForm t.source = true ∧
    good (joining.checkObject t.source 0 0 200 (zeros 32) none) = true ∧ Table.find 3 joining.cc.cust.sessions = some session ∧ session.complete = false ∧
    later session.expiry joining.now = true ∧ session.domain = 0 ∧ byteAt 19 t.source = 3 ∧ session.given.contains 0 = false ∧ session.given.contains 1 = true ∧
    Table.find 0 joining.cc.cust.sessions = none ∧ (readReq session.request).isSome = true ∧ session.count ≤ session.given.length + 1 ∧ session.parent ≠ 0 ∧
    (joining.cc.kt.slot 0x1000).node = some branchNode ∧ (joining.cc.kt.slot 0x1000).state = .live ∧ (joining.cc.kt.slot 0x1000).gen = session.parentGen ∧
    joining.cc.kt.chainOk 4 branchNode = true ∧ childRaw joining (parentAt 0x1000) (reqOf session.request) ≠ some true ∧ good joining.takeSlot = true ∧ good (joining.attrChecks (parentAt 0x1000) (reqOf session.request) true) = true := by decide +kernel

/-- SAFE_HALT and ZEROIZED with the custodians, and one with an open mark. -/
def halted_ (m : Mode) : Core := { inMode staffed m with g := { (inMode staffed m).g with haltCause := 1 } }

theorem witness_ComponentsAndRecovery_recovery :
    let t := cuTask 0x30A 0 0 [] 0
    let u := cuTask 0x30B 0 0 [] 0
    opAt (withTask (halted_ .safeHalt) t) clsCustody 0x30A t = true ∧ opAt (withTask (halted_ .zeroized) u) clsCustody 0x30B u = true ∧
    (halted_ .safeHalt).g.mode = .safeHalt ∧ (halted_ .safeHalt).g.recovery = none ∧ (halted_ .safeHalt).markOpen = false ∧ t.formOk 0 false false (some 0) 0 = true ∧
    good ((backed (halted_ .safeHalt) t).gateTask t 0xFFFF) = true ∧ good ((halted_ .safeHalt).gateTask t 0xFFFF) = false ∧
    ({ halted_ .safeHalt with lcs := { serve.lcs with progress := [[0xFF, 0xFF, 0xFF], [0, 0, 0], [0, 0, 0], [0, 0, 0]] } } : Core).markOpen = true ∧ serve.g.mode ≠ .safeHalt := by decide +kernel

/-- A fleet: its identifier, authority and a certificate of a member, with the signature of the authority. -/
def fleetId : Bytes := beBytes 8 0x1122334455667788
def certificate (serial member sig : Nat) : Bytes :=
  signed sig (ascii "FMC1" ++ fleetId ++ beBytes 2 member ++ zeros 2 ++ beBytes 12 serial ++ zeros 4 ++ custodian ++ custodian)
def ourCert : Bytes := certificate 1 9
  0x49874303de357bd2b2611f64dd2dca56aa9e449e5191334dfbc6a295e83edeec9c8d7439bb7ddc9b3b5372445f94cc80d0e0a6d90022320e21c469830ea0340e1dd50b253800d2d957752460c142e7687ae7cace815e6de977f4075411b4d2d7
def otherCert : Bytes := certificate 2 10
  0x6962a163a32ea922b4aa3d80cc79f7fa175cad8d3e646b66e03fcf10c7b342f8413a854644808490706d6a262a018ef470ce79a9e33f74445b65570e75124e7279d67e1aa062ad85699baa69c342aedc949853d26fdfe3071d84cb0878288bdf

/-- The planted tree in a fleet, as member 9. -/
def fleet (c : Core) : Core :=
  { c with cc := { c.cc with cust := { staffed.cc.cust with fleetId := some fleetId, authority := custodian, member := some 9 } } }

theorem witness_FleetAndPath_enrolment :
    let t := cuTask 0x310 0 0 (fleetId ++ custodian) 0
    let u := cuTask 0x311 0 0 ourCert 0
    let c := { fleet serve with cc := { (fleet serve).cc with cust := { (fleet serve).cc.cust with member := none } } }
    opAt (withTask staffed t) clsCustody 0x310 t = true ∧ t.formOk 0 false false (some 104) 0 = true ∧ serve.lcState = 1 ∧ staffed.cc.cust.fleetId = none ∧
    good ((backed staffed t).gateTask t 0xFFFF) = true ∧ (fleet serve).cc.cust.fleetId.isSome = true ∧ (fleet serve).cc.cust.member.isSome = true ∧
    opAt (withTask c u) clsCustody 0x311 u = true ∧ u.formOk 0 false false none 0 = true ∧ c.cc.cust.member = none ∧ c.cc.cust.fleetId = some (certFleet u.source) ∧
    c.cc.cust.certOk u.source = true ∧ certSerial u.source = c.serialBytes := by decide +kernel

theorem witness_FleetAndPath_export :
    let t := cuTask 0x312 0 (handle 0x1000) otherCert 400
    opAt (withTask (fleet planted) t) clsCustody 0x312 t = true ∧ t.formOk 0xFFF true false (some 320) 400 = true ∧ (fleet planted).g.mode ≠ .analysis ∧
    good ((fleet planted).opKey 0 t t.key0 0 1) = true ∧ (planted.cc.kt.slot 0x1000).node = some branchNode ∧ (planted.cc.kt.slot 0x1000).state = .live ∧ branchNode.level ≤ 3 ∧ (fleet planted).cc.cust.certOk t.source = true ∧
    (fleet planted).cc.cust.fleetId = some (certFleet t.source) ∧ branchNode.attrs.testBit 0 = true ∧ ({ branchNode with attrs := 0 } : Node).attrs.testBit 0 = false ∧
    good ((backed (fleet planted) t).gateTask t 0) = true := by decide +kernel

/-- A blob of a branch for this unit from member 10, whose certificate has the authority's signature; its key block rests on the transport key, a free value. -/
def blobOf : Bytes :=
  signed 0x319378a0578af8f765e183a4accfc6513d88ec1f9753b94e17fefcdf71a3da4362830f72e378f1c4c69225d4df87799b9a1e2dab1f82651c5bec97f7fb2f3245b9e0bb5902bd95688b8bdd8484905c78ceaa677246db07e067d91fbe5cddade7
    (ascii "FTB1" ++ fleetId ++ beBytes 12 2 ++ beBytes 2 10 ++ beBytes 2 9 ++ beBytes 12 1 ++ beBytes 2 0 ++ [3, 0x0A, 4, 1] ++ beBytes 2 1 ++ beBytes 8 5 ++ beBytes 8 77
    ++ custodian ++ blobHeader ++ zeros 128)

/-- The key block of a blob opens although its mode of use is E, which R232 would refuse (R291); a spoilt one does not. -/
theorem test_blob_key_block_opens :
    let k := blobKek (zeros 48) (zeros 64)
    let b := kbWrap k (key 8 4) blobHeader (zeros 14)
    (kbHeaderOk blobHeader = false) ∧ ((kbOpen k b 144).toOption.map (fun x => (x.1, x.2.length))) = some (4, 32) ∧ good (kbOpen k (patch 143 [0x30, 0x30] b) 144) = false := by decide +kernel

theorem witness_FleetAndPath_import :
    let t := cuTask 0x313 0 0 (blobOf ++ otherCert) 0
    let c := fleet planted
    let b := t.source.take 400
    let cert := t.source.drop 400
    opAt (withTask c t) clsCustody 0x313 t = true ∧ t.formOk 0xFFF false false (some 720) 0 = true ∧ blobForm b 0 = true ∧ certForm cert = true ∧ 1 ≤ beNat (cut 46 2 b) ∧
    c.cc.cust.member = some (beNat (cut 26 2 b)) ∧ c.cc.cust.fleetId = some (cut 4 8 b) ∧ c.cc.cust.fleetId = some (certFleet cert) ∧ c.cc.cust.certOk cert = true ∧
    certSerial cert = cut 12 12 b ∧ certMember cert = beNat (cut 24 2 b) ∧ cut 28 12 b = c.serialBytes ∧ p384Valid (certAttestation cert) = true ∧
    p384Verify (certAttestation cert) (b.take 304) (cut 304 96 b) = true ∧ c.cc.kt.transferred 10 77 = none ∧ good (c.transferSlot 3 0 5) = true ∧
    good ((backed c t).gateTask t 0) = true ∧ Table.wf c.cc.kt.slots = true := by decide +kernel

/-- A node that was transferred before. -/
def came : Core :=
  { fleet planted with cc := { (fleet planted).cc with kt := { planted.cc.kt with slots := planted.cc.kt.slots.map (fun e =>
      if e.1 = 0x1000 then (e.1, live { branchNode with attrs := 0x30, owner := transferTag 10 77 }) else e) } } }
theorem witness_FleetAndPath_again : (came.cc.kt.transferred 10 77).map (fun x => (x.1, decide (x.2.1.state = .live), x.2.1.gen)) = some (0x1000, true, 1) := by decide +kernel

/-- A trusted-path request for a challenge, and a frame that is spoilt. -/
def pathFrame : Bytes := cpathFrame 1 ([0, 1] ++ leBytes 2 0x300 ++ zeros 10)

theorem witness_FleetAndPath_path :
    let n := beNat (cut 2 2 pathFrame)
    let p := cut 4 n pathFrame
    Config.cpath serve.g.variant = true ∧ serve.scrapped = false ∧ serve.g.mode ≠ .retain ∧ byteAt 0 pathFrame = 0x5A ∧ n = 14 ∧ pathFrame.length = n + 8 ∧
    crc32 (cut 1 (n + 3) pathFrame) = beNat (cut (n + 4) 4 pathFrame) ∧ byteAt 1 pathFrame = 1 ∧ serve.cpath.busy = none ∧ serve.cpath.last = none ∧ leNat (cut 2 2 p) = 0x300 ∧
    serve.cpathMode 0x300 = true ∧ (inMode serve .seed).cpathMode 0x300 = false ∧ (inMode serve .safeHalt).cpathMode 0x308 = false ∧
    byteAt 1 (cpathFrame 2 (zeros 14)) ≠ 1 ∧ beNat (cut 2 2 (cpathFrame 1 (zeros 13))) < 14 := by decide +kernel

/-- A trusted-path request whose response is ready. -/
def pathTask : Task := { cuTask 0x300 0 0 [] 32 with port := 4, st := .retired, staged := some 0 }
def answering : Core :=
  { serve with cpath := { busy := some pathFrame }, cc := { serve.cc with tasks := [(serve.cpathSlot, pathTask)] } }

theorem witness_FleetAndPath_response :
    answering.cpath.busy = some pathFrame ∧ answering.task answering.cpathSlot = some pathTask ∧ pathTask.st = .retired ∧ pathTask.staged.getD 0 ≤ answering.cont.glazed ∧
    answering.leaseHeld = true ∧ Table.wf answering.cc.tasks = true := by decide +kernel

/-- A Sieve image of port 0 with one entry, and one whose entries share their prefix. -/
def svImage : Table SvEntry := [(0, { digits := prefix_ 4, rule := 1 })]
def shadowedImage : Table SvEntry := [(0, { digits := prefix_ 4, rule := 1 }), (9, { digits := prefix_ 4, rule := 1 })]
def staged (image : Table SvEntry) : Core := { serve with cc := { serve.cc with stage := some { owner := 0, image := image } } }

/-- A record of R369 that sets entry 3 to one digit. -/
def svRecord : Bytes := serve.recBytes 0 3 { digits := prefix_ 4, rule := 1 }

theorem witness_SieveOperations :
    (∀ op ∈ [0x600, 0x601, 0x602, 0x603, 0x604], opAt (withTask serve (ktTask op 0 0 [] 0)) clsAdmin op (ktTask op 0 0 [] 0) = true) ∧ serve.g.mode ≠ .analysis ∧
    (0 &&& 1 : Nat) = 0 ∧ serve.cc.stage = none ∧ (staged svImage).cc.stage ≠ none ∧ (0 : Nat) ≤ 0 ∧ 32 ≤ (ktTask 0x601 0 0 svRecord 0).srcLen ∧ (ktTask 0x601 0 0 svRecord 0).srcLen % 32 = 0 ∧
    (∀ r ∈ chunks 32 svRecord, serve.recFault 0 svImage r = none) ∧ (serve.recFault 0 svImage (List.replicate 32 0xFF)).isSome = true ∧
    shadowed [] svImage = none ∧ (shadowed [] shadowedImage).isSome = true ∧ serve.siv.ok 0 = true ∧ bankless.siv.ok 0 = false ∧ bankless.siv.ok 1 = false ∧ serve.siv.commit = none ∧
    (ktTask 0x604 0 0 [] 32).dstLen % 32 = 0 ∧ (routed.siv.table.filter (fun x => decide (0 ≤ x.1))).length = 2 := by decide +kernel

/-- The Sieve after a commit: the first bank to load, the searches to end, the second bank to load. -/
def svTask : Task := { ktTask 0x602 0 0 [] 0 with st := .committing }
def sieving (step : Nat) : Core :=
  { withTask serve svTask with siv := { serve.siv with next := some svImage, mirrorOpen := true, commit := some { tid := 0, seq := 1, step := step } } }

theorem witness_SieveOperations_loads :
    (sieving 3).siv.commit = some { tid := 0, seq := 1, step := 3 } ∧ (sieving 3).siv.ok 0 = true ∧ (sieving 3).linkMask ≠ 0 ∧ (sieving 3).task 0 = some svTask ∧ svTask.st = .committing ∧
    svTask.opclass = clsAdmin ∧ svTask.opcode = 0x602 ∧ svTask.fenced = false ∧ Table.wf (sieving 3).cc.tasks = true ∧
    (sieving 5).siv.commit = some { tid := 0, seq := 1, step := 5 } ∧ (sieving 6).siv.commit = some { tid := 0, seq := 1, step := 6 } := by decide +kernel

/-! ### Entropy, the Lozenge and the Glaze, redundancy, firmware -/

/-- SERVE with a size set for the prime reserve, on reset registers. -/
def primeOf2048 : Nat := 2 ^ 1023 + 2 ^ 1022 + 1037

theorem witness_EntropyAndPrimes :
    serve.dispatching = true ∧ (serve.enginesUp 3).contains 0 = true ∧ serve.underTest 3 0 = false ∧ (Table.findD (engKey 3 0) {} serve.eng.jobs).jobs = [] ∧ serve.readySteps 3 = [] ∧
    serve.r.rsaBits.getD 0 0 ≠ 0 ∧ (serve.r.primes.getD 0 []).length < 16 ∧ primeFits (serve.r.rsaBits.getD 0 0) primeOf2048 = true ∧ primeOf2048 ∉ serve.r.primes.getD 0 [] ∧
    (at_ setup).manages ∧ setup.g.locked = false ∧ rsaSizeOk 4096 = true ∧ 4096 ≠ setup.r.rsaBits.getD 0 0 ∧ 2048 = setup.r.rsaBits.getD 0 0 ∧ serve.g.locked = true ∧ rsaSizeOk 4097 = false := by decide +kernel

/-- A core that searches, and the cores that begin to. -/
theorem witness_EntropyAndPrimes_search :
    (Table.findD (engKey 3 0) {} ({ serve with eng := { jobs := [(engKey 3 0, { search := true })] } } : Core).eng.jobs).search = true ∧
    (Table.findD (engKey 3 0) {} serve.eng.jobs).search = false ∧ serve.r.reserveOpen 0 = true ∧ ([0, 1, 2, 3].any serve.r.reserveOpen) = true ∧ 0 ∈ serve.enginesUp 3 ∧
    serve.searches 0 = true := by decide +kernel

/-- A raw block that passes both health tests, of the bits of a digest chain; zeros fail the first. -/
def noise : Bytes := ((List.range 4).map (fun n => sha512 [byte n])).flatten
theorem witness_EntropyAndPrimes_blocks :
    noise.length = 256 ∧ (blockHealth noise).fails = none ∧ (blockHealth (zeros 256)).fails = some false ∧ serve.seedsFlow = true ∧
    (∀ e ∈ (withTask serve bnTask).cc.tasks, e.2.waitSeed = false ∧ e.2.awaitsDraw = none) ∧ (∀ k, k < 8 → (serve.ent.inst k).lost = false) ∧
    (serve.ent.pools.getD 0 []).length < 32 ∧ 32 ≤ (({ serve.ent with pools := [List.replicate 32 [], []] } : Ent).pools.getD 0 []).length := by decide +kernel

/-- Sources in the states that the entropy unit tells apart. -/
def sources (st : SrcSt) : Core := { serve with ent := { serve.ent with src := { st := st } :: List.replicate 3 { st := .healthy } } }
def lastSource : Core := { serve with ent := { serve.ent with src := { st := .healthy } :: List.replicate 3 { st := .excluded, exclusions := 1 } } }

theorem witness_EntropyAndPrimes_sources :
    (sources .testing).ent.src[0]? = some { st := .testing } ∧ ({ st := .testing } : Src).retest = false ∧ (sources .healthy).ent.src[0]? = some { st := .healthy } ∧ serve.g.mode ≠ .retain ∧ serve.linkMask ≠ 0 ∧
    lastSource.ent.healthy = 1 ∧ lastSource.ent.run = true ∧ serve.ent.healthy ≠ 1 ∧ (zeros 256).length = 256 ∧ (serve.ent.pools.getD 0 []).length < 32 ∧
    (∀ e ∈ (withTask serve bnTask).cc.tasks, e.2.waitSeed = false) ∧ (List.replicate 32 (zeros 32)).length = 32 ∧ (41 ≤ 41 ∧ 40 < 41 ∧ 795 ≤ 795 ∧ 794 < 795) ∧
    lastSource.retestOk 1 = true ∧ lastSource.retestOk 0 = false ∧ (at_ lastSource).manages := by decide +kernel

/-- SEED with every source tested, and with none that passed. -/
def seeding : Core := { inMode serve .seed with ent := { src := { st := .excluded } :: List.replicate 3 { st := .healthy }, pools := [List.replicate 8 (zeros 32), List.replicate 8 (zeros 32)] } }
def seedless : Core := { inMode serve .seed with ent := { src := List.replicate 4 { st := .excluded } } }

theorem witness_EntropyAndPrimes_seed :
    seeding.g.mode = .seed ∧ seeding.ent.seeded = false ∧ (∀ x ∈ seeding.ent.src, x.st = .healthy ∨ x.st = .excluded) ∧ (∃ x ∈ seeding.ent.src, x.st = .healthy) ∧
    seeding.ent.pools = [List.replicate 8 (zeros 32), List.replicate 8 (zeros 32)] ∧ seeding.ent.drbg.length = 8 ∧ ([] : List Bytes).length + (List.replicate 15 (zeros 32)).length < 16 ∧ (∀ x ∈ seedless.ent.src, x.st = .excluded) := by decide +kernel

/-- SERVE under a change of what redundancy keeps. -/
def lozenge (f : Cont → Cont) : Core := { serve with cont := f serve.cont }
def records : List (Nat × W48 × CC) := [(1, 100, serve.cc)]

theorem witness_GlazeAndLozenge_epochs :
    serve.cont.cx.length = 2 ∧ serve.cont.healthy.length = 2 ∧ serve.cont.unusableCount.length = 2 ∧ serve.cont.holder.isSome = true ∧ serve.cont.adopting = none ∧
    later serve.cont.expiry serve.nextEnd = true ∧ serve.pwr.losing = 0 ∧ serve.cont.simplex = false ∧
    (lozenge (fun k => { k with cx := [.active, .unusable] })).cont.simplex = true ∧ serve.sent = [] ∧ serve.cont.handover = none ∧
    (∀ e ∈ serve.cc.tasks, e.2.st = .committing → e.2.opclass = clsCustody → e.2.opcode ∉ [0x331, 0x320, 0x340]) := by decide +kernel

theorem witness_GlazeAndLozenge_acknowledgment :
    let c : Core := { withTask serve { ktWaiting with commitEpoch := 1 } with sent := records }
    c.sent = (1, 100, serve.cc) :: [] ∧ c.leaseHeld = true ∧ c.mirrored = true ∧ Table.wf c.cc.tasks = true ∧
    (∀ e ∈ serve.cc.tasks, e.2.st = .committing → e.2.opclass = clsCustody → e.2.opcode ∉ [0x331, 0x320, 0x340]) ∧
    c.task 0 = some { ktWaiting with commitEpoch := 1 } ∧ ktWaiting.st = .committing ∧ ktWaiting.fenced = false ∧ ktWaiting.runningSteps = [] ∧
    (lozenge (fun k => { k with cx := [.active, .unusable] })).mirrored = false ∧ c.cont.resent = false ∧ later c.cont.expiry (100 + 100) = true ∧
    (lozenge (fun k => { k with resent := true })).cont.resent = true ∧ later serve.cont.expiry (100 + 200) = true ∧ serve.cont.update = none ∧
    (lozenge (fun k => { k with healthy := [false, true] })).cont.healthy.getD 0 false = false ∧ serve.cont.healthy.getD 0 false = true := by decide +kernel

theorem witness_GlazeAndLozenge_takeover :
    let g := lozenge (fun k => { k with holder := none, revoked := some (2, 0), cx := [.unusable, .standby] })
    let a := { lozenge (fun k => { k with holder := some 1, adopting := some 2, cx := [.unusable, .active] }) with mirror := { serve.cc with tasks := [(0, bnTask)] } }
    serve.cont.holder = some 0 ∧ serve.cont.update = none ∧ serve.pwr.losing = 0 ∧ g.cont.revoked = some (2, 0) ∧ g.cont.qualifies 1 = true ∧
    (lozenge (fun k => { k with cx := [.unusable, .unusable] })).cont.qualifies 1 = false ∧ serve.cont.revoked = none ∧ a.cont.adopting = some 2 ∧ a.cont.holder = some 1 ∧
    a.siv.commit = none ∧ a.g.recovery = none ∧ a.halted = false ∧ a.cpath.busy = none ∧ Table.wf a.mirror.tasks = true ∧ Table.wf a.mirror.rings = true ∧
    (∀ e ∈ a.mirror.tasks, (e.2.st = .admitted ∨ e.2.st = .running ∨ e.2.st = .ending ∨ e.2.st = .fetching) ∧ e.2.gone = false ∧ e.2.fenced = false) := by decide +kernel

theorem witness_GlazeAndLozenge_complexes :
    let last := lozenge (fun k => { k with holder := none, cx := [.testing, .unusable], lastChance := some 0 })
    let test := lozenge (fun k => { k with cx := [.active, .testing] })
    let copy := lozenge (fun k => { k with cx := [.active, .syncing] })
    last.cont.lastChance = some 0 ∧ last.sent = [] ∧ last.mirror.tasks = [] ∧ last.halted = false ∧ last.g.mode ≠ .retain ∧ test.cont.lastChance ≠ some 1 ∧
    test.cont.holder.isSome = true ∧ test.cont.cxOf 1 = .testing ∧ test.cont.update = none ∧ copy.cont.cxOf 1 = .syncing ∧ copy.leaseHeld = true ∧
    later copy.now (copy.cont.copyStart + 1000000) = false := by decide +kernel

/-- An engine at work, one out of service, and Crumb tests that run. -/
def crumbOn (x : Crumb) : Core := lozenge (fun k => { k with crumbs := [x] })

theorem witness_RedundancyEvents :
    let bad : Core := { serve with eng := { bad := [engKey 1 0], jobs := [(engKey 1 0, { run := some { tid := 0, step := 0 } })] } }
    serve.g.mode ≠ .retain ∧ (Table.findD (engKey 1 0) {} (stepping 1 0 encTask).eng.jobs).run.isSome = true ∧ (stepping 1 0 encTask).eng.isBad 1 0 = false ∧
    (Table.findD (engKey 1 0) {} bad.eng.jobs).run.isSome = true ∧ bad.eng.isBad 1 0 = true ∧ serve.hasEngine 1 0 = true ∧ serve.hasEngine 7 60 = false ∧ Table.wf (stepping 1 0 encTask).eng.jobs = true ∧
    serve.crumbMode = true ∧ serve.cont.crumbs.length < 2 ∧ serve.cont.crumbAt = none ∧ serve.waitingSpare = none ∧ serve.cont.crumbPos < crumbTargets serve.g.variant ∧
    serve.crumbSkips (crumbAtPos serve.g.variant 0) = false ∧ ({ serve with eng := { waiting := [engKey 1 0] } } : Core).waitingSpare ≠ none ∧
    (crumbOn ⟨1, 0, 0, false⟩).cont.crumbs[0]? = some ⟨1, 0, 0, false⟩ ∧ (Table.findD (engKey 1 0) {} serve.eng.jobs).jobs = [] ∧
    ¬ (Table.findD (engKey 1 0) {} (stepping 1 0 encTask).eng.jobs).jobs = [] ∧ (6 ≤ 6 ∧ 7 ≤ 7 ∧ 1 ≤ 5) ∧ (lozenge (fun k => { k with crumbPos := crumbTargets serve.g.variant })).waitingSpare = none ∧ Table.findD (256 * 7 + 0) 0 serve.cont.memUsed < 2 ∧ (lozenge (fun k => { k with crumbs := [⟨6, 0, 0, false⟩, ⟨7, 0, 0, false⟩] })).cont.crumbs.length = 2 ∧
    serve.newBadDevices [16] = [0] ∧ serve.newBadDevices [15] = [] ∧ serve.cont.crumbDue = [] ∧ serve.flash.readable[0]? = some true ∧ ({ serve.flash with readable := [true, false] } : Flash).readable[1]? = some false ∧ ({ serve.flash with readable := [true, false] } : Flash).readable.getD (1 - 1) false = true ∧
    ({ serve.flash with readable := [false, false] } : Flash).readable.getD (1 - 1) false = false ∧
    0 < serve.pwr.phases ∧ 11 ≤ serve.pwr.phases ∧ ({ serve.pwr with phases := 10 } : Pwr).phases ≤ 10 := by decide +kernel

/-- An UPDATE on trial. -/
def updating (second : Bool) : Core :=
  { lozenge (fun k => { k with cx := if second then [.updating, .active] else [.active, .updating], holder := some (if second then 1 else 0)
                               update := some { trial := if second then 0 else 1, second := second, reverting := false } }) with
    g := { serve.g with mode := .update } }

/-- Whatever the checks of an image answer, which are free values, an image is of the right form or not, signed or not, and recent or not. -/
theorem witness_FirmwareOperations_checks (im : Bytes) :
    (Config.firmwareFormatOk im = true ∨ Config.firmwareFormatOk im = false) ∧ (Config.firmwareSignatureOk im = true ∨ Config.firmwareSignatureOk im = false) ∧
    ((0 : BitVec 24).toNat ≤ (Config.firmwareVersion im).toNat) :=
  ⟨Bool.eq_false_or_eq_true _, Bool.eq_false_or_eq_true _, Nat.zero_le _⟩

theorem witness_FirmwareOperations :
    let t := cuTask 0x330 0 0 (zeros 8) 0
    let u := cuTask 0x331 0 0 (sha384 (zeros 8)) 0
    let v := cuTask 0x332 0 0 [] 0
    opAt (withTask serve t) clsCustody 0x330 t = true ∧ serve.fwMode = true ∧ t.formOk 0 false false none 0 = true ∧ t.srcLen ≤ 2 ^ 23 ∧
    opAt (withTask serve u) clsCustody 0x331 u = true ∧ serve.g.mode = .serve ∧ u.formOk 0 false false (some 48) 0 = true ∧ serve.flash.fwStaged = none ∧
    sha384 (zeros 8) = u.source ∧ sha384 (zeros 9) ≠ u.source ∧ good ((backed staffed u).gateTask u 0xFFFF) = true ∧
    opAt (withTask serve v) clsCustody 0x332 v = true ∧ serve.cont.cxOf 1 = .standby ∧ v.formOk 0 false false (some 0) 0 = true ∧ (inMode serve .quiesce).g.mode ≠ .serve ∧
    (updating false).cont.update = some { trial := 1, second := false, reverting := false } ∧ (updating false).cont.holder = some 0 ∧ (updating false).cont.cxOf 1 = .updating ∧
    (updating false).leaseHeld = true ∧ (updating false).cont.fw.length = 2 ∧ (updating false).g.mode = .update ∧
    (updating true).cont.update = some { trial := 0, second := true, reverting := false } ∧ (updating true).cont.holder = some 1 ∧ (updating true).cont.cxOf 0 = .updating := by decide +kernel

/-- A complex on trial qualifies once it has the state; whether one does is plain. -/
theorem witness_FirmwareOperations_qualifies : (updating false).cont.qualifies 1 = true ∧ (updating false).leaseHeld = true := by decide +kernel

/-! ### Inputs, tamper monitors, injections -/

/-- SERVE with its inputs in given states, main power being lost, and RETAIN. -/
def powered (vin : List Nat) (losing : Nat) : Core := { serve with pwr := { serve.pwr with vin := vin, losing := losing, pwrok := true } }
def retained : Core := { inMode serve .retain with pwr := { serve.pwr with vin := [2, 2], pwrok := false, railsUp := true } }

theorem witness_PowerAndTelemetry :
    (powered [2, 2] 0).pwr.vin[0]? = some 2 ∧ vinState 2 8999 = 1 ∧ vinState 2 9000 = 2 ∧ vinState 2 60000 = 2 ∧ vinState 2 60001 = 3 ∧ vinState 2 8749 = 0 ∧ vinState 2 (-501) = 5 ∧ vinState 2 (-500) = 0 ∧
    vinState 0 8750 = 0 ∧ vinState 4 9000 = 4 ∧ ({ (powered [2, 2] 0).pwr with back := [false, true] } : Pwr).back.getD 0 true = false ∧
    serve.g.mode ≠ .retain ∧ (powered [0, 0] 0).pwr.losing = 0 ∧ (∀ x ∈ (powered [0, 5] 0).pwr.vin, x ≠ 1 ∧ x ≠ 2 ∧ x ≠ 3) ∧ wired.cont.holder = none ∧
    (powered [0, 0] 0).cont.holder.isSome = true ∧ (powered [0, 0] 0).cont.adopting = none ∧ later (powered [0, 0] 0).cont.expiry (powered [0, 0] 0).nextEnd = true ∧
    (powered [0, 0] 0).sent = [] ∧ (powered [0, 0] 0).cont.handover = none ∧ (∀ e ∈ (powered [0, 0] 0).cc.tasks, e.2.st ≠ .committing) ∧ (∃ x ∈ (powered [2, 0] 0).pwr.vin, x = 1 ∨ x = 2 ∨ x = 3) ∧ (powered [0, 0] 1).pwr.losing = 1 ∧ (powered [0, 0] 1).leaseHeld = true ∧
    (powered [0, 0] 1).cc.libCommits = [] ∧ (∀ k ∈ committing.cc.ktCommits, k.epoch ≤ committing.cont.glazed) ∧ (powered [0, 0] 2).pwr.losing ≠ 0 ∧ (powered [0, 0] 2).tmp.unprotected = false ∧
    (powered [0, 0] 2).tmp.group = none ∧ (powered [0, 0] 2).halted = false ∧ (powered [2, 2] 0).pwr.pwrok = true ∧ retained.pwr.pwrok = false ∧ (0xCF < 0xD0 ∧ 0xD7 < 0xD8) := by decide +kernel

/-- A group of alarms that is open. -/
def group (cls : Nat) (erasing done : Bool) : OpenGroup :=
  { number := 5, openAt := 0, mode := 4, members := 2 ^ 3, cls := cls, erasing := erasing, eraseDone := done, injected := false }
def alarmed (g : OpenGroup) : Core := { serve with tmp := { serve.tmp with group := some g, level := 2 ^ 3 } }

theorem witness_AlarmEvents :
    serve.alarmLive 3 = true ∧ serve.tmp.persists 3 0 = false ∧ serve.tmp.persists 7 1 = false ∧ ({ serve.tmp with overs := 1 } : Tmp).persists 7 0 = true ∧ serve.g.mode ≠ .retain ∧ serve.lcState ≠ 4 ∧ serve.tmp.group = none ∧ isMomentary 3 = false ∧ isMomentary 16 = true ∧
    serve.alarmLive 16 = true ∧ serve.alarmLive 24 = true ∧ serve.alarmLive 6 = true ∧ serve.alarmLive 9 = true ∧ 1 ≤ serve.alarmClass 9 ∧ 3 ≤ serve.alarmClass 3 := by decide +kernel

theorem witness_AlarmEvents_groups :
    (alarmed (group 2 false false)).tmp.group = some (group 2 false false) ∧ (group 2 false false).takes serve.now serve.batt.seconds = true ∧ serve.alarmLive 29 = false ∧
    (alarmed (group 2 false false)).tmp.level.testBit 3 = true ∧ (group 2 false false).inRetain = false ∧ (group 3 true true).eraseDone = true ∧ (group 2 false false).members.testBit 3 = true ∧
    serve.linkMask ≠ 0 ∧ (group 3 true false).erasing = true ∧ (group 3 true false).eraseDone = false ∧ serve.halted = false ∧ serve.lcState ≠ 4 := by decide +kernel

/-- RETAIN with its battery domain at work. -/
def asleep : Core := { retained with batt := { serve.batt with counter := some 4 } }

theorem witness_MonitorOperations :
    let t := cuTask 0x321 0 0 [] 32
    serve.g.mode ≠ .retain ∧ serve.alarmEnabled 3 = true ∧ ({ serve with tmp := { serve.tmp with cfg := { serve.tmp.cfg with enables := 0 } } } : Core).alarmEnabled 3 = false ∧
    asleep.g.mode = .retain ∧ asleep.batt.counter.isSome = true ∧ asleep.tmp.group = none ∧ ([0].filter (fun k => isBattery (k / 2) && asleep.alarmEnabled (k / 2))) ≠ [] ∧
    ([] : List Nat).filter (fun k => isBattery (k / 2) && asleep.alarmEnabled (k / 2)) = [] ∧
    opAt (withTask serve t) clsCustody 0x321 t = true ∧ serve.tmMode true = true ∧ t.formOk 0xFFFFFFFF false false (some 0) 32 = true ∧ t.dstLen % 32 = 0 ∧
    (inMode serve .seed).tmMode true = false := by decide +kernel

/-- A configuration that keeps every default, as TM_CONFIGURE takes it: the form of R414. -/
theorem witness_MonitorOperations_configure :
    let t := cuTask 0x320 0 0 [] 0
    opAt (withTask serve t) clsCustody 0x320 t = true ∧ t.formOk 0 false false none 0 = true ∧ (inMode serve .seed).tmMode false = false ∧ serve.tmMode false = true ∧
    (tmCheck t.source [0, 0, 0, 0] serve.floors).isSome = true := by decide +kernel

/-- Every alarm enabled at class ERASE but the loops, whose test resistances are then not asked for; and with a loop enabled. -/
def alarmBytes (loop : Nat) : Bytes := (List.range 29).map (fun a => byte (if 19 ≤ a ∧ a ≤ 22 then loop else 7)) ++ zeros 3 ++ List.replicate 4 20 ++ zeros 28
theorem witness_MonitorOperations_passes :
    let t := cuTask 0x320 0 0 (alarmBytes 3) 0
    opAt (withTask serve t) clsCustody 0x320 t = true ∧ tmCheck t.source [0, 0, 0, 0] serve.floors = none ∧ tmCheck (alarmBytes 7) [1000, 2000, 9000, 10000] serve.floors = none ∧
    tmCheck (alarmBytes 7) [1000, 2000, 9000, 10001] serve.floors = some 0x323 ∧ good ((backed staffed t).gateTask t 0xFFFF) = true := by decide +kernel

theorem witness_MonitorOperations_injections :
    let c : Core := { serve with tmp := { serve.tmp with injSel := 1 * 2 ^ 16 + 3 } }
    let r : Core := { serve with tmp := { serve.tmp with injRunning := true, injRunReal := true, injRun := 1 * 2 ^ 16 + 3 } }
    (at_ c).manages ∧ c.lcState = 1 ∧ c.tmp.injRunning = false ∧ c.injMode = true ∧ injNames c.g.variant c.tmp.injKind c.tmp.injInst = true ∧ r.tmp.injRunning = true ∧ r.tmp.injRunReal = true ∧
    serve.tmp.injRunReal = false ∧ latencyOk 1 3 5000 = true ∧ latencyOk 1 3 5001 = false ∧ latencyOk 2 1 15900 = true ∧ latencyOk 2 0 820 = true ∧ latencyOk 2 0 15900 = false ∧ injNames c.g.variant 9 99 = false ∧ serve.tmp.injRunning = false := by decide +kernel

/-! ### Life cycle, debug port, WAKE and recovery -/

/-- SERVE in a state of the life cycle, with the marks before it closed. -/
def living (state : Nat) : Core :=
  { serve with lcs := { serve.lcs with copies := List.replicate 3 (BitVec.ofNat 48 (2 ^ (8 * state) - 1))
                                       progress := (List.range 4).map (fun i => List.replicate 3 (if i < state then 0xFFFFFFFF else 0)) } }

theorem witness_LifeCycleAndDebug_states :
    (living 0).lcState = 0 ∧ (living 1).lcState = 1 ∧ (living 2).lcState = 2 ∧ (living 3).lcState = 3 ∧ (living 4).lcState = 4 ∧ (living 2).lcs.badWord = false ∧
    (living 2).lcs.openMarks = [] ∧ lcPermitted 1 2 = true ∧ lcPermitted 2 1 = false := by decide +kernel

/-- A request for a transition, of a serial and an identity digest, signed by the unit's custodians alone. -/
def lcBytes (digest : Bytes) (dest who : Nat) : Bytes :=
  ascii "LCR1" ++ beBytes 12 serve.lcs.serial ++ digest ++ [1, byte dest, byte who, 0] ++ beBytes 8 99 ++ zeros 180

theorem witness_LifeCycleAndDebug_requests :
    let b := lcBytes (zeros 48) 2 2
    let t := cuTask 0x340 0 0 b 0
    opAt (withTask serve t) clsCustody 0x340 t = true ∧ t.formOk 0 false false none 0 = true ∧ serve.lcServed = true ∧ serve.lcPending = false ∧ (inMode serve .update).lcServed = false ∧
    lcForm b = true ∧ lcForm (zeros 256) = false ∧ cut 4 12 b = serve.serialBytes ∧ cut 16 48 b = zeros 48 ∧ byteAt 64 b = serve.lcState ∧
    serve.lcSigned b = false ∧ (serve.cc.cust.group 0xFFFF).keys.length < 2 ∧ 2 ≤ (staffed.cc.cust.group 0xFFFF).keys.length ∧
    good ((backed staffed t).gateTask t 0xFFFF) = true ∧ good (staffed.gateTask t 0xFFFF) = false := by decide +kernel

/-- A request keeps its form and names the unit whatever the 48 bytes of the identity digest are, which rest on the attestation key, a free value. -/
theorem witness_LifeCycleAndDebug_ours (f : Fin 48 → Byte) :
    lcForm (lcBytes (List.ofFn f) 2 2) = true ∧ cut 16 48 (lcBytes (List.ofFn f) 2 2) = List.ofFn f ∧ cut 4 12 (lcBytes (List.ofFn f) 2 2) = serve.serialBytes := by
  have h1 : ((lcBytes (List.ofFn f) 2 2).length == 256) = true := rfl
  have h2 : (lcBytes (List.ofFn f) 2 2).take 4 = ascii "LCR1" := rfl
  have h3 : allZero (cut 76 84 (lcBytes (List.ofFn f) 2 2)) = true := rfl
  have h4 : allZero (cut 160 96 (lcBytes (List.ofFn f) 2 2)) = true := rfl
  have h5 : byteAt 64 (lcBytes (List.ofFn f) 2 2) = 1 := rfl
  have h6 : byteAt 65 (lcBytes (List.ofFn f) 2 2) = 2 := rfl
  have h7 : byteAt 66 (lcBytes (List.ofFn f) 2 2) = 2 := rfl
  have h8 : byteAt 67 (lcBytes (List.ofFn f) 2 2) = 0 := rfl
  refine ⟨?_, rfl, rfl⟩
  simp only [lcForm, h1, h2, h3, h4, h5, h6, h7, h8, beq_self_eq_true]
  decide

/-- TRANSIT at a step of a transition. -/
def transit (step dest : Nat) : Core := { inMode serve .transit with lcs := { serve.lcs with transitStep := step, transitTo := dest } }

theorem witness_LifeCycleAndDebug :
    (∀ n ∈ [1, 2, 3, 4, 5, 6, 7], (transit n 2).g.mode = .transit ∧ (transit n 2).lcs.transitStep = n) ∧ (transit 2 4).lcs.transitTo = 4 ∧ (transit 6 2).tmp.cfg.cls.length = 29 ∧
    (transit 1 2).tmp.group = none ∧ (transit 7 2).pwr.losing = 0 ∧ ({ transit 7 2 with pwr := { serve.pwr with losing := 1 } } : Core).pwr.losing ≠ 0 ∧ serve.g.mode ≠ .transit ∧ (transit 1 2).lcs.progress.length = 4 ∧ (∀ p ∈ (transit 1 2).lcs.progress, p.length = 3) ∧ (transit 1 2).lcs.copies.length = 3 ∧
    serve.g.mode ≠ .retain ∧ (living 2).lcState = 2 ∧ serve.lcState ≠ 2 ∧ serve.lcs.disabled = false ∧ ({ serve.lcs with disabled := true } : Lcs).disabled = true ∧ serve.tmp.group = none := by decide +kernel

/-- WAKE before and after each of its steps. -/
def waking (step : Nat) (lcs : Lcs) : Core :=
  { inMode wired .wake with g := { (inMode wired .wake).g with wakeStep := step }, lcs := lcs, ent := { wired.ent with wakePass := true, wakeDone := 4 }, batt := { wired.batt with swk := some (zeros 32) } }

theorem witness_WakeSequence :
    retained.g.mode = .retain ∧ (∃ x ∈ retained.pwr.vin, x = 2 ∨ x = 3) ∧ (∀ x ∈ (powered [0, 5] 0).pwr.vin, x ≠ 2 ∧ x ≠ 3) ∧ retained.pwr.railsUp = true ∧ retained.pwr.pwrok = false ∧
    retained.tmp.group = none ∧ serve.g.mode ≠ .retain ∧ (waking 0 wired.lcs).g.mode = .wake ∧ (waking 0 wired.lcs).g.wakeFault = 0 ∧ (waking 0 wired.lcs).lcs.copiesDiffer = false ∧
    (waking 0 { wired.lcs with copies := [0x0F, 0x0F, 0x0F] }).lcs.badWord = true ∧ (living 4).lcs.badWord = false ∧ (living 4).lcs.openMarks = [] ∧ (living 4).lcState = 4 ∧
    wired.lcs.badWord = false ∧ wired.lcs.openMarks = [] ∧ wired.lcState ≠ 4 ∧
    ({ wired.lcs with progress := [[0xFFFFFFFF, 0xFFFFFFFF, 0xFFFFFFFF], [0xFF, 0xFF, 0xFF], [0, 0, 0], [0, 0, 0]] } : Lcs).openMarks = 1 :: [] ∧
    ({ wired.lcs with progress := [[0xFFFFFFFF, 0xFFFFFFFF, 0xFFFFFFFF], [0xFF, 0xFF, 0xFF], [0, 0, 0], [0, 0, 0]] } : Lcs).badWord = false := by decide +kernel

theorem witness_WakeSequence_load :
    (waking 2 wired.lcs).g.wakeStep = 2 ∧ (∃ b ∈ (waking 2 wired.lcs).flash.readable, b = true) ∧ (waking 2 wired.lcs).ent.wakePass = true ∧ (waking 2 wired.lcs).batt.log = [] ∧
    (waking 2 wired.lcs).batt.failedStimulus = [] ∧ (waking 2 wired.lcs).swkFits = true ∧ (waking 2 wired.lcs).flash.swkCheck = none ∧ blockOk noise = true ∧ blockOk (zeros 256) = false ∧ dramBlocksOk [noise, noise] = true ∧
    (∀ g, retained.tmp.group = some g → g.inRetain = true) ∧
    ({ waking 2 wired.lcs with flash := { wired.flash with swkCheck := some [] }, batt := { wired.batt with swk := none } } : Core).swkFits = false ∧ (living 3).lcState = 3 := by decide +kernel

/-- WAKE with a secret in the battery domain that flash's check value fits. -/
theorem witness_WakeSequence_fits :
    ({ waking 2 wired.lcs with flash := { wired.flash with swkCheck := some (Config.swkCheck (zeros 32)) } } : Core).swkFits = true ∧
    ({ wired.flash with swkCheck := some (Config.swkCheck (zeros 32)) } : Flash).swkCheck.isSome = true :=
  ⟨beq_self_eq_true _, rfl⟩

/-- SAFE_HALT in a recovery that a task of CU_RELEASE waits for. -/
def recoverTask : Task := { cuTask 0x30A 0 0 [] 0 with st := .committing }
def recovering : Core :=
  { withTask (halted_ .safeHalt) recoverTask with
    g := { (halted_ .safeHalt).g with recover := true, recovery := some (0, false) }
    ent := { serve.ent with run := false, pools := [List.replicate 8 (zeros 32), List.replicate 8 (zeros 32)] } }

/-- The same where no source passed. -/
def sourceless : Core := { recovering with ent := { recovering.ent with src := List.replicate 4 { st := .excluded } } }

theorem witness_RecoverySequence :
    recovering.g.recovery = some (0, false) ∧ recovering.cont.holder = some 0 ∧ recovering.halted = true ∧ recovering.leaseHeld = true ∧ recovering.ent.tested = true ∧
    recovering.ent.src.length = 4 ∧ recovering.cont.cx.length = 2 ∧ recovering.alarmStands = false ∧
    ({ recovering with tmp := { recovering.tmp with level := 2 ^ 3 } } : Core).alarmStands = true ∧ (∃ x ∈ recovering.ent.src, x.st = .healthy) ∧
    (recovering.ent.instantiateAll recovering.serialBytes).isSome = true ∧ (∀ x ∈ sourceless.ent.src, x.st ≠ .healthy) ∧ sourceless.ent.tested = true ∧ recovering.lcState ≠ 3 ∧ recovering.task 0 = some recoverTask ∧ recoverTask.st = .committing ∧
    recoverTask.opclass = clsCustody ∧ recoverTask.fenced = false ∧ recoverTask.strictFail = none ∧ Table.wf recovering.cc.tasks = true ∧ later recovering.now recoverTask.deadline = false ∧
    recovering.g.haltFromWake = false := by decide +kernel

/-! ### The spec's worked examples, and published vectors of the standards that the spec names -/

/-- How a computation fails, where it does. -/
def fault {α : Type} (x : SR α) : Option StepOut :=
  match x with
  | .ok _ => none
  | .error o => some o

/-- The dies after a command. -/
def after (i : Instr) (s : State) : Core :=
  match exec i s with
  | .next t => t.core
  | _ => s.core

/-- A number as its bytes, most significant first. -/
def hex (n v : Nat) : Bytes := beBytes n v

/-- The example under R7: the completion is later although its time is numerically smaller. -/
theorem test_later : later 0x000000000200 0xFFFFFFFFF000 = true ∧ ((0x000000000200 : W48) - 0xFFFFFFFFF000).toNat = 4608 := by decide

/-- The address-pair example of Scope: 0x0001 to the *_HI register leaves the base in effect, 0x0002_0003_4000 to the *_LO register puts the pair into effect. -/
def hiWritten : Core := after (.registerWrite 0 0 (0x80000 + 0x40 + 0x08) 0x0001) (at_ readySetup)
theorem test_address_pair : (hiWritten.ringOf 1).sq = 0 ∧ ((after (.addressLoWrite 0 (0x80000 + 0x40) 0x000200034000) (at_ hiWritten)).ringOf 1).sq = 0x0001000200034000 := by decide +kernel

/-- The doorbell example under R89: ring of 64, published head 60, a tail of 1 accepted, then with head 62 a tail of 62 faults with DB_TAIL_ORDER. -/
def ring60 (h t : Nat) : Core :=
  { serve with cc := { rings := [(0, { t := t, f := h, w := 0, c := 0, started := true })] }, mirror := { rings := [(0, { t := t, f := h, w := 0, c := 0, started := true })] } }
theorem test_tail_taken : ((after (.tailDoorbell 0 0 1) (at_ (ring60 60 60))).cc.pos 0).t = 1 := by decide +kernel
theorem test_tail_refused : ((after (.tailDoorbell 0 0 62) (at_ (ring60 62 1))).cc.faults.getD 0 {}).code = 2 ∧ ((after (.tailDoorbell 0 0 62) (at_ (ring60 62 1))).cc.pos 0).t = 1 := by decide +kernel

/-- The pieces of the example of slice 21: the destination of 10,000 bytes at 0x6020_0800 begins with a piece of 2,048 bytes. -/
theorem test_pieces : splitPieces 0x60200800 10000 = [(0x60200800, 2048), (0x60201000, 4096), (0x60202000, 3856)] := by decide

/-- The windows of that example: a read of window 1's bytes passes, and bytes past window 2's end lie in none. -/
def tenant : Slc :=
  { windows := [(0, { base := 0x60000000, len := 0x10000, attr := 0x0F }), (1, { base := 0x60100000, len := 0x3000, attr := 0x3F }), (2, { base := 0x60200000, len := 0x2000, attr := 0x3F })] }
theorem test_windows : (tenant.windowAt 0x60102FFF).isSome = true ∧ tenant.windowAt 0x60103000 = none ∧ tenant.windowAt 0x60202000 = none := by decide

/-- Overlapping windows, as in the example under R45: window 7 of slice 12 begins below the end of window 3; CODE 6, KIND 4, OBJECT 12, SUBINDEX 7. -/
def overlapping : Slc :=
  { enable := true, home := some 0, pasid := 6, windows := [(3, { base := 0x7F000000, len := 0x10000, attr := 0x3F }), (7, { base := 0x7F008000, len := 0x4000, attr := 0x3F })] }
def overlapped : Core := { readySetup with slc := readySetup.slc ++ [(12, overlapping)], ring := [] }
theorem test_overlap : overlapped.check { kind := 0, port := 0, slice := 0 } = some (reasonWord 6 4 12 7) := by decide +kernel

/-- The PIN examples under R204: fields of format 0 and 4, and the PAN fields. -/
def pan16 : List Nat := [4, 0, 0, 0, 1, 2, 3, 4, 5, 6, 7, 8, 9, 0, 1, 0]
theorem test_pin_field0 : pinField 0 [1, 2, 3, 4] (zeros 8) = hex 8 0x041234FFFFFFFFFF ∧ panField 0 pan16 = hex 8 0x0000012345678901 := by decide +kernel
theorem test_pin_field4 : pinField 4 [1, 2, 3, 4] (hex 8 0x3C710E9B52D4861F) = hex 16 0x441234AAAAAAAAAA3C710E9B52D4861F ∧ panField 4 pan16 = hex 16 0x44000123456789010000000000000000 := by decide +kernel

/-- The natural PIN of the example under R212, from I = 0x8A3E_5B07_C91F_24D6, and its offset. -/
theorem test_natural_pin : (nibs 4 (hex 8 0x8A3E5B07C91F24D6)).map (fun v => byteAt v decTable) = [8, 0, 3, 4] ∧
    packNibs 15 ((List.zipWith (fun p n => (p + 10 - n) % 10) [1, 2, 3, 4] [8, 0, 3, 4]) ++ List.replicate 8 15) = hex 6 0x3200FFFFFFFF := by decide +kernel

/-- The decimals of the PVV and CVV examples under R213 and R215. -/
theorem test_decimals : decimals 4 (allNibs (hex 8 0xC4F18B2AD09E3E75)) = [4, 1, 8, 2] ∧ decimals 3 (allNibs (hex 8 0x7B3E90C1AF25D846)) = [7, 3, 9] := by decide +kernel

/-- The EMV example: Y of PAN 4000 1234 5678 9010 and PSN 01. -/
theorem test_emv_y : emvY false pan16 [0, 1] = hex 8 0x0012345678901001 := by decide +kernel

/-- The handle example under R246, and the derivation input under R245. -/
theorem test_handle : handleOf 0x003A41 3 0x02C = 0x003A4100036B := by decide +kernel
theorem test_derivation : derive (zeros 32) 0x107 5 3 128 = cmac (CKey.of 4 (zeros 32)) (hex 15 0x010000000000000107000503000080) := by decide +kernel

/-- The Sieve example: positions 10, 11 and 12; the longer band wins; the word of the row repeated after bad parity. -/
def pad (l : List Nat) : List Nat := l ++ List.replicate (19 - l.length) 15
def example15 : Table SvEntry :=
  [(10, { digits := pad [4, 0, 0, 0, 1, 2], domain := 0x02C, rule := 1, keyset := 0x1A2B }), (11, { digits := pad [4, 0, 0, 0, 1, 2, 9, 9], domain := 0x031, rule := 1, keyset := 0x1A30 }),
   (12, { digits := pad [4, 15, 0, 0], domain := 0x02C, rule := 1, keyset := 0x1A00 })]
theorem test_sieve : svKmax example15 = 8 ∧ ((svBest pan16 0 example15).map (fun e => e.word true)) = some 0x0106C00000B01A2B := by decide +kernel
theorem test_sieve_longer : ((svBest [4, 0, 0, 0, 1, 2, 9, 9, 0, 0, 0, 0, 0, 0, 0, 1] 0 example15).map (·.keyset)) = some 0x1A30 := by decide +kernel

/-- Word 0 of the completion in the example of the status codes: PHASE 1, DETAIL 0x8004, STATUS RECIPE_STEP, TAG 0x5A00_1F03. -/
theorem test_completion :
    leNat (({ entry := patch 4 (leBytes 4 0x5A001F03) goodEntry, status := 0x12, detail := 0x8004 } : Task).completion true |>.take 8) = 0x808004125A001F03 := by decide +kernel

/-- The modular exponentiation example: slots least significant first; a base equal to the modulus fails kind 2, bit 48 of a limb kind 7. -/
def modexp (base : Bytes) : Task := pkTask 0x405 0x00100010 0 (hex 8 0x5F3AE8D1069E0000 ++ hex 8 0x447B210FA3C50000 ++ base ++ hex 8 0x0100010000000000) []
theorem test_modexp_input : intIn true ((modexp (zeros 16)).source.take 16) = 0xC5A30F217B449E06D1E83A5F ∧ intIn true ((modexp (zeros 16)).source.drop 32) = 0x10001 ∧
    (modexp (zeros 16)).pkLengthOk = true ∧ (modexp (zeros 16)).pkPhase = none := by decide +kernel
theorem test_modexp_rejected :
    (modexp (hex 8 0x5F3AE8D1069E0000 ++ hex 8 0x447B210FA3C50000)).pkPhase = some (.ends Status.operandRange 0x4102, true) ∧
    (modexp (zeros 14 ++ [1, 0])).pkPhase = some (.ends Status.inputFormat 0x4107, true) := by decide +kernel

/-- The key-block example: length field 0144, and 96 digits of ciphertext and 32 of MAC; usage P0 with mode of use E fails. -/
theorem test_keyblock :
    (kbWrap (key 8 2) (key 3 2) (ascii "D0000P0AB00N0000") (zeros 30)).take 16 = ascii "D0144P0AB00N0000" ∧ (kbWrap (key 8 2) (key 3 2) (ascii "D0000P0AB00N0000") (zeros 30)).length = 144 ∧
    fault (kbWrapChecks (key 8 2) (key 3 2) (ascii "D0000P0AE00N0000") 144) = some (.sub Sub.keyblockHeader) := by decide +kernel

/-- The refused recipe of Recipes: PIN_DECRYPT's output compared with host bytes leaks, test 15 at step 1. -/
def leaking : Bytes :=
  [1, 0, 2, 1] ++ zeros 12 ++ [1] ++ zeros 111 ++
  leBytes 8 (8 * 2 ^ 40 + 0x31 * 2 ^ 32 + 4) ++ leBytes 8 (word 0 1 0 0x040 0x018 0x010) ++
  leBytes 8 (9 * 2 ^ 45 + 0x04 * 2 ^ 32 + 2 ^ 8) ++ leBytes 8 (word 0 0 8 0 0x1B8 0x040)
theorem test_refused_recipe : serve.registerTests 0 2 leaking = some (0x10F, 1) := by decide +kernel

/-- AES-128 of FIPS 197, appendix C.1; TDEA of a key of equal halves is DES, whose known vector is under 0123456789ABCDEF. -/
theorem test_aes : aesEnc (hex 16 0x000102030405060708090A0B0C0D0E0F) (hex 16 0x00112233445566778899AABBCCDDEEFF) = hex 16 0x69C4E0D86A7B0430D8CDB78070B4C55A ∧
    aesDec (hex 16 0x000102030405060708090A0B0C0D0E0F) (hex 16 0x69C4E0D86A7B0430D8CDB78070B4C55A) = hex 16 0x00112233445566778899AABBCCDDEEFF := by decide +kernel
theorem test_des : tdeaEnc (hex 16 0x133457799BBCDFF1133457799BBCDFF1) (hex 8 0x0123456789ABCDEF) = hex 8 0x85E813540F0AB405 := by decide +kernel
/-- The digests of "abc" of FIPS 180-4 and FIPS 202. -/
theorem test_sha : sha256 (ascii "abc") = hex 32 0xBA7816BF8F01CFEA414140DE5DAE2223B00361A396177A9CB410FF61F20015AD ∧
    sha384 (ascii "abc") = hex 48 0xCB00753F45A35E8BB5A03D699AC65007272C32AB0EDED1631A8B605A43FF5BED8086072BA1E7CC2358BAECA134C825A7 ∧
    sha3_256 (ascii "abc") = hex 32 0x3A985DA74FE225B2045C172D6BD390BD855F086E3E9D525B46BFE24511431532 := by decide +kernel
/-- The first key of the TDEA DUKPT test data of ANSI X9.24: the PIN key of counter 1. -/
theorem test_dukpt :
    (dukptTdea { key 6 0 with key := hex 16 0x0123456789ABCDEFFEDCBA9876543210 } 0 (hex 10 0xFFFF9876543210E00001)).toOption =
      some (3, hex 16 0x042666B49184CF5C68DE9628D0397B36) := by decide +kernel
/-- Counters without a key (R222). -/
theorem test_dukpt_exhausted : fault (dukptTdea (key 6 0) 0 (hex 10 0xFFFF9876543210E00000)) = some (.sub Sub.ksnExhausted) ∧
    fault (dukptTdea (key 6 0) 0 (hex 10 0xFFFF9876543210FFFFFF)) = some (.sub Sub.ksnExhausted) := by decide +kernel

/-! ### Ill-formed terms: for every check of WellFormed.lean one term that it refuses; and each such command at the last value that it takes -/

def ill0 : List Instr :=
  [.pwrokOutRise 4, .keyTreeLoadComplete [] [] [] [] [], .keyTreeLoadComplete (zeros 256) [[]] [] [] [], .startupTestEnd 4 0 0,
   .glbCtrlHalt 4 0, .glbCtrlQuiesce 4 0, .glbCtrlResume 4 0, .glbCtrlEnable 4 0,
   .glbCtrlEnableClear 4 0, .configCheckEnd 0 4 0, .configCheckEnd 3 0 0, .configCheckEnd 0 0 1024,
   .portCtrlEnable 4 0, .portCtrlEnableClear 4 0, .slcCtrlEnable 4 0 0, .slcCtrlEnable 0 1024 0,
   .slcCtrlEnableClear 4 0 0, .slcCtrlEnableClear 0 1024 0, .ringCtrlEnable 4 0 0, .ringCtrlEnable 0 4096 0,
   .ringCtrlEnableClear 4 0 0, .ringCtrlEnableClear 0 4096 0, .registerWrite 4 0 0 0, .registerWrite 0 5 0 0]

def ill1 : List Instr :=
  [.registerWrite 0 0 0x1000000 0, .addressLoWrite 4 0 0, .addressLoWrite 0 0x1000000 0, .misalignedAccess 4 0 0 true,
   .misalignedAccess 0 5 0 true, .misalignedAccess 0 0 0x1000000 true, .poisonedWrite 4 0 0 true, .poisonedWrite 0 5 0 true,
   .poisonedWrite 0 0 0x1000000 true, .portSplitWrite 4 0 true 0, .portSplitWrite 0 4 true 0, .perstAssert 4,
   .functionLevelReset 4, .d3hotToD0 4, .perstRelease 4, .linkUp 4 0 0,
   .linkUp 0 6 0, .linkUp 0 0 17, .readCompletionTimeout 65537, .tagCtrlCommit 4 0,
   .tagCtrlDiscard 4 0, .tailDoorbell 4 0 0, .tailDoorbell 0 4096 0, .headDoorbell 4 0 0]

def ill2 : List Instr :=
  [.headDoorbell 0 4096 0, .entryFetchComplete 65537 (zeros 256) 0, .entryFetchComplete 0 (zeros 256) 5, .keyResolutionComplete 65537 true,
   .operandReadComplete 65537 (zeros 256) [] [] [], .randomRequestServe 65537 true, .prefetchFill 8 0, .prefetchFill 0 68,
   .stepComplete 65537 0 true, .stepComplete 0 112 true, .destinationPieceWrite 65537 [], .completionWrite 4 0 true,
   .completionWrite 0 4096 true, .coalTimeExpire 4 0, .coalTimeExpire 0 4096, .dspClassDisable 4 0 0,
   .dspClassDisable 0 8 0, .dspClassEnable 4 0 0, .dspClassEnable 0 8 0, .abortZeroingEnd 65537,
   .rcpRegister 65537, .rcpRetire 65537, .rcpRead 65537, .move 65537 0]

def ill3 : List Instr :=
  [.move 0 32, .xor 65537 0, .xor 0 32, .fill 65537 0,
   .fill 0 32, .compare 65537 0, .compare 0 32, .pack 65537 0,
   .pack 0 32, .unpack 65537 0, .unpack 0 32, .decimalize 65537 0,
   .decimalize 0 32, .encrypt 65537 0, .encrypt 0 32, .decrypt 65537 0,
   .decrypt 0 32, .macGen 65537 0, .macGen 0 32, .macVerify 65537 0,
   .macVerify 0 32, .kcv 65537 0, .kcv 0 32, .pinTranslate 65537 0]

def ill4 : List Instr :=
  [.pinTranslate 0 32, .pinDecrypt 65537 0, .pinDecrypt 0 32, .pinEncrypt 65537 0,
   .pinEncrypt 0 32, .pinVerifyOffset 65537 0, .pinVerifyOffset 0 32, .pinVerifyPvv 65537 0,
   .pinVerifyPvv 0 32, .pinOffsetGen 65537 0, .pinOffsetGen 0 32, .pvvGen 65537 0,
   .pvvGen 0 32, .cvvGen 65537 0, .cvvGen 0 32, .cvvVerify 65537 0,
   .cvvVerify 0 32, .dukptTdeaDerive 65537 0, .dukptTdeaDerive 0 32, .dukptAesDerive 65537 0,
   .dukptAesDerive 0 32, .emvMkDerive 65537 0, .emvMkDerive 0 32, .emvSkDerive 65537 0]

def ill5 : List Instr :=
  [.emvSkDerive 0 32, .arqcVerify 65537 0, .arqcVerify 0 32, .arpcGen 65537 0,
   .arpcGen 0 32, .keyblockWrap 65537 0, .keyblockWrap 0 32, .keyblockUnwrap 65537 0,
   .keyblockUnwrap 0 32, .hash 65537 0, .hash 0 32, .hmac 65537 0,
   .hmac 0 32, .kdf 65537 0, .kdf 0 32, .sign 65537 0,
   .sign 0 32, .sigVerify 65537 0, .sigVerify 0 32, .agree 65537 0,
   .agree 0 32, .resolve 65537 0, .resolve 0 32, .resolveSet 65537 0]

def ill6 : List Instr :=
  [.resolveSet 0 32, .lookup 65537 0 true [], .lookup 0 32 true [], .emit 65537 0,
   .emit 0 32, .ktCreate 65537, .ktGenerate 65537 [], .ktImport 65537,
   .ktVoid 65537, .ktRoll 65537 [], .ktExport 65537, .ktInfo 65537,
   .ktProvenance 65537, .ktChain 65537, .ktSetWrite 65537, .ktRootGenerate 65537,
   .ktRootImport 65537, .ktRootVoid 65537, .ktrLowMarkWrite 4 0, .cuChallenge 65537,
   .cuAuthorize 65537, .cuWithdraw 65537, .cuEnroll 65537, .cuRemove 65537]

def ill7 : List Instr :=
  [.cuQuorum 65537, .cuTransport 65537, .cuComponentBegin 65537, .cuComponent 65537,
   .cuComponentCancel 65537, .cuRelease 65537, .cuRecommission 65537, .cuDomainReset 65537,
   .recoverySequenceEnd true true (zeros 256) [[]] [] [], .recoverySequenceEnd true true [] [] [] [], .flAuthority 65537, .flMember 65537,
   .flExport 65537, .flImport 65537, .challengeExpire 320, .componentSessionExpire 64,
   .bkEncrypt 65537, .bkDecrypt 65537, .bkGcmSeal 65537, .bkGcmOpen 65537,
   .bkMacGen 65537, .bkMacVerify 65537, .bkHash 65537, .bkHmacGen 65537]

def ill8 : List Instr :=
  [.bkHmacVerify 65537, .pkSign 65537, .pkVerify 65537, .pkAgree 65537,
   .pkKemDecap 65537, .pkKemEncap 65537, .pkModexp 65537, .pkModmul 65537,
   .checkPhaseEnd 65537 0, .checkPhaseEnd 0 32, .primeSearchUnitEnd 68 0 none, .primeSearchUnitEnd 0 4 none,
   .pkeRsaGenWrite 4 0 0, .pkeRsaGenWrite 0 4 0, .svOpen 65537, .svWrite 65537,
   .svCommit 65537, .svAbort 65537, .svRead 65537, .healthTestFail 4 true,
   .seedRelease 4 (zeros 256), .seedRelease 0 [], .entCtrlRetest 4 0, .healthReportBad 2]

def ill9 : List Instr :=
  [.complexSelfTestEnd 2 true, .engineStall 8 0, .engineStall 0 68, .dualRailInvalid 8 0,
   .dualRailInvalid 0 68, .crumbEnd 2 true, .flashCopyUnreadable 2, .flashResyncEnd 2,
   .cnFwStage 65537, .cnFwActivate 65537, .cnHandover 65537, .vinStateChange 2 0,
   .vinRestore 2, .alarmDetect 29 0 0, .alarmDetect 0 0 2, .alarmRearm 29,
   .monitorStimulus 29 0 true, .monitorStimulus 0 2 true, .tmConfigure 65537 [], .tmLogRead 65537,
   .injCtrlGo 4 0, .lcRequest 65537, .evcClaim 4, .evcEoi 4 0]

def ill10 : List Instr :=
  [.evcPendWrite 4 0 0, .evcPendWrite 0 6 0, .evcEnableWrite 4 0 0, .evcEnableWrite 0 6 0,
   .evcPrioWrite 4 0 0, .evcPrioWrite 0 22 0, .evcHoldWrite 4 0, .evcMaskSettle 4 0,
   .evcMaskSettle 0 256, .msixMessageSend 4 0, .msixMessageSend 0 16, .mailboxWordWrite 4 true 0 0 0 0,
   .mailboxWordWrite 0 true 1024 0 0 0, .mailboxWordWrite 0 true 0 4 0 0, .mailboxWordWrite 0 true 0 0 8 0, .mailboxPost 4 true 0 0 0,
   .mailboxPost 0 true 1024 0 0, .mailboxPost 0 true 0 4 0, .mailboxRelease 4 true 0 0 0, .mailboxRelease 0 true 1024 0 0,
   .mailboxRelease 0 true 0 4 0, .slcMbxStatClear 4 0 0, .slcMbxStatClear 0 1024 0, .slcViolInfoClear 4 0 0]

def ill11 : List Instr :=
  [.slcViolInfoClear 0 1024 0, .slcNoticeClear 4 0 0, .slcNoticeClear 0 1024 0, .slcWinSelWrite 4 0 0,
   .slcWinSelWrite 0 1024 0, .smbusOtherCommand 256 true true, .smbusWrite 256 (zeros 256), .refclkStable 4,
   .portResetEnd 4, .atsInvalidationRequest 4 0 0, .atsInvalidationRequest 0 0x100000 0, .atsInvalidationRequest 0 0 0x10000000000000,
   .linkLeavesL0 4, .d3hotEntry 4]

/-- Every ill-formed term is refused. -/
theorem smoke_refused : (ill0 ++ ill1 ++ ill2 ++ ill3 ++ ill4 ++ ill5 ++ ill6 ++ ill7 ++ ill8 ++ ill9 ++ ill10 ++ ill11).all (fun i => !i.wf) = true := by decide +kernel

def wellFormed0 : List Instr :=
  [.pwrokOutRise 3, .keyTreeLoadComplete (zeros 256) [zeros 256] [1] [2] [28], .startupTestEnd 3 0 0, .seedComplete [7],
   .glbCtrlHalt 3 0, .glbCtrlQuiesce 3 0, .glbCtrlResume 3 0, .glbCtrlEnable 3 0,
   .glbCtrlEnableClear 3 0, .configCheckEnd 2 3 1023, .portCtrlEnable 3 0, .portCtrlEnableClear 3 0,
   .slcCtrlEnable 3 1023 0, .slcCtrlEnableClear 3 1023 0, .ringCtrlEnable 3 4095 0, .ringCtrlEnableClear 3 4095 0,
   .registerWrite 3 4 16777215 0, .addressLoWrite 3 16777215 0, .misalignedAccess 3 4 16777215 true, .poisonedWrite 3 4 16777215 true,
   .portSplitWrite 3 3 true 0, .perstAssert 3, .functionLevelReset 3, .d3hotToD0 3]

def wellFormed1 : List Instr :=
  [.perstRelease 3, .linkUp 3 5 16, .readCompletionTimeout 65536, .tagCtrlCommit 3 0,
   .tagCtrlDiscard 3 0, .tailDoorbell 3 4095 0, .headDoorbell 3 4095 0, .entryFetchComplete 65536 (zeros 256) 4,
   .keyResolutionComplete 65536 true, .operandReadComplete 65536 (zeros 256) [] [] [], .randomRequestServe 65536 true, .prefetchFill 7 67,
   .stepComplete 65536 111 true, .destinationPieceWrite 65536 [], .completionWrite 3 4095 true, .coalTimeExpire 3 4095,
   .dspClassDisable 3 7 0, .dspClassEnable 3 7 0, .abortZeroingEnd 65536, .rcpRegister 65536,
   .rcpRetire 65536, .rcpRead 65536, .move 65536 31, .xor 65536 31]

def wellFormed2 : List Instr :=
  [.fill 65536 31, .compare 65536 31, .pack 65536 31, .unpack 65536 31,
   .decimalize 65536 31, .encrypt 65536 31, .decrypt 65536 31, .macGen 65536 31,
   .macVerify 65536 31, .kcv 65536 31, .pinTranslate 65536 31, .pinDecrypt 65536 31,
   .pinEncrypt 65536 31, .pinVerifyOffset 65536 31, .pinVerifyPvv 65536 31, .pinOffsetGen 65536 31,
   .pvvGen 65536 31, .cvvGen 65536 31, .cvvVerify 65536 31, .dukptTdeaDerive 65536 31,
   .dukptAesDerive 65536 31, .emvMkDerive 65536 31, .emvSkDerive 65536 31, .arqcVerify 65536 31]

def wellFormed3 : List Instr :=
  [.arpcGen 65536 31, .keyblockWrap 65536 31, .keyblockUnwrap 65536 31, .hash 65536 31,
   .hmac 65536 31, .kdf 65536 31, .sign 65536 31, .sigVerify 65536 31,
   .agree 65536 31, .resolve 65536 31, .resolveSet 65536 31, .lookup 65536 31 true [],
   .emit 65536 31, .ktCreate 65536, .ktGenerate 65536 [67], .ktImport 65536,
   .ktVoid 65536, .ktRoll 65536 [67], .ktExport 65536, .ktInfo 65536,
   .ktProvenance 65536, .ktChain 65536, .ktSetWrite 65536, .ktRootGenerate 65536]

def wellFormed4 : List Instr :=
  [.ktRootImport 65536, .ktRootVoid 65536, .ktrLowMarkWrite 3 0, .cuChallenge 65536,
   .cuAuthorize 65536, .cuWithdraw 65536, .cuEnroll 65536, .cuRemove 65536,
   .cuQuorum 65536, .cuTransport 65536, .cuComponentBegin 65536, .cuComponent 65536,
   .cuComponentCancel 65536, .cuRelease 65536, .cuRecommission 65536, .cuDomainReset 65536,
   .recoverySequenceEnd true true (zeros 256) [zeros 256] [1] [2], .flAuthority 65536, .flMember 65536, .flExport 65536,
   .flImport 65536, .challengeExpire 319, .componentSessionExpire 63, .bkEncrypt 65536]

def wellFormed5 : List Instr :=
  [.bkDecrypt 65536, .bkGcmSeal 65536, .bkGcmOpen 65536, .bkMacGen 65536,
   .bkMacVerify 65536, .bkHash 65536, .bkHmacGen 65536, .bkHmacVerify 65536,
   .pkSign 65536, .pkVerify 65536, .pkAgree 65536, .pkKemDecap 65536,
   .pkKemEncap 65536, .pkModexp 65536, .pkModmul 65536, .checkPhaseEnd 65536 31,
   .primeSearchUnitEnd 67 3 none, .pkeRsaGenWrite 3 3 0, .svOpen 65536, .svWrite 65536,
   .svCommit 65536, .svAbort 65536, .svRead 65536, .healthTestFail 3 true]

def wellFormed6 : List Instr :=
  [.seedRelease 3 (zeros 256), .entCtrlRetest 3 0, .healthReportBad 1, .complexSelfTestEnd 1 true,
   .engineStall 7 67, .dualRailInvalid 7 67, .crumbEnd 1 true, .flashCopyUnreadable 1,
   .flashResyncEnd 1, .cnFwStage 65536, .cnFwActivate 65536, .cnHandover 65536,
   .vinStateChange 1 0, .vinRestore 1, .alarmDetect 28 0 1, .alarmRearm 28,
   .monitorStimulus 28 1 true, .tmConfigure 65536 [], .tmLogRead 65536, .injCtrlGo 3 0,
   .lcRequest 65536, .evcClaim 3, .evcEoi 3 0, .evcPendWrite 3 5 0]

def wellFormed7 : List Instr :=
  [.evcEnableWrite 3 5 0, .evcPrioWrite 3 21 0, .evcHoldWrite 3 0, .evcMaskSettle 3 255,
   .msixMessageSend 3 15, .mailboxWordWrite 3 true 1023 3 7 0, .mailboxPost 3 true 1023 3 0, .mailboxRelease 3 true 1023 3 0,
   .slcMbxStatClear 3 1023 0, .slcViolInfoClear 3 1023 0, .slcNoticeClear 3 1023 0, .slcWinSelWrite 3 1023 0,
   .smbusOtherCommand 255 true true, .smbusWrite 255 (zeros 256), .refclkStable 3, .portResetEnd 3,
   .atsInvalidationRequest 3 1048575 4503599627370495, .linkLeavesL0 3, .d3hotEntry 3]

/-- Every command whose operands are at the end of their ranges is well-formed. -/
theorem smoke_taken : (wellFormed0 ++ wellFormed1 ++ wellFormed2 ++ wellFormed3 ++ wellFormed4 ++ wellFormed5 ++ wellFormed6 ++ wellFormed7).all Instr.wf = true := by decide +kernel
/-! ### Forms that the witnesses above leave out -/

def configuring : Core := { checkingAll with g := { checkingAll.g with mode := .analysis, phase := .configuring } }

theorem witness_EnableWhileChecking_analysis :
    (at_ configuring).reaches 0 ∧ configuring.g.mode = .analysis ∧ configuring.g.phase = .configuring ∧ configuring.globalChecking = true := by decide

theorem witness_AddressPairs_high :
    readySetup.ringNo 0 4095 = some 4095 ∧ 4095 < 4096 ∧ readySetup.sliceLocked 0 (readySetup.ringOf 4095).slice = false ∧
    (readySetup.ringOf 4095).sq < 2 ^ 64 ∧ (readySetup.ringOf 4095).cq < 2 ^ 64 ∧ (readySetup.ringOf 4095).msgAddr < 2 ^ 64 := by decide

theorem witness_SplitAndTag_both : (3 : W64).toNat.testBit 1 = true ∧ (2 : W64).toNat.testBit 0 = false ∧ 0 < setup.flash.writesLeft ∧ tagging.r.tagBusy = true := by decide

theorem witness_WritesLeave_ats :
    let c := port0 (withTask serve (writing 0x1FFFF)) (fun p => { p with ats := true })
    let d := port0 (withTask serve ended) (fun p => { p with ats := true })
    c.leaseHeld = true ∧ c.pieceTurn 0 = some 0 ∧ (c.port 0).ats = true ∧ (c.port 0).translations.contains ((c.slice 0).pasid, 0x1FFFF / 4096) = false ∧ (c.slice 0).cause 0x1FFFF 1 4 true = 0 ∧
    ([0x1F] : List Nat).contains (0x1FFFF / 4096) = true ∧ ([] : List Nat).contains (0x1FFFF / 4096) = false ∧
    d.completionTurn 0 = some 0 ∧ (d.port 0).ats = true ∧ (d.port 0).translations.contains ((d.slice 0).pasid, 0x11040 / 4096) = false ∧ (d.slice 0).cause 0x11040 1 2 true = 0 ∧
    ({ d with ring := [] } : Core).completionTurn 0 ≠ some 0 := by decide +kernel

/-- A VOID record of a slot, under a tag of zeros. -/
def voids (gen : Nat) (i : Nat) : Bytes := (voidRec i gen (leafNode 3 2)).head ++ zeros 16 ++ (voidRec i gen (leafNode 3 2)).ext

theorem witness_KeyTreeEvents_compaction :
    (JRec.decode (voids 2 0x1001)).isSome = true ∧ (JRec.decode (voids 2 0x1001)).map (·.type) = some .void ∧
    compact ([voids 1 0x1001] ++ voids 2 0x1001 :: [voids 1 0x1002]) = [voids 2 0x1001, voids 1 0x1002] := by decide +kernel

theorem witness_SieveOperations_waits :
    let t := ktTask 0x602 0 0 [] 0
    let c := withTask (staged svImage) t
    opAt c clsAdmin 0x602 t = true ∧ c.svGlazed 0 t = false ∧ ({ c with mirror := { c.cc with tasks := [(0, t)] } } : Core).svGlazed 0 t = true := by decide +kernel

theorem witness_GlazeAndLozenge_losing : (powered [0, 0] 1).pwr.losing ≠ 0 ∧ (powered [0, 0] 1).cont.holder.isSome = true := by decide

theorem witness_PowerAndTelemetry_flush :
    200 ≤ 200 ∧ 200 < 201 ∧ (powered [0, 0] 1).pwr.losing = 1 ∧ (powered [0, 0] 1).pwr.pwrok = true ∧
    ({ powered [0, 0] 1 with pwr := { (powered [0, 0] 1).pwr with pwrok := false } } : Core).pwr.pwrok = false ∧ 2 ≤ (powered [0, 0] 2).pwr.losing := by decide

theorem witness_LifeCycleAndDebug_forms :
    (2 ≤ 2 ∧ 2 ≤ 3) ∧ (0x33 < 256 ∧ 0x33 ∉ [0xFE, 0x01, 0x02, 0x20, 0x21]) ∧ 0x20 ∈ [0xFE, 0x01, 0x02, 0x20, 0x21] ∧
    8 * ((transit 2 4).lcs.trims.length + (transit 2 4).lcs.l0.length + (transit 2 4).lcs.attSeed.length) ≤ 2 ^ 16 ∧ 8 ≤ 8 := by decide +kernel

/-- Reads of registers of each kind, in SERVE with one ring pair at work (R12, R22, R56, R85, R384). -/
theorem test_reads :
    (at_ serve).reaches 0 ∧ (at_ serve).readBar 0 0 0x50 = 1 ∧ (at_ serve).readBar 0 0 0x48 = serve.g.modeTime.toNat ∧
    (at_ serve).readBar 0 0 0x10110 = (serve.port 0).quota ∧ (at_ serve).readBar 0 0 0x0D0018 = serve.r.lowMark ∧ (serve.ringOf 0).enable = true ∧
    (at_ serve).readBar 0 1 0 = 3 * 2 ^ 16 + 1 ∧ (at_ serve).readBar 0 1 8 = 1 * 2 ^ 16 + 2 ∧ (at_ serve).readBar 0 1 0x1000 = 0 ∧
    (at_ serve).readBar 0 0 0x120008 = serve.cont.glazed ∧ (at_ captured).readBar 0 0 0x40058 = 0 := by decide +kernel

/-- Writes of a slice's two holders: the event controller's words read back as they stand. -/
theorem test_reads_evc :
    interrupted.readBar 0 0 0x20140 = claimed.enable % 2 ^ 48 ∧ interrupted.readBar 0 0 0x20100 = claimed.pend % 2 ^ 48 := by decide +kernel

theorem test_wf_ranges : ([.transitStepEnd 4 0, .bypass 256] : List Instr).all (fun i => !i.wf) = true ∧ ([.transitStepEnd 3 0, .bypass 255] : List Instr).all Instr.wf = true := by decide

theorem witness_SliceStartAndEnable_forms : (serve.slice 0).enable = true ∧ serve.g.locked = true ∧ (serve.port 0).enable = true ∧ setup.g.locked = false ∧ (wired.port 0).enable = false := by decide

theorem witness_EntropyAndPrimes_tests : 41 ≤ 41 ∧ 3 < 41 ∧ 795 ≤ 795 ∧ ((sources .testing).ent.src[0]?).map (·.st) = some .testing := by decide
end Sys2Proof.Tests
end

section
/-! PROOFS. Device time: the half-range comparison of two device times (R7). -/

namespace Sys2Proof.Machine

/-- `later` as R7 words it: the distance from u to t lies in the lower half of the range, 0 left out. -/
theorem later_iff (t u : DevTime) : later t u = true ↔ 1 ≤ (t - u).toNat ∧ (t - u).toNat ≤ 2 ^ 47 - 1 := by
  unfold later
  rw [Bool.and_eq_true, decide_eq_true_iff, decide_eq_true_iff, Nat.le_sub_one_iff_lt (by decide)]

/-- A distance in the upper half of the range is not later. -/
theorem later_eq_false_of_half_le {t u : DevTime} (h : 2 ^ 47 ≤ (t - u).toNat) : later t u = false := by
  rw [← Bool.not_eq_true, later_iff]
  omega

/-- The distance of two device times is 0 exactly when they are equal. -/
theorem devTime_distance_eq_zero_iff (t u : DevTime) : (t - u).toNat = 0 ↔ t = u := by
  have ht := t.isLt
  have hu := u.isLt
  rw [BitVec.toNat_sub, BitVec.toNat_eq]
  omega

/-- Settles O3: the comparison read as R7's bounds on the distance, with R7's example of a deadline before the wrap evaluated. -/
theorem halfRangeRule : Obligations.HalfRangeRule :=
  ⟨later_iff, devTime_distance_eq_zero_iff, fun _ _ => later_eq_false_of_half_le, by decide⟩

end Sys2Proof.Machine
end

section
/-! PROOFS. Doorbells: how a doorbell write reaches the two judgements of R87, and the three outcomes of each. -/

namespace Sys2Proof.Machine

/-! ### The way to the judgement (R86) -/

/-- A doorbell write that reaches its port's function, on a ring pair whose doorbells are applied, is logged and then judged by its bits [15:0]. -/
theorem Core.doorbell_of_live {c : Core} {port l r : Nat} (offset : Nat) (v : W64) (f : Core → Nat → Nat → Nat → Core)
    (hreach : c.hostUp port = true ∧ c.scrapped = false ∧ c.cont.dead = false)
    (hring : c.ringNo port l = some r) (hlive : c.doorbellLive port r = true) :
    c.doorbell port l offset v f = f (c.logHost port 1 (l * 0x1000 + offset) v.toNat) port r (v.toNat % 2 ^ 16) := by
  unfold Core.doorbell
  rw [Core.hostWrite_reaches c port 1 _ _ _ hreach]
  have hring' : (c.logHost port 1 (l * 0x1000 + offset) v.toNat).ringNo port l = some r := hring
  have hlive' : (c.logHost port 1 (l * 0x1000 + offset) v.toNat).doorbellLive port r = true := hlive
  simp only [hring', hlive', if_true]
  rfl

section Live

variable {s : State} {port l r : Nat} (value : W64) (hreach : s.reaches port) (hring : s.core.ringNo port l = some r)
  (hlive : s.core.doorbellLive port r = true)

include hreach hring hlive

/-- TAIL_DOORBELL on a ring pair whose doorbells are applied is the tail's judgement of the dies with the write in their log. -/
theorem exec_tailDoorbell_of_live :
    exec (.tailDoorbell port l value) s =
      .next (s.after ((s.noted port 1 (l * 0x1000) value.toNat).tail port r (value.toNat % 2 ^ 16))) := by
  change run (fun c => c.doorbell port l 0 value Core.tail) s = _
  rw [run_eq, Core.doorbell_of_live (c := s.dies) 0 value Core.tail hreach hring hlive, Nat.add_zero]
  rfl

/-- HEAD_DOORBELL on a ring pair whose doorbells are applied is the head's judgement of the dies with the write in their log. -/
theorem exec_headDoorbell_of_live :
    exec (.headDoorbell port l value) s =
      .next (s.after ((s.noted port 1 (l * 0x1000 + 8) value.toNat).head port r (value.toNat % 2 ^ 16))) := by
  change run (fun c => c.doorbell port l 8 value Core.head) s = _
  rw [run_eq, Core.doorbell_of_live (c := s.dies) 8 value Core.head hreach hring hlive]
  rfl

end Live

/-! ### The judgement of a tail (R87) -/

/-- A tail in the ring that does not fall short of the last accepted one, counted from the published head, is taken. -/
theorem Core.tail_of_accepted {c : Core} {r v : Nat} (port : Nat) (hrange : v < (c.ringOf r).n)
    (horder : ringDist (c.ringOf r).n (c.cc.pos r).t (c.mirror.pos r).f ≤ ringDist (c.ringOf r).n v (c.mirror.pos r).f) :
    c.tail port r v = c.allCC (·.updPos r (fun q => { q with t := v })) := by
  unfold Core.tail
  rw [if_neg (Nat.not_le.2 hrange), if_neg (Nat.not_lt.2 horder)]

/-- A tail outside the ring is DB_TAIL_RANGE. -/
theorem Core.tail_of_outOfRange {c : Core} {r v : Nat} (port : Nat) (hrange : (c.ringOf r).n ≤ v) :
    c.tail port r v = c.doorbellFault port 1 (c.ringLocal port r) := by
  unfold Core.tail
  rw [if_pos hrange]

/-- A tail in the ring from the published head up to the last accepted tail is DB_TAIL_ORDER. -/
theorem Core.tail_of_outOfOrder {c : Core} {r v : Nat} (port : Nat) (hrange : v < (c.ringOf r).n)
    (horder : ringDist (c.ringOf r).n v (c.mirror.pos r).f < ringDist (c.ringOf r).n (c.cc.pos r).t (c.mirror.pos r).f) :
    c.tail port r v = c.doorbellFault port 2 (c.ringLocal port r) := by
  unfold Core.tail
  rw [if_neg (Nat.not_le.2 hrange), if_pos horder]

/-! ### The judgement of a completion head (R87) -/

/-- A head in the ring that does not pass the write position, counted from the last accepted head, is taken. -/
theorem Core.head_of_accepted {c : Core} {r v : Nat} (port : Nat) (hrange : v < (c.ringOf r).n)
    (horder : ringDist (c.ringOf r).n v (c.cc.pos r).c ≤ ringDist (c.ringOf r).n (c.cc.pos r).w (c.cc.pos r).c) :
    c.head port r v = c.allCC (·.updPos r (fun q => { q with c := v })) := by
  unfold Core.head
  rw [if_neg (Nat.not_le.2 hrange), if_neg (Nat.not_lt.2 horder)]

/-- A head outside the ring is DB_HEAD_RANGE. -/
theorem Core.head_of_outOfRange {c : Core} {r v : Nat} (port : Nat) (hrange : (c.ringOf r).n ≤ v) :
    c.head port r v = c.doorbellFault port 3 (c.ringLocal port r) := by
  unfold Core.head
  rw [if_pos hrange]

/-- A head in the ring that passes the write position is DB_HEAD_ORDER. -/
theorem Core.head_of_outOfOrder {c : Core} {r v : Nat} (port : Nat) (hrange : v < (c.ringOf r).n)
    (horder : ringDist (c.ringOf r).n (c.cc.pos r).w (c.cc.pos r).c < ringDist (c.ringOf r).n v (c.cc.pos r).c) :
    c.head port r v = c.doorbellFault port 4 (c.ringLocal port r) := by
  unfold Core.head
  rw [if_neg (Nat.not_le.2 hrange), if_pos horder]

/-- Settles O12: each doorbell comes to its judgement, whose three outcomes are R87's; the log entry that the write has added is no part of what the judgement reads. -/
theorem doorbellRule : Obligations.DoorbellRule := by
  intro s port l r value hreach hring hlive _ n v p h tail head
  have tailAnswers {c : Core} (hc : tail.tail port r v = c) : exec (.tailDoorbell port l value) s = .next (s.after c) := by
    rw [← hc]; exact exec_tailDoorbell_of_live value hreach hring hlive
  have headAnswers {c : Core} (hc : head.head port r v = c) : exec (.headDoorbell port l value) s = .next (s.after c) := by
    rw [← hc]; exact exec_headDoorbell_of_live value hreach hring hlive
  exact
    ⟨fun ⟨hrange, horder⟩ => tailAnswers (Core.tail_of_accepted port hrange horder),
     fun hrange => tailAnswers (Core.tail_of_outOfRange port hrange),
     fun ⟨hrange, horder⟩ => tailAnswers (Core.tail_of_outOfOrder port hrange horder),
     fun ⟨hrange, horder⟩ => headAnswers (Core.head_of_accepted port hrange horder),
     fun hrange => headAnswers (Core.head_of_outOfRange port hrange),
     fun ⟨hrange, horder⟩ => headAnswers (Core.head_of_outOfOrder port hrange horder)⟩

end Sys2Proof.Machine
end

section
/-! PROOFS. Event controllers: the priority stack over a claim and an end of interrupt (R140 to R142). -/

namespace Sys2Proof.Machine

/-! ### The stack's order -/

/-- A stack is in order where its top saved the level below it and lies strictly above that level, and the rest is in order. -/
theorem stackOk_cons (x : StackEnt) (r : List StackEnt) :
    stackOk (x :: r) ↔
      x.saved = r.head?.map (·.level) ∧ (∀ l, r.head?.map (·.level) = some l → l < x.level) ∧ stackOk r := by
  cases r with
  | nil => simp [stackOk]
  | cons y r => simp [stackOk, and_left_comm]

/-- Levels fall by one at least from entry to entry, so no more entries lie below the top than levels. -/
theorem length_le_level_of_stackOk {x : StackEnt} {r : List StackEnt} (h : stackOk (x :: r)) : r.length ≤ x.level := by
  induction r generalizing x with
  | nil => exact Nat.zero_le _
  | cons y r ih =>
    obtain ⟨-, hlt, hr⟩ := (stackOk_cons x (y :: r)).1 h
    exact Nat.succ_le_of_lt (Nat.lt_of_le_of_lt (ih hr) (hlt y.level rfl))

/-- A stack in order over the 16 levels holds 16 entries at most (R141). -/
theorem length_le_of_stackOk {l : List StackEnt} (h : stackOk l) (hl : ∀ x ∈ l, x.level < 16) : l.length ≤ 16 := by
  cases l with
  | nil => exact Nat.zero_le _
  | cons x r => exact Nat.succ_le_of_lt (Nat.lt_of_le_of_lt (length_le_level_of_stackOk h) (hl x List.mem_cons_self))

/-! ### Signaling leaves the claims alone -/

/-- Signaling again touches only the signaling level and the requests. -/
theorem Evc.resignal_eq (e : Evc) : ∃ sig req, e.resignal = { e with sig := sig, req := req } := by
  unfold Evc.resignal
  dsimp only
  split
  · exact ⟨none, e.req, rfl⟩
  · next l _ =>
    split
    · exact ⟨e.sig, e.req, rfl⟩
    · exact ⟨some l, e.req ||| 2 ^ l, rfl⟩

@[simp] theorem Evc.resignal_pend (e : Evc) : e.resignal.pend = e.pend := by obtain ⟨_, _, h⟩ := e.resignal_eq; rw [h]
@[simp] theorem Evc.resignal_enable (e : Evc) : e.resignal.enable = e.enable := by obtain ⟨_, _, h⟩ := e.resignal_eq; rw [h]
@[simp] theorem Evc.resignal_active (e : Evc) : e.resignal.active = e.active := by obtain ⟨_, _, h⟩ := e.resignal_eq; rw [h]
@[simp] theorem Evc.resignal_prio (e : Evc) : e.resignal.prio = e.prio := by obtain ⟨_, _, h⟩ := e.resignal_eq; rw [h]
@[simp] theorem Evc.resignal_stack (e : Evc) : e.resignal.stack = e.stack := by obtain ⟨_, _, h⟩ := e.resignal_eq; rw [h]
@[simp] theorem Evc.resignal_strayCount (e : Evc) : e.resignal.strayCount = e.strayCount := by obtain ⟨_, _, h⟩ := e.resignal_eq; rw [h]

/-- Signaling again keeps a controller coherent. -/
theorem Evc.Ok.resignal {e : Evc} (h : e.Ok) : e.resignal.Ok := by
  obtain ⟨_, _, he⟩ := e.resignal_eq
  rw [he]
  exact ⟨h.pend, h.enable, h.levels, h.stack, h.entries, h.distinct, h.active⟩

/-! ### A claim (R140, R141) -/

/-- What a read of a table finds is an entry of it. -/
theorem Table.mem_of_find {α : Type} {k : Nat} {v : α} {t : Table α} (h : Table.find k t = some v) : (k, v) ∈ t := by
  induction t with
  | nil => exact nomatch h
  | cons x t ih =>
    obtain ⟨j, w⟩ := x
    unfold Table.find at h
    split at h
    · next hj => cases h; exact hj ▸ List.mem_cons_self
    · split at h
      · exact nomatch h
      · exact List.mem_cons_of_mem _ (ih h)

/-- Every source of a coherent controller has one of the 16 levels. -/
theorem Evc.Ok.level_lt {e : Evc} (h : e.Ok) (n : Nat) : e.level n < 16 := by
  unfold Evc.level Table.findD
  cases hf : Table.find n e.prio with
  | none => decide
  | some l => exact h.levels _ (Table.mem_of_find hf)

/-- A level is above the running one where it exceeds it, or nothing runs. -/
theorem Evc.above_iff (e : Evc) (l : Nat) : e.above l = true ↔ ∀ r, e.running = some r → r < l := by
  unfold Evc.above
  cases e.running <;> simp

/-- A deliverable source lies above the running level. -/
theorem Evc.running_lt_of_deliverable {e : Evc} {n : Nat} (h : e.deliverable n = true) : ∀ r, e.running = some r → r < e.level n := by
  obtain ⟨-, habove⟩ := (Bool.and_eq_true _ _).mp h
  exact (e.above_iff _).1 habove

@[simp] theorem Evc.take_stack (e : Evc) (n : Nat) :
    (e.take n).stack = { source := n, level := e.level n, saved := e.running } :: e.stack := by simp [Evc.take]

/-- The claim of a deliverable source leaves the stack in order. -/
theorem Evc.Ok.stackOk_take {e : Evc} (h : e.Ok) {n : Nat} (hn : e.deliverable n = true) : stackOk (e.take n).stack := by
  rw [Evc.take_stack, stackOk_cons]
  exact ⟨rfl, Evc.running_lt_of_deliverable hn, h.stack⟩

/-- Settles O8: the stack falls strictly over the 16 levels, before a claim and after it. -/
theorem stackNeverOverflows : Obligations.StackNeverOverflows := by
  intro e he
  have hlevels : ∀ x ∈ e.stack, x.level < 16 := fun x hx => (he.entries x hx).2.2
  refine ⟨length_le_of_stackOk he.stack hlevels, fun n hn => ⟨?_, Evc.running_lt_of_deliverable hn, ?_⟩⟩
  · simp [Evc.running]
  · refine length_le_of_stackOk (he.stackOk_take hn) ?_
    rw [Evc.take_stack, List.forall_mem_cons]
    exact ⟨he.level_lt n, hlevels⟩

/-! ### The entry that an end of interrupt removes (R142) -/

/-- What an end of interrupt leaves of the stack: the most recent claim is popped, an earlier one dropped. -/
def endEntry (s : Nat) : List StackEnt → List StackEnt
  | [] => []
  | x :: r => if x.source = s then r else dropEntry s (x :: r)

/-- An entry without the level it saved: what the end of another claim never changes. -/
def StackEnt.claim (x : StackEnt) : Nat × Nat := (x.source, x.level)

theorem dropEntry_of_next {s : Nat} {x y : StackEnt} (r : List StackEnt) (hy : y.source = s) :
    dropEntry s (x :: y :: r) = { x with saved := y.saved } :: r := by
  rw [dropEntry, if_pos hy]

theorem dropEntry_of_deeper {s : Nat} {x y : StackEnt} (r : List StackEnt) (hy : y.source ≠ s) :
    dropEntry s (x :: y :: r) = x :: dropEntry s (y :: r) := by
  rw [dropEntry, if_neg hy]

/-- A drop below the top takes out the first entry of the source and leaves the sources and levels of the others. -/
theorem dropEntry_claims {s : Nat} {x : StackEnt} {r : List StackEnt} (hx : x.source ≠ s) :
    (dropEntry s (x :: r)).map (·.claim) = ((x :: r).eraseP (·.source == s)).map (·.claim) := by
  induction r generalizing x with
  | nil => simp [dropEntry, hx]
  | cons y r ih =>
    by_cases hy : y.source = s
    · simp [dropEntry_of_next r hy, hx, hy, StackEnt.claim]
    · rw [dropEntry_of_deeper r hy, List.map_cons, ih hy]
      simp [hx]

/-- A drop below the top keeps the top's level. -/
theorem dropEntry_top {s : Nat} {x : StackEnt} {r : List StackEnt} (hx : x.source ≠ s) :
    (dropEntry s (x :: r)).head?.map (·.level) = some x.level := by
  cases r with
  | nil => simp [dropEntry, hx]
  | cons y r =>
    by_cases hy : y.source = s
    · simp [dropEntry_of_next r hy]
    · simp [dropEntry_of_deeper r hy]

/-- A drop below the top keeps the stack in order: the level that the dropped entry saved passes to the entry above it. -/
theorem stackOk_dropEntry {s : Nat} {x : StackEnt} {r : List StackEnt} (hx : x.source ≠ s) (h : stackOk (x :: r)) :
    stackOk (dropEntry s (x :: r)) := by
  induction r generalizing x with
  | nil => simpa [dropEntry, hx] using h
  | cons y r ih =>
    obtain ⟨hsaved, hlt, hyr⟩ := (stackOk_cons x (y :: r)).1 h
    by_cases hy : y.source = s
    · obtain ⟨hysaved, hylt, hr⟩ := (stackOk_cons y r).1 hyr
      rw [dropEntry_of_next r hy, stackOk_cons]
      exact ⟨hysaved, fun l hl => Nat.lt_trans (hylt l hl) (hlt y.level rfl), hr⟩
    · rw [dropEntry_of_deeper r hy, stackOk_cons, dropEntry_top hy]
      exact ⟨hsaved, hlt, ih hy hyr⟩

/-- The end of a claim takes out the first entry of its source and leaves the sources and levels of the others. -/
theorem endEntry_claims (s : Nat) (l : List StackEnt) :
    (endEntry s l).map (·.claim) = (l.eraseP (·.source == s)).map (·.claim) := by
  cases l with
  | nil => rfl
  | cons x r =>
    by_cases hx : x.source = s
    · simp [endEntry, hx]
    · rw [endEntry, if_neg hx, dropEntry_claims hx]

/-- The end of a claim keeps the stack in order. -/
theorem stackOk_endEntry (s : Nat) {l : List StackEnt} (h : stackOk l) : stackOk (endEntry s l) := by
  cases l with
  | nil => exact h
  | cons x r =>
    by_cases hx : x.source = s
    · rw [endEntry, if_pos hx]
      exact ((stackOk_cons x r).1 h).2.2
    · rw [endEntry, if_neg hx]
      exact stackOk_dropEntry hx h

/-- The sources left are the old ones without the one ended. -/
theorem endEntry_sources (s : Nat) (l : List StackEnt) :
    (endEntry s l).map (·.source) = (l.map (·.source)).erase s := by
  have h := congrArg (List.map Prod.fst) (endEntry_claims s l)
  simp only [List.map_map] at h
  rw [List.erase_eq_eraseP', List.eraseP_map]
  exact h

/-- Every entry left has the source and the level of an entry that was there. -/
theorem exists_claim_of_mem_endEntry {s : Nat} {l : List StackEnt} {x : StackEnt} (h : x ∈ endEntry s l) :
    ∃ y ∈ l, y.claim = x.claim := by
  have hx : x.claim ∈ (l.eraseP (·.source == s)).map (·.claim) := endEntry_claims s l ▸ List.mem_map_of_mem h
  obtain ⟨y, hy, hyx⟩ := List.mem_map.1 hx
  exact ⟨y, List.mem_of_mem_eraseP hy, hyx⟩

/-! ### The controller after an end of interrupt (R142) -/

/-- A controller in which the claim of a source is ended, before it signals again. -/
def Evc.endClaim (e : Evc) (s : Nat) : Evc :=
  { e with active := clearBits e.active (2 ^ s), stack := endEntry s e.stack }

theorem Evc.eoi_of_active {e : Evc} {s : Nat} (hs : s ≠ 0) (ha : e.active.testBit s = true) :
    e.eoi s = (e.endClaim s).resignal := by
  unfold Evc.eoi
  rw [if_neg (by simp [hs, ha])]
  unfold Evc.endClaim endEntry
  cases e.stack <;> rfl

theorem Evc.eoi_of_stray {e : Evc} {s : Nat} (h : s = 0 ∨ e.active.testBit s = false) :
    e.eoi s = { e with strayCount := sat 32 (e.strayCount + 1), strayLast := s } := by
  unfold Evc.eoi
  rw [if_pos (by simpa using h)]

theorem testBit_clearBits (m v : Nat) {n : Nat} (hn : n < 256) : (clearBits m v).testBit n = (m.testBit n && !v.testBit n) := by
  simp only [clearBits, Nat.testBit_and, Nat.testBit_xor, Nat.testBit_two_pow_sub_one, hn, decide_true, Bool.true_xor]

/-- An active source is one of 1 to 255. -/
theorem Evc.Ok.active_range {e : Evc} (h : e.Ok) {n : Nat} (hn : e.active.testBit n = true) : 1 ≤ n ∧ n < 256 := by
  obtain ⟨x, hx, rfl⟩ := (h.active n).1 hn
  obtain ⟨hpos, hlt, -⟩ := h.entries x hx
  exact ⟨hpos, hlt⟩

/-- The active sources are those of the stack. -/
theorem Evc.Ok.active_iff_mem {e : Evc} (h : e.Ok) (n : Nat) : e.active.testBit n = true ↔ n ∈ e.stack.map (·.source) := by
  rw [h.active, List.mem_map]

/-- The end of a claim clears the active bit of its source and no other. -/
theorem Evc.Ok.endClaim_active {e : Evc} (h : e.Ok) (s m : Nat) :
    (e.endClaim s).active.testBit m = (e.active.testBit m && m != s) := by
  by_cases hm : m < 256
  · rw [Evc.endClaim, testBit_clearBits _ _ hm, Nat.testBit_two_pow, bne, ← Bool.beq_eq_decide_eq, Bool.beq_comm]
  · have hoff : e.active.testBit m = false := Bool.eq_false_iff.2 fun ha => hm (h.active_range ha).2
    simp [Evc.endClaim, clearBits, hoff]

/-- The end of a claim keeps a controller coherent. -/
theorem Evc.Ok.endClaim {e : Evc} (h : e.Ok) (s : Nat) : (e.endClaim s).Ok where
  pend := h.pend
  enable := h.enable
  levels := h.levels
  stack := stackOk_endEntry s h.stack
  entries := fun x hx => by
    obtain ⟨y, hy, hyx⟩ := exists_claim_of_mem_endEntry hx
    obtain ⟨hsource, hlevel⟩ := Prod.mk.inj hyx
    exact hsource ▸ hlevel ▸ h.entries y hy
  distinct := endEntry_sources s e.stack ▸ h.distinct.erase s
  active := fun n => by
    have hmem : n ∈ (endEntry s e.stack).map (·.source) ↔ n ≠ s ∧ n ∈ e.stack.map (·.source) := by
      rw [endEntry_sources, h.distinct.mem_erase_iff]
    rw [h.endClaim_active, Bool.and_eq_true, bne_iff_ne, h.active_iff_mem, and_comm, ← hmem, List.mem_map]
    rfl

/-- An end of interrupt keeps a controller coherent. -/
theorem Evc.Ok.eoi {e : Evc} (h : e.Ok) (s : Nat) : (e.eoi s).Ok := by
  by_cases hs : s = 0 ∨ e.active.testBit s = false
  · rw [Evc.eoi_of_stray hs]
    exact ⟨h.pend, h.enable, h.levels, h.stack, h.entries, h.distinct, h.active⟩
  · obtain ⟨hpos, ha⟩ := not_or.1 hs
    rw [Evc.eoi_of_active hpos (by simpa using ha)]
    exact (h.endClaim s).resignal

/-- The masks and levels that an end of interrupt leaves alone. -/
theorem Evc.eoi_frame (e : Evc) (s : Nat) : (e.eoi s).pend = e.pend ∧ (e.eoi s).enable = e.enable ∧ (e.eoi s).prio = e.prio := by
  unfold Evc.eoi
  split <;> simp

/-- The stack of a coherent controller is as deep as it has active sources (R142). -/
theorem Evc.Ok.depth {e : Evc} (h : e.Ok) : ((List.range 256).filter (fun n => e.active.testBit n)).length = e.stack.length := by
  have hperm : ((List.range 256).filter (fun n => e.active.testBit n)).Perm (e.stack.map (·.source)) := by
    rw [List.perm_ext_iff_of_nodup (List.nodup_range.filter _) h.distinct]
    intro n
    rw [List.mem_filter, List.mem_range, ← h.active_iff_mem]
    exact ⟨fun hn => hn.2, fun ha => ⟨(h.active_range ha).2, ha⟩⟩
  rw [hperm.length_eq, List.length_map]

/-- The end of an active claim: its active bit clears, its entry leaves the stack, nothing is counted. -/
theorem Evc.Ok.eoi_active {e : Evc} (h : e.Ok) {s : Nat} (ha : e.active.testBit s = true) :
    (e.eoi s).stack = endEntry s e.stack ∧ (∀ m, (e.eoi s).active.testBit m = (e.active.testBit m && m != s)) ∧
      (e.eoi s).strayCount = e.strayCount := by
  rw [Evc.eoi_of_active (Nat.one_le_iff_ne_zero.1 (h.active_range ha).1) ha, Evc.resignal_active, Evc.resignal_stack, Evc.resignal_strayCount]
  exact ⟨rfl, h.endClaim_active s, rfl⟩

/-- The most recent claim ended: the stack is popped and the level saved at the claim runs again. -/
theorem Evc.Ok.eoi_top {e : Evc} (h : e.Ok) {x : StackEnt} {r : List StackEnt} (hstack : e.stack = x :: r) :
    (e.eoi x.source).stack = r ∧ (e.eoi x.source).running = x.saved := by
  have ha : e.active.testBit x.source = true := (h.active _).2 ⟨x, hstack ▸ List.mem_cons_self, rfl⟩
  have hpop : (e.eoi x.source).stack = r := by rw [(h.eoi_active ha).1, hstack, endEntry, if_pos rfl]
  have hok : stackOk (x :: r) := hstack ▸ h.stack
  refine ⟨hpop, ?_⟩
  rw [Evc.running, hpop]
  exact ((stackOk_cons x r).1 hok).1.symm

/-- An earlier claim ended: the running level stays. -/
theorem Evc.Ok.eoi_earlier_running {e : Evc} (h : e.Ok) {x : StackEnt} {r : List StackEnt} {s : Nat} (hstack : e.stack = x :: r)
    (hx : x.source ≠ s) (ha : e.active.testBit s = true) : (e.eoi s).running = e.running := by
  rw [Evc.running, Evc.running, (h.eoi_active ha).1, hstack, endEntry, if_neg hx, dropEntry_top hx]
  rfl

/-! ### The write of EVC_EOI -/

/-- The controller of a port in a state whose controllers are coherent. -/
theorem State.EvcOk.evcOf {s : State} (h : s.EvcOk) {port : Nat} (hp : port < 4) : (s.evcOf port).Ok := by
  have hlen : port < s.evc.length := h.four.symm ▸ hp
  rw [State.evcOf, List.getD_eq_getElem?_getD, List.getElem?_eq_getElem hlen, Option.getD_some]
  exact h.each _ (List.getElem_mem hlen)

/-- Changing the element at a place is writing its changed value there. -/
theorem upd_eq_upd_const {α : Type} (i : Nat) (f : α → α) (l : List α) (d : α) : upd i f l = upd i (fun _ => f (l.getD i d)) l := by
  refine List.ext_getElem (by simp) fun j hj _ => ?_
  simp only [upd, List.getElem_modify]
  split
  · next hij =>
    subst hij
    rw [List.getD_eq_getElem?_getD, List.getElem?_eq_getElem (by rwa [upd_length] at hj), Option.getD_some]
  · rfl

/-- EVC_EOI that reaches its port logs the write and ends the interrupt of bits [7:0] there. -/
theorem exec_evcEoi_of_reach {s : State} {port : Nat} (value : W64) (h : s.evcReach port = true) :
    exec (.evcEoi port value) s =
      .next { s with core := s.core.logHost port 0 0x20008 value.toNat,
                     evc := upd port (fun _ => (s.evcOf port).eoi (value.toNat % 256)) s.evc } := by
  change s.evcWrite port 0x20008 value.toNat (·.eoi (value.toNat % 256)) = _
  rw [State.evcWrite, if_pos h, State.updEvc, upd_eq_upd_const _ _ _ {}]
  rfl

/-- Settles O9: the controller after the write is the coherent one of `Evc.eoi`, in each of R142's cases. -/
theorem endOfInterrupt : Obligations.EndOfInterrupt := by
  intro s port value hs hp hreach
  have he := hs.evcOf hp
  have hok := he.eoi (value.toNat % 256)
  obtain ⟨hpend, henable, hprio⟩ := (s.evcOf port).eoi_frame (value.toNat % 256)
  refine ⟨_, exec_evcEoi_of_reach value hreach, hpend, henable, hprio, hok.stack, hok.depth, ?_, ?_, fun hstray => Evc.eoi_of_stray hstray⟩
  · intro x r hstack hx
    obtain ⟨hpop, hrunning⟩ := he.eoi_top hstack
    rw [hx] at hpop hrunning
    have ha : (s.evcOf port).active.testBit (value.toNat % 256) = true := (he.active _).2 ⟨x, hstack ▸ List.mem_cons_self, hx⟩
    obtain ⟨-, hactive, hcount⟩ := he.eoi_active ha
    exact ⟨hpop, hrunning, hactive, hcount⟩
  · intro x r hstack hx ha
    obtain ⟨hend, hactive, hcount⟩ := he.eoi_active ha
    exact ⟨he.eoi_earlier_running hstack hx ha, hend ▸ endEntry_sources _ _, hactive, hcount⟩

end Sys2Proof.Machine
end
